-- ==== Sys2Proof/Word.lean ====
section
/-! DEFINITION. The words of the ES-6's interfaces: bytes, and the two kinds of sets the lines carry as bits. -/

namespace Sys2Proof

/-- One byte of the console link, a deck line or the settings line (spec 11, R187 and R197). -/
abbrev Byte := BitVec 8

/-- A set of tracks: V, A1, A2, A3, A4 in bits 0 to 4 (spec 11, R197). -/
abbrev TrackSet := BitVec 5

end Sys2Proof
end

