-- ==== Sys2Proof/Syntax.lean ====
section
/-! DEFINITION. The commands of the ES-6: one constructor for each row of spec/opcode_table.json. -/

namespace Sys2Proof

/-- A deck port, 1 to 6 (spec 00 section 3.6). -/
inductive Port where
  | p1 | p2 | p3 | p4 | p5 | p6
  deriving DecidableEq, Repr

/-- A GPI line, 1 to 8 (R179). -/
inductive Line where
  | l1 | l2 | l3 | l4 | l5 | l6 | l7 | l8
  deriving DecidableEq, Repr

/-- One character received on a deck line; `error` when its stop bit is missing or its parity wrong (R58). -/
structure LineChar where
  byte : Byte
  error : Bool
  deriving DecidableEq, Repr

/-- The point at which a settings store stopped because the memory did not acknowledge or a comparison differed
(the five steps of R196); `body n` says how many of the bytes 1 to 153 were written before. -/
inductive StoreStop where
  | invalidate
  | body (written : Nat)
  | compare
  | signature
  | signatureRead
  deriving DecidableEq, Repr

/-- The commands. A request row carries the body of its transfer, byte by byte, as R197 lays it out, so that the
frame test of R188 can fail as it does in the device. Times are in units of 1/1,200,000 s (log entry 1).
`stopFirst`, `lossFirst` and `sequencerFirst` say in which order coinciding work is taken where the manual leaves
the order open (R176, R143, R49; log entry 8). -/
inductive Instr where
  | hardwareReset
  | settingsLoadEnd (read : Option (List Byte)) (time : Nat)
  | fieldPulse (time : Nat) (field1 : Bool) (stopFirst : Bool)
  | referenceRestored
  | referenceLoss (lossFirst : Bool) (stopFirst : Bool)
  | goodFieldTimeout
  | internalField (stopFirst : Bool)
  | sequencerRoll
  | engageTimeout
  | releaseTimeout
  | postrollEnd
  | statusWrite
  | rippleChunkEnd (sequencerFirst : Bool)
  | flipFlop
  | gpiPulseEnd (line : Line)
  | pollMoment (port : Port)
  | deckReply (port : Port) (chars : List LineChar)
  | replyTimeout (port : Port)
  | portOffline (port : Port)
  | sampleJump (port : Port) (sample : Nat)
  | cueTimeout (port : Port)
  | wakeEnd (port : Port)
  | standbyTimeout (port : Port)
  | fetch (clocked : Nat)
  | unknownRequest (code : Byte) (body : List Byte)
  | readByPosition (body : List Byte)
  | readByKey (body : List Byte)
  | find (body : List Byte)
  | listStatus (body : List Byte)
  | insert (body : List Byte)
  | replace (body : List Byte)
  | trim (body : List Byte)
  | delete (body : List Byte)
  | clearList (body : List Byte)
  | ripple (body : List Byte)
  | portStatus (body : List Byte)
  | transport (body : List Byte)
  | cue (body : List Byte)
  | transportStatus (body : List Byte)
  | claimSet (body : List Byte)
  | claimExclusive (body : List Byte)
  | testSet (body : List Byte)
  | releaseSet (body : List Byte)
  | defineReel (body : List Byte)
  | rename (body : List Byte)
  | retire (body : List Byte)
  | mount (body : List Byte)
  | unmount (body : List Byte)
  | readReel (body : List Byte)
  | findReel (body : List Byte)
  | mountTable (body : List Byte)
  | chase (body : List Byte)
  | chaseStop (body : List Byte)
  | trackStatus (body : List Byte)
  | perform (body : List Byte)
  | preview (body : List Byte)
  | review (body : List Byte)
  | abort (body : List Byte)
  | sequencerStatus (body : List Byte)
  | run (body : List Byte)
  | runStatus (body : List Byte)
  | outputStatus (body : List Byte)
  | takeNotice (body : List Byte)
  | reset (body : List Byte)
  | setSystem (body : List Byte)
  | setProfile (body : List Byte)
  | setGpi (body : List Byte)
  | readSettings (body : List Byte)
  | storeSettings (body : List Byte)
  | storeEnd (stop : Option StoreStop)
  | selectAsserted
  deriving DecidableEq, Repr

end Sys2Proof
end

