-- ==== Sys2Proof/Decode.lean ====
section
/-! DEFINITION. How commands are spelt. The opcode table gives no row any bits; a transfer on the console link spells a
command by its first byte (R187) and the request codes of R197. -/

namespace Sys2Proof

/-- The command a word spells by the bits of spec/opcode_table.json: no row of the table has bits, so there is none. -/
def decodeTableWord (_nbits _w : Nat) : Option Instr := none

/-- The request with a code, with a body (the request code table of R197); another code names no request (R188). -/
def requestOf (code : Byte) (body : List Byte) : Instr :=
  match code.toNat with
  | 0x01 => .readByPosition body
  | 0x02 => .readByKey body
  | 0x03 => .find body
  | 0x04 => .listStatus body
  | 0x05 => .insert body
  | 0x06 => .replace body
  | 0x07 => .trim body
  | 0x08 => .delete body
  | 0x09 => .clearList body
  | 0x0A => .ripple body
  | 0x0B => .portStatus body
  | 0x0C => .transport body
  | 0x0D => .cue body
  | 0x0E => .transportStatus body
  | 0x0F => .claimSet body
  | 0x10 => .claimExclusive body
  | 0x11 => .testSet body
  | 0x12 => .releaseSet body
  | 0x13 => .defineReel body
  | 0x14 => .rename body
  | 0x15 => .retire body
  | 0x16 => .mount body
  | 0x17 => .unmount body
  | 0x18 => .readReel body
  | 0x19 => .findReel body
  | 0x1A => .mountTable body
  | 0x1B => .chase body
  | 0x1C => .chaseStop body
  | 0x1D => .trackStatus body
  | 0x1E => .perform body
  | 0x1F => .preview body
  | 0x20 => .review body
  | 0x21 => .abort body
  | 0x22 => .sequencerStatus body
  | 0x23 => .run body
  | 0x24 => .runStatus body
  | 0x25 => .outputStatus body
  | 0x26 => .takeNotice body
  | 0x27 => .reset body
  | 0x28 => .setSystem body
  | 0x29 => .setProfile body
  | 0x2A => .setGpi body
  | 0x2B => .readSettings body
  | 0x2C => .storeSettings body
  | _ => .unknownRequest code body

/-- The command that a transfer on the console link is, by its first byte: FETCH (0x80) with the number of bytes
clocked, or a request transfer (R187). A transfer of no whole byte is no command. -/
def commandOfTransfer : List Byte → Option Instr
  | [] => none
  | code :: body => if code = 0x80 then some (.fetch (body.length + 1)) else some (requestOf code body)

/-- The code of a request command; `none` for the commands that are no request transfer. -/
def requestCode : Instr → Option Byte
  | .hardwareReset => none
  | .settingsLoadEnd _ _ => none
  | .fieldPulse _ _ _ => none
  | .referenceRestored => none
  | .referenceLoss _ _ => none
  | .goodFieldTimeout => none
  | .internalField _ => none
  | .sequencerRoll => none
  | .engageTimeout => none
  | .releaseTimeout => none
  | .postrollEnd => none
  | .statusWrite => none
  | .rippleChunkEnd _ => none
  | .flipFlop => none
  | .gpiPulseEnd _ => none
  | .pollMoment _ => none
  | .deckReply _ _ => none
  | .replyTimeout _ => none
  | .portOffline _ => none
  | .sampleJump _ _ => none
  | .cueTimeout _ => none
  | .wakeEnd _ => none
  | .standbyTimeout _ => none
  | .fetch _ => none
  | .unknownRequest code _ => some code
  | .readByPosition _ => some 0x01
  | .readByKey _ => some 0x02
  | .find _ => some 0x03
  | .listStatus _ => some 0x04
  | .insert _ => some 0x05
  | .replace _ => some 0x06
  | .trim _ => some 0x07
  | .delete _ => some 0x08
  | .clearList _ => some 0x09
  | .ripple _ => some 0x0A
  | .portStatus _ => some 0x0B
  | .transport _ => some 0x0C
  | .cue _ => some 0x0D
  | .transportStatus _ => some 0x0E
  | .claimSet _ => some 0x0F
  | .claimExclusive _ => some 0x10
  | .testSet _ => some 0x11
  | .releaseSet _ => some 0x12
  | .defineReel _ => some 0x13
  | .rename _ => some 0x14
  | .retire _ => some 0x15
  | .mount _ => some 0x16
  | .unmount _ => some 0x17
  | .readReel _ => some 0x18
  | .findReel _ => some 0x19
  | .mountTable _ => some 0x1A
  | .chase _ => some 0x1B
  | .chaseStop _ => some 0x1C
  | .trackStatus _ => some 0x1D
  | .perform _ => some 0x1E
  | .preview _ => some 0x1F
  | .review _ => some 0x20
  | .abort _ => some 0x21
  | .sequencerStatus _ => some 0x22
  | .run _ => some 0x23
  | .runStatus _ => some 0x24
  | .outputStatus _ => some 0x25
  | .takeNotice _ => some 0x26
  | .reset _ => some 0x27
  | .setSystem _ => some 0x28
  | .setProfile _ => some 0x29
  | .setGpi _ => some 0x2A
  | .readSettings _ => some 0x2B
  | .storeSettings _ => some 0x2C
  | .storeEnd _ => none
  | .selectAsserted => none

/-- The body a request command carries. -/
def requestBody : Instr → List Byte
  | .hardwareReset => []
  | .settingsLoadEnd _ _ => []
  | .fieldPulse _ _ _ => []
  | .referenceRestored => []
  | .referenceLoss _ _ => []
  | .goodFieldTimeout => []
  | .internalField _ => []
  | .sequencerRoll => []
  | .engageTimeout => []
  | .releaseTimeout => []
  | .postrollEnd => []
  | .statusWrite => []
  | .rippleChunkEnd _ => []
  | .flipFlop => []
  | .gpiPulseEnd _ => []
  | .pollMoment _ => []
  | .deckReply _ _ => []
  | .replyTimeout _ => []
  | .portOffline _ => []
  | .sampleJump _ _ => []
  | .cueTimeout _ => []
  | .wakeEnd _ => []
  | .standbyTimeout _ => []
  | .fetch _ => []
  | .unknownRequest _ body => body
  | .readByPosition body => body
  | .readByKey body => body
  | .find body => body
  | .listStatus body => body
  | .insert body => body
  | .replace body => body
  | .trim body => body
  | .delete body => body
  | .clearList body => body
  | .ripple body => body
  | .portStatus body => body
  | .transport body => body
  | .cue body => body
  | .transportStatus body => body
  | .claimSet body => body
  | .claimExclusive body => body
  | .testSet body => body
  | .releaseSet body => body
  | .defineReel body => body
  | .rename body => body
  | .retire body => body
  | .mount body => body
  | .unmount body => body
  | .readReel body => body
  | .findReel body => body
  | .mountTable body => body
  | .chase body => body
  | .chaseStop body => body
  | .trackStatus body => body
  | .perform body => body
  | .preview body => body
  | .review body => body
  | .abort body => body
  | .sequencerStatus body => body
  | .run body => body
  | .runStatus body => body
  | .outputStatus body => body
  | .takeNotice body => body
  | .reset body => body
  | .setSystem body => body
  | .setProfile body => body
  | .setGpi body => body
  | .readSettings body => body
  | .storeSettings body => body
  | .storeEnd _ => []
  | .selectAsserted => []

/-- The bytes of the request transfer that spells a command. -/
def transferOf (i : Instr) : Option (List Byte) := (requestCode i).map (fun code => code :: requestBody i)

end Sys2Proof
end

