-- ==== Sys2Proof/Config.lean ====
section
/-! DEFINITION. What the manual leaves free. An opaque constant has no body: a proof about it holds for every value. -/

namespace Sys2Proof

/-- How a flag byte that is neither 0 nor 1 is read (R197 says only that a flag is sent as 1 when set and 0 when
clear): a free value, log entry 13. -/
opaque Config.oddFlag : Byte → Bool

end Sys2Proof
end

