-- ==== Sys2Proof/Machine/State.lean ====
section
/-! DEFINITION. The state of the ES-6: every record the manual gives its thirteen blocks, as plain data. -/

namespace Sys2Proof.Machine

/-! ## Things there is one of for each port and each GPI line -/

/-- One value for each deck port 1 to 6. -/
structure PerPort (α : Type) where
  p1 : α
  p2 : α
  p3 : α
  p4 : α
  p5 : α
  p6 : α
  deriving DecidableEq, Repr

/-- One value for each GPI line 1 to 8. -/
structure PerLine (α : Type) where
  l1 : α
  l2 : α
  l3 : α
  l4 : α
  l5 : α
  l6 : α
  l7 : α
  l8 : α
  deriving DecidableEq, Repr

/-! ## Reference timebase (chapter 1) -/

/-- The frame standard (R1). -/
inductive FrameStd where
  | f25 | f30N | f30D
  deriving DecidableEq, Repr

/-- A label hh:mm:ss:ff (section 1.2). -/
structure Label where
  hh : Nat
  mm : Nat
  ss : Nat
  ff : Nat
  deriving DecidableEq, Repr

/-- The reference state (R12). -/
inductive RefState where
  | present | lost
  deriving DecidableEq, Repr

/-- The parity of a field (R12). -/
inductive Parity where
  | field1 | field2
  deriving DecidableEq, Repr

/-- The reference timebase (R12 to R19). Times are in units of 1/1,200,000 s. -/
structure Reference where
  state : RefState
  /-- 0..8 consecutive good pulses, kept while LOST (R16). -/
  goodRun : Nat
  /-- Parity of the last field event. -/
  parity : Parity
  lastAccepted : Option Nat
  lastSeen : Option Nat
  /-- When the internal timebase made its last field event, or hardware reset ended (R15, R19). -/
  lastField : Nat
  deriving DecidableEq, Repr

/-! ## Edit list (chapters 2 and 3) -/

/-- The class of a fault (R26). -/
inductive FaultClass where
  | abort | reference | recorder | player | cue | sync | check | claim
  deriving DecidableEq, Repr

/-- The status of an event; PARTIAL (`cut`), FAILED and SKIPPED carry their fault class, which is present exactly
with them (R26). -/
inductive EventStatus where
  | new | done | slipped
  | cut (cls : FaultClass)
  | failed (cls : FaultClass)
  | skipped (cls : FaultClass)
  deriving DecidableEq, Repr

/-- A source of an event: a reel index 1..64 and a source in, a frame number (R20). -/
structure Source where
  reel : Nat
  start : Nat
  deriving DecidableEq, Repr

/-- The kind of an event with the fields that are present for it (R20). -/
inductive Transition where
  | cut
  | dissolve (src : Source) (duration : Nat)
  | wipe (src : Source) (duration pattern : Nat) (reverse : Bool)
  deriving DecidableEq, Repr

/-- A GPI trigger: a line and an offset from record in (R20). -/
structure Trigger where
  line : Line
  offset : Int
  deriving DecidableEq, Repr

/-- An event of the list (R20). -/
structure Event where
  key : Nat
  tracks : TrackSet
  recIn : Nat
  recOut : Nat
  toSrc : Source
  transition : Transition
  /-- The motion rate; absent stands for 1024. -/
  rate : Option Nat
  triggers : List Trigger
  status : EventStatus
  previewed : Bool
  deriving DecidableEq, Repr

/-- The ripple record (R44). -/
structure Ripple where
  delta : Int
  /-- The shift set: keys in list order as it stood when the ripple was accepted. -/
  members : List Nat
  /-- How many members from the front of the shift set have been covered. -/
  frontier : Nat
  /-- Keys of members worked out of turn (R51). -/
  ahead : List Nat
  deriving DecidableEq, Repr

/-- The list unit (R23, R25, R44). `events` holds the stored values, in the order of R23 taken over the values seen
in answers (R50): log entry 32. -/
structure ListUnit where
  events : List Event
  keyCounter : Nat
  ripple : Option Ripple
  deriving DecidableEq, Repr

/-! ## Reel table (chapter 6) -/

/-- A defined entry of the reel table (R100). -/
structure Reel where
  name : List Byte
  mounted : Option Port
  deriving DecidableEq, Repr

/-! ## Deck ports (chapter 4) -/

/-- The line state of a port (R57); LOCAL is `panel`. -/
inductive LineState where
  | online | panel | offline
  deriving DecidableEq, Repr

/-- The mode a deck reports (R60). -/
inductive DeckMode where
  | halted | moving | winding | seeking | parked | standby | noTape
  deriving DecidableEq, Repr

/-- A direction of WIND (R59). -/
inductive Dir where
  | forward | reverse
  deriving DecidableEq, Repr

/-- A deck line command with its data (R59); SEEK carries the position to be written as label and phase. -/
inductive DeckCmd where
  | status | halt
  | play (speed : Nat)
  | shuttle (speed : Int)
  | wind (dir : Dir)
  | seek (target : Nat)
  | release | wake
  | engage (tracks : TrackSet)
  | disengage
  deriving DecidableEq, Repr

/-- The kind of a command, without its data (R75, last command kind). -/
inductive CmdKind where
  | status | halt | play | shuttle | wind | seek | release | wake | engage | disengage
  deriving DecidableEq, Repr

/-- The mode, flags and recording track set of a good reply (R60, R75). -/
structure Condition where
  mode : DeckMode
  remote : Bool
  threaded : Bool
  inhibit : Bool
  servo : Bool
  tracks : TrackSet
  deriving DecidableEq, Repr

/-- The last good reply of a port, with the reference frame of its exchange (R57). -/
structure StoredReply where
  condition : Condition
  position : Nat
  frame : Nat
  deriving DecidableEq, Repr

/-- An open exchange: the command in flight and its reference frame (R61). -/
structure Exchange where
  cmd : DeckCmd
  frame : Nat
  deriving DecidableEq, Repr

/-- The state of one deck port (R57). The poll cadence is a function of the state (R62). -/
structure DeckPort where
  line : LineState
  misses : Nat
  countdown : Nat
  exchange : Option Exchange
  commands : List DeckCmd
  permission : Bool
  lastReply : Option StoredReply
  /-- The bytes of the command frame last sent on the transmit pair (log entry 4). -/
  sent : List Byte
  deriving DecidableEq, Repr

/-! ## Transport controller and claim table (chapter 5) -/

/-- The ten transport states (section 5.1); LOCAL is `panel`. -/
inductive TransportState where
  | offline | panel | empty | standby | waking | idle | cueing | parked | rolling | winding
  deriving DecidableEq, Repr

/-- Who asked for a cue or a motion (R75). -/
inductive Requester where
  | console | sequencer | chase
  deriving DecidableEq, Repr

/-- A cue record (R75). -/
structure Cue where
  requester : Requester
  target : Nat
  attempts : Nat
  acked : Bool
  elapsed : Nat
  /-- Frame number at which the deck last stopped under this cue. -/
  lastStop : Option Nat
  deriving DecidableEq, Repr

/-- What a pending motion will do when the wake ends (R75). -/
inductive Motion where
  | play (speed : Nat)
  | shuttle (speed : Int)
  | wind (dir : Dir)
  | cue (target elapsed : Nat)
  deriving DecidableEq, Repr

/-- A pending motion (R75). -/
structure PendingMotion where
  requester : Requester
  motion : Motion
  deriving DecidableEq, Repr

/-- The transport record of one port (R75). -/
structure Transport where
  state : TransportState
  speed : Int
  lastKind : Option CmdKind
  condition : Option Condition
  cue : Option Cue
  standbyTimer : Nat
  wakeCount : Nat
  wakeTaken : Bool
  motion : Option PendingMotion
  deriving DecidableEq, Repr

/-- The holder of a port (R93). -/
inductive Holder where
  | free | console | sequencer
  deriving DecidableEq, Repr

/-! ## Position tracker and chase servo (chapter 7) -/

/-- The tracker record of one port (R111). -/
structure Tracker where
  position : Nat
  remainder : Nat
  known : Bool
  age : Nat
  glitch : Nat
  settle : Nat
  /-- The commanded speed used by the latest advance (R132). -/
  advance : Int
  deriving DecidableEq, Repr

/-- The kind of a chase record (R116). -/
inductive ChaseKind where
  | sequencer | manual
  deriving DecidableEq, Repr

/-- The state of a chase record (R116). -/
inductive ChaseState where
  | seeking | waiting | capturing | locked | parked
  deriving DecidableEq, Repr

/-- A chase record, kept for the chaser (R116). -/
structure Chase where
  kind : ChaseKind
  master : Port
  masterAnchor : Nat
  chaserAnchor : Nat
  rate : Nat
  state : ChaseState
  lockRun : Nat
  outOfCapture : Bool
  cuePoint : Option Nat
  lastTarget : Option Nat
  lastError : Option Int
  deriving DecidableEq, Repr

/-! ## Edit sequencer (chapters 8 and 9) -/

/-- The mode of an edit (R134). -/
inductive Mode where
  | perform | preview | review | run
  deriving DecidableEq, Repr

/-- The phase of the sequencer (R134). -/
inductive Phase where
  | idle | cueing | preroll | edit | postroll
  deriving DecidableEq, Repr

/-- The deck set of an edit (R134). -/
structure DeckSet where
  recorder : Port
  toPort : Option Port
  fromPort : Option Port
  deriving DecidableEq, Repr

/-- The cue points of an edit, one for each deck of its set (R134, R139). -/
structure CuePoints where
  recorder : Nat
  toPos : Option Nat
  fromPos : Option Nat
  deriving DecidableEq, Repr

/-- The outcome of an edit: COMPLETE or a fault class (R134). -/
inductive EditOutcome where
  | complete
  | fault (cls : FaultClass)
  deriving DecidableEq, Repr

/-- What the EDIT END notice of an edit holds (R155); fixed when the edit ends. -/
structure EditEnd where
  key : Nat
  mode : Mode
  outcome : EditOutcome
  phase : Phase
  /-- The class of the early-postroll mark. -/
  early : Option FaultClass
  slip : Bool
  written : Option EventStatus
  deriving DecidableEq, Repr

/-- A status write of the sequencer (R27): an event by key, a status with its class, a setting of the previewed
flag, or both. -/
structure StatusWrite where
  key : Nat
  status : Option EventStatus
  previewed : Bool
  deriving DecidableEq, Repr

/-- A write handed to the list unit and not yet taken: the final write of an edit (R153), or the SKIPPED write of a
run's candidate (R164). -/
inductive Handed where
  | final (w : StatusWrite)
  | skip (key : Nat) (recIn : Nat) (cls : FaultClass)
  deriving DecidableEq, Repr

/-- The fault mode of a run, STOP or CONTINUE (`goOn`) (R159). -/
inductive FaultMode where
  | stop | goOn
  deriving DecidableEq, Repr

/-- The run record (R159). The last pair is (record in, key). -/
structure Run where
  start : Nat
  stop : Nat
  faultMode : FaultMode
  redo : Bool
  lastPair : Option (Nat × Nat)
  done : Nat
  failed : Nat
  skipped : Nat
  deriving DecidableEq, Repr

/-- The reason of a RUN END (R168). -/
inductive RunReason where
  | complete | slip
  | fault (cls : FaultClass)
  deriving DecidableEq, Repr

/-- The sequencer record (R134). -/
structure Sequencer where
  phase : Phase
  mode : Option Mode
  closing : Bool
  heldKey : Option Nat
  /-- The event copy: the held event's fields as read at the hold lookup. -/
  copy : Option Event
  decks : Option DeckSet
  preroll : Nat
  cuePoints : Option CuePoints
  parked : List Port
  rollFrame : Option Nat
  engageFrame : Option Nat
  recordInFrame : Option Nat
  deadlineTaken : Bool
  engaged : Bool
  released : Bool
  confirmed : Bool
  slipped : Bool
  fieldIndex : Option Nat
  postrollEnd : Option Nat
  outcome : Option EditEnd
  handed : Option Handed
  run : Option Run
  deriving DecidableEq, Repr

/-! ## Transition generator and GPI unit (chapter 10) -/

/-- The five outputs of the mix port (R171). -/
structure MixOut where
  busA : Nat
  busB : Nat
  coef : Nat
  pattern : Nat
  reverse : Bool
  deriving DecidableEq, Repr

/-- A ramp record (R171). -/
structure Ramp where
  duration : Nat
  last : Nat
  deriving DecidableEq, Repr

/-- The transition generator (R171). -/
structure Mix where
  out : MixOut
  staged : Option MixOut
  ramp : Option Ramp
  /-- Field strobes pulsed since reset (log entry 4). -/
  strobes : Nat
  deriving DecidableEq, Repr

/-- A GPI line configuration (R179). -/
structure GpiConfig where
  enable : Bool
  /-- Mode LEVEL when set, PULSE when clear. -/
  level : Bool
  /-- Pulse length LONG when set, SHORT when clear. -/
  long : Bool
  activeHigh : Bool
  /-- Drive driven when set, open drain when clear. -/
  driven : Bool
  inPreview : Bool
  deriving DecidableEq, Repr

/-- What an active line was fired as: a pulse with its elapsed count, or a level with its drop pending flag (R179). -/
inductive Fired where
  | pulse (elapsed : Nat)
  | level (drop : Bool)
  deriving DecidableEq, Repr

/-- An armed trigger (R179): its line, its point frame on the day, and whether it has fired. -/
structure ArmedTrigger where
  line : Line
  point : Nat
  fired : Bool
  deriving DecidableEq, Repr

/-- The armed trigger list (R179). -/
structure Armed where
  mode : Mode
  recIn : Nat
  triggers : List ArmedTrigger
  deriving DecidableEq, Repr

/-- The GPI unit: each line is inactive (`none`) or active (R179). -/
structure Gpi where
  lines : PerLine (Option Fired)
  armed : Option Armed
  deriving DecidableEq, Repr

/-! ## Settings (chapter 11 and R72) -/

/-- The system block (R193); at most one port is RECORDER, the others are players. -/
structure SystemBlock where
  std : FrameStd
  preroll : Nat
  postroll : Nat
  windowStart : Nat
  windowLength : Nat
  recorder : Option Port
  deriving DecidableEq, Repr

/-- A deck profile (R72). -/
structure Profile where
  plausibility : Nat
  settle : Nat
  gain : Nat
  varispeed : Nat
  lockWindow : Nat
  lockCount : Nat
  unlockWindow : Nat
  captureWindow : Nat
  rollLead : Nat
  cueTolerance : Nat
  cueAttempts : Nat
  cueTime : Nat
  standbyDelay : Nat
  wakeSettle : Nat
  engageLead : Nat
  releaseLead : Nat
  motionMin : Nat
  motionMax : Nat
  deriving DecidableEq, Repr

/-- The live settings, or a snapshot of them (section 11.5). -/
structure Settings where
  system : SystemBlock
  profiles : PerPort Profile
  gpi : PerLine GpiConfig
  deriving DecidableEq, Repr

/-! ## Console link and notices (chapter 11) -/

/-- The status of an answer (R189). -/
inductive Status where
  | done | adjusted | started | none | refused
  deriving DecidableEq, Repr

/-- The reason of a refusal (R189), in the order of their codes 1 to 23. -/
inductive Reason where
  | busy | held | notHeld | notFound | full | overlap | bounds | badTime | badField | badFrame | inUse | role
  | chain | state | deckDown | noReference | noRecorder | notMounted | sameDeck | window | inhibit | motion
  | noVarispeed
  deriving DecidableEq, Repr

/-- An answer (R189, R197): the request code echoed, the status, the reason with REFUSED, and the body's bytes. -/
structure Answer where
  code : Byte
  status : Status
  reason : Option Reason
  body : List Byte
  deriving DecidableEq, Repr

/-- The link byte's flags (R187). -/
structure LinkByte where
  working : Bool
  ready : Bool
  notice : Bool
  deriving DecidableEq, Repr

/-- A request taken and waiting for the end of a ripple chunk (R49): its code and body. -/
structure Waiting where
  code : Byte
  body : List Byte
  deriving DecidableEq, Repr

/-- The console link (R187 to R189). The answer ready flag is the presence of an answer. -/
structure Link where
  working : Bool
  answer : Option Answer
  waiting : Option Waiting
  /-- The link byte fixed when select was asserted for the transfer in progress. -/
  selected : Option LinkByte
  /-- The bytes shifted out in the latest transfer (log entry 4). -/
  shifted : List Byte
  deriving DecidableEq, Repr

/-- The content of a DECK notice (R80). -/
structure DeckReport where
  line : LineState
  transport : TransportState
  mode : Option DeckMode
  threaded : Option Bool
  inhibit : Option Bool
  deriving DecidableEq, Repr

/-- Why a cue failed (R86). -/
inductive CueReason where
  | attempts | time | line | tape | standby
  deriving DecidableEq, Repr

/-- How a cue ended (R86, R87). -/
inductive CueOutcome where
  | parked
  | failed (reason : CueReason)
  | cancelled
  deriving DecidableEq, Repr

/-- The content of a CUE END notice (R86); the last stopped frame is a frame number, a label when it is taken (R7). -/
structure CueReport where
  outcome : CueOutcome
  requester : Requester
  attempts : Nat
  lastStop : Option Nat
  deriving DecidableEq, Repr

/-- The content of a RUN END notice (R168); the range is a pair of frame numbers, labels when it is taken (R7; log entry
14). -/
structure RunEnd where
  reason : RunReason
  key : Option Nat
  done : Nat
  failed : Nat
  skipped : Nat
  start : Nat
  stop : Nat
  faultMode : FaultMode
  redo : Bool
  deriving DecidableEq, Repr

/-- The content of a SETTINGS notice (R195, R196). -/
inductive SettingsReport where
  | defaults | loaded | stored | storeFailed
  deriving DecidableEq, Repr

/-- A pending notice: its kind, its source and its content (R190). -/
inductive Notice where
  | editEnd (report : EditEnd)
  | runEnd (report : RunEnd)
  | deck (port : Port) (report : DeckReport)
  | lock (port : Port) (gained : Bool)
  | cueEnd (port : Port) (report : CueReport)
  | rippleEnd
  | reference (restored : Bool)
  | reel (port : Port) (index : Nat) (name : List Byte)
  | settings (report : SettingsReport)
  deriving DecidableEq, Repr

/-! ## The whole -/

/-- The ES-6 with the commands that wait for it. -/
structure State where
  /-- Commands waiting, first in, first out. -/
  pending : List Instr
  /-- Hardware reset is in progress: the settings load has not ended (R187, R195). -/
  inReset : Bool
  ref : Reference
  /-- The number of the latest reference frame (log entry 3). -/
  frame : Nat
  list : ListUnit
  reels : Vector (Option Reel) 64
  ports : PerPort DeckPort
  transports : PerPort Transport
  holders : PerPort Holder
  trackers : PerPort Tracker
  chases : PerPort (Option Chase)
  seq : Sequencer
  /-- The recorder's frame for the latest frame the sequencer worked (R157). -/
  recorderFrame : Nat
  mix : Mix
  gpi : Gpi
  link : Link
  notices : List Notice
  live : Settings
  snapshot : Option Settings
  /-- What the latest store wrote to the serial memory, in order (log entry 4). -/
  stored : List (Nat × Byte)
  deriving DecidableEq, Repr

/-- Why the machine would stop with a fault. No meaning of the ES-6 raises it: the manual gives every command an
effect and reports what goes wrong in answers, notices and statuses. -/
inductive Fault where
  /-- Raised by nothing; it keeps the type inhabited. Safe: it never occurs. -/
  | stopped
  deriving DecidableEq, Repr

/-- Why a command would be refused. -/
inductive Refusal where
  /-- Raised only by an arm of `exec` for a command without a meaning; there is none. Safe: the run stops. -/
  | notModelled (mnemonic : String)
  deriving DecidableEq, Repr

/-! ## The state after hardware reset -/

/-- The same value for every port. -/
def PerPort.const {α : Type} (a : α) : PerPort α := ⟨a, a, a, a, a, a⟩

/-- The same value for every line. -/
def PerLine.const {α : Type} (a : α) : PerLine α := ⟨a, a, a, a, a, a, a, a⟩

/-- The system block of defaults (R193). -/
def SystemBlock.defaults : SystemBlock :=
  { std := .f30D, preroll := 5, postroll := 2, windowStart := 0, windowLength := 2589408, recorder := some .p1 }

/-- The deck profile of defaults (R72). -/
def Profile.defaults : Profile :=
  { plausibility := 2, settle := 3, gain := 16, varispeed := 64, lockWindow := 8, lockCount := 10,
    unlockWindow := 32, captureWindow := 10, rollLead := 5, cueTolerance := 1, cueAttempts := 3, cueTime := 120,
    standbyDelay := 8, wakeSettle := 50, engageLead := 2, releaseLead := 2, motionMin := 512, motionMax := 2048 }

/-- The GPI line configuration of defaults (R179). -/
def GpiConfig.defaults : GpiConfig :=
  { enable := false, level := false, long := false, activeHigh := false, driven := false, inPreview := false }

/-- Every live setting at its default (R195). -/
def Settings.defaults : Settings :=
  { system := .defaults, profiles := .const .defaults, gpi := .const .defaults }

/-- The sequencer record while IDLE: every field absent or clear (R134, R158). -/
def Sequencer.idle : Sequencer :=
  { phase := .idle, mode := none, closing := false, heldKey := none, copy := none, decks := none, preroll := 0,
    cuePoints := none, parked := [], rollFrame := none, engageFrame := none, recordInFrame := none,
    deadlineTaken := false, engaged := false, released := false, confirmed := false, slipped := false,
    fieldIndex := none, postrollEnd := none, outcome := none, handed := none, run := none }

/-- Black on both buses (R178). -/
def MixOut.black : MixOut := { busA := 0, busB := 0, coef := 0, pattern := 0, reverse := false }

/-- The timebase at hardware reset (R19). -/
def Reference.initial : Reference :=
  { state := .lost, goodRun := 0, parity := .field2, lastAccepted := none, lastSeen := none, lastField := 0 }

/-- A deck port at hardware reset (R74). -/
def DeckPort.initial : DeckPort :=
  { line := .offline, misses := 4, countdown := 1, exchange := none, commands := [], permission := false,
    lastReply := none, sent := [] }

/-- A transport record at hardware reset (R99). -/
def Transport.initial : Transport :=
  { state := .offline, speed := 0, lastKind := none, condition := none, cue := none, standbyTimer := 0,
    wakeCount := 0, wakeTaken := false, motion := none }

/-- A tracker record at hardware reset (R111). -/
def Tracker.initial : Tracker :=
  { position := 0, remainder := 0, known := false, age := 255, glitch := 0, settle := 0, advance := 0 }

/-- The machine right after hardware reset is taken: every block in the state its chapter gives, and the settings
load in progress (R195; log entry 2). -/
def State.reset : State :=
  { pending := []
    inReset := true
    ref := .initial
    frame := 0
    list := { events := [], keyCounter := 1, ripple := none }
    reels := Vector.replicate 64 none
    ports := .const .initial
    transports := .const .initial
    holders := .const .free
    trackers := .const .initial
    chases := .const none
    seq := .idle
    recorderFrame := 0
    mix := { out := .black, staged := none, ramp := none, strobes := 0 }
    gpi := { lines := .const none, armed := none }
    link := { working := false, answer := none, waiting := none, selected := none, shifted := [] }
    notices := []
    live := .defaults
    snapshot := none
    stored := [] }

end Sys2Proof.Machine
end

