-- ==== Sys2Proof/Machine/Timecode.lean ====
section
/-! DEFINITION. Frame standards, labels, frame numbers and positions on the day circle (chapter 1, R1 to R11). -/

namespace Sys2Proof.Machine

/-- The label rate (R1). -/
def rate : FrameStd → Nat
  | .f25 => 25
  | .f30N => 30
  | .f30D => 30

/-- Frames in one day of labels (R1). -/
def fday : FrameStd → Nat
  | .f25 => 2160000
  | .f30N => 2592000
  | .f30D => 2589408

/-- Positions in one day (R1). -/
def dayLength (std : FrameStd) : Nat := 64 * fday std

/-- The nominal field period T in units of 1/1,200,000 s (R1). -/
def period : FrameStd → Nat
  | .f25 => 24000
  | .f30N => 20000
  | .f30D => 20020

/-- 0.95 T, the least spacing of an accepted pulse and of a good field (R13, R16). -/
def periodLow (std : FrameStd) : Nat := period std * 19 / 20

/-- 1.05 T, the greatest spacing of a good field (R16). -/
def periodHigh (std : FrameStd) : Nat := period std * 21 / 20

/-! ## Labels -/

/-- The component ranges of R3. -/
def Label.inRange (std : FrameStd) (l : Label) : Bool :=
  l.hh ≤ 23 && l.mm ≤ 59 && l.ss ≤ 59 && l.ff < rate std

/-- The label 24:00:00:00, the closed end of a record range (R3). -/
def endLabel : Label := ⟨24, 0, 0, 0⟩

/-- Whether a label names no frame under 30D (R4). -/
def Label.leftOut (std : FrameStd) (l : Label) : Bool :=
  std = .f30D && l.ss = 0 && l.ff ≤ 1 && l.mm % 10 ≠ 0

/-- The label used: a label that names no frame is moved forward to ff = 2 (R4). -/
def Label.moved (std : FrameStd) (l : Label) : Label :=
  if l.leftOut std then { l with ff := 2 } else l

/-- Label to frame number (R6). -/
def frameOf (std : FrameStd) (l : Label) : Nat :=
  let seconds := 3600 * l.hh + 60 * l.mm + l.ss
  let minutes := 60 * l.hh + l.mm
  match std with
  | .f30D => seconds * 30 + l.ff - 2 * (minutes - minutes / 10)
  | _ => seconds * rate std + l.ff

/-- The nominal count at 30 labels per second of a 30D frame number (R7). -/
def nominalCount (n : Nat) : Nat :=
  let d := n / 17982
  let r := n % 17982
  if 2 ≤ r then n + 18 * d + 2 * ((r - 2) / 1798) else n + 18 * d

/-- A count of labels to the label, as under a non-drop standard (R7). -/
def labelOfCount (r n : Nat) : Label :=
  let s := n / r
  ⟨s / 3600, s / 60 % 60, s % 60, n % r⟩

/-- Frame number to label (R7). -/
def labelOf (std : FrameStd) (n : Nat) : Label :=
  match std with
  | .f30D => labelOfCount 30 (nominalCount n)
  | _ => labelOfCount (rate std) n

/-- A label from the console processor: refused (`none`) when it is not valid, else its frame number and whether it
was moved (R3, R4, R6). `endOk` is set for a record out field, which also takes 24:00:00:00. -/
def readLabel (std : FrameStd) (endOk : Bool) (l : Label) : Option (Nat × Bool) :=
  if endOk && l = endLabel then some (fday std, false)
  else if l.inRange std then some (frameOf std (l.moved std), l.leftOut std)
  else none

/-! ## Positions -/

/-- A whole number of phase steps brought onto the day circle (R8, R9). -/
def onDay (std : FrameStd) (x : Int) : Nat := (x % (dayLength std : Int)).toNat

/-- The sum of a position and a signed offset in phase steps (R9). -/
def posAdd (std : FrameStd) (a : Nat) (b : Int) : Nat := onDay std (a + b)

/-- The shortest signed difference of two positions (R10). -/
def posDiff (std : FrameStd) (a b : Nat) : Int :=
  let d := onDay std ((a : Int) - b)
  if 32 * fday std ≤ d then (d : Int) - dayLength std else d

/-- A frame number moved by a signed count of frames around the day (R38, R39). -/
def frameAdd (std : FrameStd) (n : Nat) (d : Int) : Nat := (((n : Int) + d) % (fday std : Int)).toNat

/-- The label and phase of a position (R8). -/
def labelOfPos (std : FrameStd) (p : Nat) : Label × Nat := (labelOf std (p / 64), p % 64)

/-! ## Settings in seconds and minutes -/

/-- A setting in seconds as frames (R11). -/
def secondsToFrames (std : FrameStd) (s : Nat) : Nat := s * rate std

/-- A setting in minutes as frames (R11). -/
def minutesToFrames (std : FrameStd) (m : Nat) : Nat := m * 60 * rate std

end Sys2Proof.Machine
end

