-- ==== Sys2Proof/Machine/Operands.lean ====
section
/-! DEFINITION. The operand forms of R197: how the fields of request bodies are read from bytes, how the fields of
answers, notices and deck line frames are written as bytes, and the codes of the enumerations. -/

namespace Sys2Proof.Machine

/-! ## Ports and lines by number -/

/-- Every port, in order. -/
def allPorts : List Port := [.p1, .p2, .p3, .p4, .p5, .p6]

/-- Every GPI line, in order. -/
def allLines : List Line := [.l1, .l2, .l3, .l4, .l5, .l6, .l7, .l8]

/-- The number of a port, 1 to 6. -/
def portNum : Port → Nat
  | .p1 => 1
  | .p2 => 2
  | .p3 => 3
  | .p4 => 4
  | .p5 => 5
  | .p6 => 6

/-- The number of a line, 1 to 8. -/
def lineNum : Line → Nat
  | .l1 => 1
  | .l2 => 2
  | .l3 => 3
  | .l4 => 4
  | .l5 => 5
  | .l6 => 6
  | .l7 => 7
  | .l8 => 8

/-- The port with a number, if it lies in 1..6. -/
def portOf (n : Nat) : Option Port := allPorts.find? (fun p => portNum p = n)

/-- The line with a number, if it lies in 1..8. -/
def lineOf (n : Nat) : Option Line := allLines.find? (fun l => lineNum l = n)

/-! ## Reading fields of a body -/

/-- The byte at an offset, as a number. -/
def byteAt (b : List Byte) (i : Nat) : Nat := (b.getD i 0).toNat

/-- The two bytes at an offset, most significant first. -/
def half (b : List Byte) (i : Nat) : Nat := byteAt b i * 256 + byteAt b (i + 1)

/-- The four bytes at an offset, most significant first. -/
def long (b : List Byte) (i : Nat) : Nat := half b i * 65536 + half b (i + 2)

/-- A number of `w` bits read as two's complement. -/
def signed (w n : Nat) : Int := if 2 ^ (w - 1) ≤ n then (n : Int) - 2 ^ w else n

/-- The signed two bytes at an offset. -/
def signedHalf (b : List Byte) (i : Nat) : Int := signed 16 (half b i)

/-- The signed four bytes at an offset. -/
def signedLong (b : List Byte) (i : Nat) : Int := signed 32 (long b i)

/-- The label in the four bytes at an offset. -/
def labelAt (b : List Byte) (i : Nat) : Label := ⟨byteAt b i, byteAt b (i + 1), byteAt b (i + 2), byteAt b (i + 3)⟩

/-- A flag byte: 1 is set, 0 is clear; any other byte reads as the free value of log entry 13. -/
def flagOf (b : Byte) : Bool := if b = 0 then false else if b = 1 then true else Config.oddFlag b

/-- The flag at an offset. -/
def flagAt (b : List Byte) (i : Nat) : Bool := flagOf (b.getD i 0)

/-- A track set byte; `none` when it is empty or names a track outside V, A1..A4 (R21, R31). -/
def trackSetOf (n : Nat) : Option TrackSet :=
  if n = 0 ∨ 32 ≤ n then none else some (BitVec.ofNat 5 n)

/-- A port set byte; `none` when it is empty or names a port outside 1..6 (R94). -/
def portSetOf (n : Nat) : Option (List Port) :=
  if n = 0 ∨ 64 ≤ n then none else some (allPorts.filter (fun p => n.testBit (portNum p - 1)))

/-- A reel name in the bytes from an offset: its length byte, then that many characters (R101, R197). -/
def nameAt (b : List Byte) (i : Nat) : List Byte := (b.drop (i + 1)).take (byteAt b i)

/-- Whether the bytes from an offset are exactly a length byte and that many characters (R188). -/
def nameFits (b : List Byte) (i : Nat) : Bool := i < b.length && b.length = i + 1 + byteAt b i

/-- Capital letters, digits, space and hyphen (R101); that R197's 7-bit codes are those of ASCII is log entry 41. -/
def nameChar (c : Byte) : Bool :=
  let n := c.toNat
  (65 ≤ n && n ≤ 90) || (48 ≤ n && n ≤ 57) || n = 32 || n = 45

/-- Whether a reel name is valid (R101). -/
def nameValid (name : List Byte) : Bool :=
  1 ≤ name.length && name.length ≤ 8 && name.all nameChar && name.head? ≠ some 32 && name.getLast? ≠ some 32

/-! ## Writing fields -/

/-- One byte. -/
def b1 (n : Nat) : List Byte := [BitVec.ofNat 8 n]

/-- Two bytes, most significant first. -/
def b2 (n : Nat) : List Byte := [BitVec.ofNat 8 (n / 256), BitVec.ofNat 8 n]

/-- Four bytes, most significant first. -/
def b4 (n : Nat) : List Byte := b2 (n / 65536) ++ b2 n

/-- A signed number in `w` bits, two's complement, as an unsigned one. -/
def unsigned (w : Nat) (x : Int) : Nat := (x % (2 : Int) ^ w).toNat

/-- Two signed bytes. -/
def s2 (x : Int) : List Byte := b2 (unsigned 16 x)

/-- Four signed bytes. -/
def s4 (x : Int) : List Byte := b4 (unsigned 32 x)

/-- A flag: 1 when set and 0 when clear (R197). -/
def bFlag (f : Bool) : List Byte := b1 (if f then 1 else 0)

/-- A label in four binary bytes. -/
def bLabel (l : Label) : List Byte := b1 l.hh ++ b1 l.mm ++ b1 l.ss ++ b1 l.ff

/-- A frame number as a label (R7). -/
def bFrame (std : FrameStd) (n : Nat) : List Byte := bLabel (labelOf std n)

/-- A position as a label and a phase (R197). -/
def bPos (std : FrameStd) (p : Nat) : List Byte := bFrame std (p / 64) ++ b1 (p % 64)

/-- A field that may be absent: a presence byte, then its bytes, sent as `width` zeros when it is absent (R197). -/
def bOpt {α : Type} (width : Nat) (enc : α → List Byte) : Option α → List Byte
  | none => b1 0 ++ List.replicate width 0
  | some a => b1 1 ++ enc a

/-- A list of entries: their number, then the entries (R197). -/
def bList {α : Type} (enc : α → List Byte) (l : List α) : List Byte := b1 l.length ++ l.flatMap enc

/-- A port as one byte. -/
def bPort (p : Port) : List Byte := b1 (portNum p)

/-- A set of ports as one byte, port 1 in bit 0 (R197). -/
def bPortSet (ps : List Port) : List Byte :=
  b1 ((allPorts.filter (fun p => ps.contains p)).foldl (fun n p => n + 2 ^ (portNum p - 1)) 0)

/-- A track set as one byte. -/
def bTracks (t : TrackSet) : List Byte := b1 t.toNat

/-- A reel name: its length, then its characters. -/
def bName (name : List Byte) : List Byte := b1 name.length ++ name

/-! ## Enumeration codes (the enumeration table of R197) -/

/-- Frame standard codes. -/
def stdCode : FrameStd → Nat
  | .f25 => 0
  | .f30N => 1
  | .f30D => 2

/-- The frame standard with a code. -/
def stdOf : Nat → Option FrameStd
  | 0 => some .f25
  | 1 => some .f30N
  | 2 => some .f30D
  | _ => none

/-- Deck line command codes. -/
def kindCode : CmdKind → Nat
  | .status => 0x20
  | .halt => 0x21
  | .play => 0x22
  | .shuttle => 0x23
  | .wind => 0x24
  | .seek => 0x25
  | .release => 0x26
  | .wake => 0x27
  | .engage => 0x28
  | .disengage => 0x29

/-- Deck mode codes. -/
def modeCode : DeckMode → Nat
  | .halted => 0
  | .moving => 1
  | .winding => 2
  | .seeking => 3
  | .parked => 4
  | .standby => 5
  | .noTape => 6

/-- The deck mode with a code; `none` makes the reply a miss (R60). -/
def deckModeOf : Nat → Option DeckMode
  | 0 => some .halted
  | 1 => some .moving
  | 2 => some .winding
  | 3 => some .seeking
  | 4 => some .parked
  | 5 => some .standby
  | 6 => some .noTape
  | _ => none

/-- Wind direction codes. -/
def dirCode : Dir → Nat
  | .forward => 0
  | .reverse => 1

/-- The direction with a code. -/
def dirOf : Nat → Option Dir
  | 0 => some .forward
  | 1 => some .reverse
  | _ => none

/-- Line state codes. -/
def lineCode : LineState → Nat
  | .online => 0
  | .panel => 1
  | .offline => 2

/-- Transport state codes. -/
def transportCode : TransportState → Nat
  | .offline => 0
  | .panel => 1
  | .empty => 2
  | .standby => 3
  | .waking => 4
  | .idle => 5
  | .cueing => 6
  | .parked => 7
  | .rolling => 8
  | .winding => 9

/-- Holder codes. -/
def holderCode : Holder → Nat
  | .free => 0
  | .console => 1
  | .sequencer => 2

/-- Requester codes. -/
def requesterCode : Requester → Nat
  | .console => 0
  | .sequencer => 1
  | .chase => 2

/-- Chase kind codes. -/
def chaseKindCode : ChaseKind → Nat
  | .sequencer => 0
  | .manual => 1

/-- Chase state codes; IDLE, for a deck with no chase record, is 0. -/
def chaseStateCode : ChaseState → Nat
  | .seeking => 1
  | .waiting => 2
  | .capturing => 3
  | .locked => 4
  | .parked => 5

/-- Sequencer mode codes. -/
def seqModeCode : Mode → Nat
  | .perform => 0
  | .preview => 1
  | .review => 2
  | .run => 3

/-- Sequencer phase codes. -/
def phaseCode : Phase → Nat
  | .idle => 0
  | .cueing => 1
  | .preroll => 2
  | .edit => 3
  | .postroll => 4

/-- Fault class codes. -/
def classCode : FaultClass → Nat
  | .abort => 1
  | .reference => 2
  | .recorder => 3
  | .player => 4
  | .cue => 5
  | .sync => 6
  | .check => 7
  | .claim => 8

/-- Event status codes. -/
def eventStatusCode : EventStatus → Nat
  | .new => 0
  | .done => 1
  | .slipped => 2
  | .cut _ => 3
  | .failed _ => 4
  | .skipped _ => 5

/-- The fault class of a status, present exactly with PARTIAL, FAILED and SKIPPED (R26). -/
def statusClass : EventStatus → Option FaultClass
  | .cut c => some c
  | .failed c => some c
  | .skipped c => some c
  | _ => none

/-- Edit outcome codes. -/
def outcomeCode : EditOutcome → Nat
  | .complete => 0
  | .fault c => classCode c

/-- RUN END reason codes: COMPLETE 0, SLIP 1, then the classes from ABORT as 2. -/
def runReasonCode : RunReason → Nat
  | .complete => 0
  | .slip => 1
  | .fault c => classCode c + 1

/-- Fault mode codes. -/
def faultModeCode : FaultMode → Nat
  | .stop => 0
  | .goOn => 1

/-- The fault mode with a code. -/
def faultModeOf : Nat → Option FaultMode
  | 0 => some .stop
  | 1 => some .goOn
  | _ => none

/-- Cue failure reason codes. -/
def cueReasonCode : CueReason → Nat
  | .attempts => 1
  | .time => 2
  | .line => 3
  | .tape => 4
  | .standby => 5

/-- CUE END outcome codes. -/
def cueOutcomeCode : CueOutcome → Nat
  | .parked => 0
  | .failed _ => 1
  | .cancelled => 2

/-- SETTINGS content codes. -/
def settingsCode : SettingsReport → Nat
  | .defaults => 0
  | .loaded => 1
  | .stored => 2
  | .storeFailed => 3

/-- Answer status codes. -/
def statusCode : Status → Nat
  | .done => 0
  | .adjusted => 1
  | .started => 2
  | .none => 3
  | .refused => 4

/-- Refusal reason codes 1 to 23, in the order of R189. -/
def reasonCode : Reason → Nat
  | .busy => 1
  | .held => 2
  | .notHeld => 3
  | .notFound => 4
  | .full => 5
  | .overlap => 6
  | .bounds => 7
  | .badTime => 8
  | .badField => 9
  | .badFrame => 10
  | .inUse => 11
  | .role => 12
  | .chain => 13
  | .state => 14
  | .deckDown => 15
  | .noReference => 16
  | .noRecorder => 17
  | .notMounted => 18
  | .sameDeck => 19
  | .window => 20
  | .inhibit => 21
  | .motion => 22
  | .noVarispeed => 23

/-! ## Deck line frames (R59, R60, R197) -/

/-- A two-digit BCD byte. -/
def bcd (n : Nat) : List Byte := b1 (n / 10 * 16 + n % 10)

/-- A label in four BCD bytes. -/
def bcdLabel (l : Label) : List Byte := bcd l.hh ++ bcd l.mm ++ bcd l.ss ++ bcd l.ff

/-- The kind of a command. -/
def cmdKind : DeckCmd → CmdKind
  | .status => .status
  | .halt => .halt
  | .play _ => .play
  | .shuttle _ => .shuttle
  | .wind _ => .wind
  | .seek _ => .seek
  | .release => .release
  | .wake => .wake
  | .engage _ => .engage
  | .disengage => .disengage

/-- The data bytes of a command (R59, R197). -/
def cmdData (std : FrameStd) : DeckCmd → List Byte
  | .play s => b2 s
  | .shuttle s => s2 s
  | .wind d => b1 (dirCode d)
  | .seek t => bcdLabel (labelOfPos std t).1 ++ b1 (labelOfPos std t).2
  | .engage t => bTracks t
  | _ => []

/-- The check byte of a frame: the sum of its bytes modulo 256 (R58). -/
def checkByte (bytes : List Byte) : Byte := bytes.foldl (· + ·) 0

/-- A whole command frame: code, data, check byte (R58, R59). -/
def cmdFrame (std : FrameStd) (c : DeckCmd) : List Byte :=
  let body := b1 (kindCode (cmdKind c)) ++ cmdData std c
  body ++ [checkByte body]

/-- The number in a BCD byte; `none` when a digit is no decimal digit (R5). -/
def bcdOf (n : Nat) : Option Nat := if n / 16 ≤ 9 ∧ n % 16 ≤ 9 then some (n / 16 * 10 + n % 16) else none

/-- The position in four BCD bytes and a phase byte, by the tests of R5 and with the move of R4. -/
def replyPosition (std : FrameStd) (b : List Byte) (i : Nat) : Option Nat :=
  match bcdOf (byteAt b i), bcdOf (byteAt b (i + 1)), bcdOf (byteAt b (i + 2)), bcdOf (byteAt b (i + 3)) with
  | some hh, some mm, some ss, some ff =>
    let l : Label := ⟨hh, mm, ss, ff⟩
    if l.inRange std && byteAt b (i + 4) ≤ 63 then some (frameOf std (l.moved std) * 64 + byteAt b (i + 4)) else none
  | _, _, _, _ => none

/-- A good reply: what its ten bytes say, or `none` for a miss (R60). -/
def readReply (std : FrameStd) (inFlight : CmdKind) (chars : List LineChar) : Option (Condition × Nat) :=
  let c := chars.take 10
  let b := c.map LineChar.byte
  if c.length = 10 ∧ c.all (fun ch => !ch.error) ∧ b.getD 9 0 = checkByte (b.take 9)
      ∧ byteAt b 0 = kindCode inFlight ∧ byteAt b 3 < 32 then
    match deckModeOf (byteAt b 1), replyPosition std b 4 with
    | some mode, some pos =>
      let f := byteAt b 2
      some ({ mode := mode, remote := f.testBit 0, threaded := f.testBit 1, inhibit := f.testBit 2,
              servo := f.testBit 3, tracks := BitVec.ofNat 5 (byteAt b 3) }, pos)
    | _, _ => none
  else none

/-! ## The event transfer record (R20, R21, R33, R197) -/

/-- An event transfer record as received: its labels and numbers, before any test. -/
structure RawEvent where
  kind : Nat
  tracks : Nat
  presence : Nat
  recIn : Label
  recOut : Label
  toReel : Nat
  toIn : Label
  fromReel : Nat
  fromIn : Label
  duration : Nat
  pattern : Nat
  reverse : Bool
  rate : Nat
  triggers : List (Nat × Int)
  deriving DecidableEq, Repr

/-- The received triggers: `n` entries of a line byte and a signed offset byte. -/
def triggersAt (b : List Byte) (i : Nat) : Nat → List (Nat × Int)
  | 0 => []
  | n + 1 => (byteAt b i, signed 8 (byteAt b (i + 1))) :: triggersAt b (i + 2) n

/-- The length of the event transfer record at an offset, by its trigger count; 0 when the count byte lies beyond
the end (R188). -/
def eventLength (b : List Byte) (i : Nat) : Nat := if b.length < i + 33 then 0 else 33 + 2 * byteAt b (i + 32)

/-- The event transfer record at an offset. -/
def rawEventAt (b : List Byte) (i : Nat) : RawEvent :=
  { kind := byteAt b (i + 2), tracks := byteAt b (i + 3), presence := byteAt b (i + 4),
    recIn := labelAt b (i + 5), recOut := labelAt b (i + 9),
    toReel := byteAt b (i + 13), toIn := labelAt b (i + 14),
    fromReel := byteAt b (i + 18), fromIn := labelAt b (i + 19),
    duration := half b (i + 23), pattern := byteAt b (i + 25), reverse := flagAt b (i + 26),
    rate := half b (i + 27), triggers := triggersAt b (i + 33) (byteAt b (i + 32)) }

/-- The times of a received record, as frame numbers. -/
structure EventTimes where
  recIn : Nat
  recOut : Nat
  toIn : Nat
  fromIn : Nat
  deriving DecidableEq, Repr

/-- Step 1 of R34: every label of the record valid, with the moves of R4; the from-source label is tested only when
it is present (log entry 16). The flag says whether a label was moved. -/
def readTimes (std : FrameStd) (r : RawEvent) : Option (EventTimes × Bool) :=
  let fromSrc := if r.presence.testBit 0 then readLabel std false r.fromIn else some (0, false)
  match readLabel std false r.recIn, readLabel std true r.recOut, readLabel std false r.toIn, fromSrc with
  | some a, some b, some c, some d => some (⟨a.1, b.1, c.1, d.1⟩, a.2 || b.2 || c.2 || d.2)
  | _, _, _, _ => none

/-- The label used in place of a received one, if R4 moves it. -/
def usedLabel (std : FrameStd) (l : Label) : Option Label := if l.leftOut std then some (l.moved std) else none

/-- What the answer to a request holds of the labels actually used: one field for each label the request carries, absent
where that label was not moved (R4, R197; log entry 18). -/
def bUsedLabels (std : FrameStd) (ls : List (Option Label)) : List Byte :=
  ls.flatMap (fun l => bOpt 4 bLabel (l.bind (usedLabel std)))

/-- The labels of a received record in its order, the from-source label only when it is present. -/
def RawEvent.labels (r : RawEvent) : List (Option Label) :=
  [some r.recIn, some r.recOut, some r.toIn, if r.presence.testBit 0 then some r.fromIn else none]

/-- A received trigger, if its line lies in 1..8 and its offset in -99..99 (R21). -/
def triggerOf (t : Nat × Int) : Option Trigger :=
  match lineOf t.1 with
  | some l => if -99 ≤ t.2 ∧ t.2 ≤ 99 then some ⟨l, t.2⟩ else none
  | none => none

/-- A list of results as a result, `none` if any is. -/
def allSome {α : Type} : List (Option α) → Option (List α)
  | [] => some []
  | none :: _ => none
  | some a :: rest =>
    match allSome rest with
    | some l => some (a :: l)
    | none => none

/-- The kind of a received record with the presence rules of R20 and the ranges of R21. -/
def transitionOf (r : RawEvent) (t : EventTimes) : Option Transition :=
  let fromSrc := r.presence.testBit 0
  let duration := r.presence.testBit 1
  let pattern := r.presence.testBit 2
  let sourceOk := decide (1 ≤ r.fromReel ∧ r.fromReel ≤ 64 ∧ 1 ≤ r.duration ∧ r.duration ≤ 999)
  match r.kind with
  | 0 => if fromSrc || duration || pattern then none else some .cut
  | 1 => if fromSrc && duration && !pattern && sourceOk then some (.dissolve ⟨r.fromReel, t.fromIn⟩ r.duration) else none
  | 2 =>
    if fromSrc && duration && pattern && sourceOk && decide (r.pattern ≤ 31) then
      some (.wipe ⟨r.fromReel, t.fromIn⟩ r.duration r.pattern r.reverse)
    else none
  | _ => none

/-- The motion rate of a received record: 1024 is stored as absent (R21). -/
def rateOf (r : RawEvent) : Option (Option Nat) :=
  if r.presence.testBit 3 then
    if 256 ≤ r.rate ∧ r.rate ≤ 2048 then some (if r.rate = 1024 then none else some r.rate) else none
  else some none

/-- Step 6 of R34: the event a received record stands for, as a NEW event with key 0, or `none` when a field is
illegal for its kind or out of range (R21). -/
def eventOf (r : RawEvent) (t : EventTimes) : Option Event :=
  match trackSetOf r.tracks, transitionOf r t, rateOf r, allSome (r.triggers.map triggerOf) with
  | some tracks, some tr, some rate, some trig =>
    if 1 ≤ r.toReel ∧ r.toReel ≤ 64 ∧ trig.length ≤ 4 then
      some { key := 0, tracks := tracks, recIn := t.recIn, recOut := t.recOut, toSrc := ⟨r.toReel, t.toIn⟩,
             transition := tr, rate := rate, triggers := trig, status := .new, previewed := false }
    else none
  | _, _, _, _ => none

/-- The from-source of an event, if its kind has one. -/
def fromSource (e : Event) : Option Source :=
  match e.transition with
  | .cut => none
  | .dissolve s _ => some s
  | .wipe s _ _ _ => some s

/-- The duration of an event, if its kind has one. -/
def durationOf (e : Event) : Option Nat :=
  match e.transition with
  | .cut => none
  | .dissolve _ d => some d
  | .wipe _ d _ _ => some d

/-- The kind code of an event. -/
def eventKindCode (e : Event) : Nat :=
  match e.transition with
  | .cut => 0
  | .dissolve _ _ => 1
  | .wipe _ _ _ _ => 2

/-- The wipe pattern and reverse flag of an event, if it is a WIPE. -/
def wipeOf (e : Event) : Option (Nat × Bool) :=
  match e.transition with
  | .wipe _ _ p r => some (p, r)
  | _ => none

/-- The motion rate that applies: 1024 when absent (R20). -/
def eventRate (e : Event) : Nat := e.rate.getD 1024

/-- A trigger in the event transfer record. -/
def bTrigger (t : Trigger) : List Byte := b1 (lineNum t.line) ++ b1 (unsigned 8 t.offset)

/-- A source in the event transfer record. -/
def bSource (std : FrameStd) (s : Source) : List Byte := b1 s.reel ++ bFrame std s.start

/-- An event as an event transfer record (R33, R197). -/
def bEvent (std : FrameStd) (e : Event) : List Byte :=
  let presence := (if (fromSource e).isSome then 1 else 0) + (if (durationOf e).isSome then 2 else 0)
    + (if (wipeOf e).isSome then 4 else 0) + (if e.rate.isSome then 8 else 0)
  b2 e.key ++ b1 (eventKindCode e) ++ bTracks e.tracks ++ b1 presence ++ bFrame std e.recIn ++ bFrame std e.recOut
    ++ bSource std e.toSrc
    ++ (match fromSource e with
        | some s => bSource std s
        | none => List.replicate 5 0)
    ++ b2 ((durationOf e).getD 0)
    ++ b1 ((wipeOf e).getD (0, false)).1 ++ bFlag ((wipeOf e).getD (0, false)).2
    ++ b2 (e.rate.getD 0)
    ++ b1 (eventStatusCode e.status) ++ b1 (((statusClass e.status).map classCode).getD 0) ++ bFlag e.previewed
    ++ b1 e.triggers.length ++ e.triggers.flatMap bTrigger

/-- The blank event record of R29. -/
def blankEvent : List Byte := List.replicate 33 0

/-! ## Settings records (R72, R179, R193, R197) -/

/-- A GPI configuration byte. -/
def bGpi (g : GpiConfig) : List Byte :=
  b1 ((if g.enable then 1 else 0) + (if g.level then 2 else 0) + (if g.long then 4 else 0)
    + (if g.activeHigh then 8 else 0) + (if g.driven then 16 else 0) + (if g.inPreview then 32 else 0))

/-- The configuration in a GPI configuration byte; bits 6 and 7 are outside its fields. -/
def gpiOf (n : Nat) : GpiConfig :=
  { enable := n.testBit 0, level := n.testBit 1, long := n.testBit 2, activeHigh := n.testBit 3,
    driven := n.testBit 4, inPreview := n.testBit 5 }

/-- A deck profile in 22 bytes, in the order of the settings image. -/
def bProfile (p : Profile) : List Byte :=
  b1 p.plausibility ++ b1 p.settle ++ b1 p.gain ++ b2 p.varispeed ++ b1 p.lockWindow ++ b1 p.lockCount
    ++ b1 p.unlockWindow ++ b1 p.captureWindow ++ b1 p.rollLead ++ b1 p.cueTolerance ++ b1 p.cueAttempts
    ++ b1 p.cueTime ++ b1 p.standbyDelay ++ b1 p.wakeSettle ++ b1 p.engageLead ++ b1 p.releaseLead
    ++ b2 p.motionMin ++ b2 p.motionMax ++ b1 0

/-- The deck profile in the 22 bytes at an offset, before any clamping. -/
def profileAt (b : List Byte) (i : Nat) : Profile :=
  { plausibility := byteAt b i, settle := byteAt b (i + 1), gain := byteAt b (i + 2), varispeed := half b (i + 3),
    lockWindow := byteAt b (i + 5), lockCount := byteAt b (i + 6), unlockWindow := byteAt b (i + 7),
    captureWindow := byteAt b (i + 8), rollLead := byteAt b (i + 9), cueTolerance := byteAt b (i + 10),
    cueAttempts := byteAt b (i + 11), cueTime := byteAt b (i + 12), standbyDelay := byteAt b (i + 13),
    wakeSettle := byteAt b (i + 14), engageLead := byteAt b (i + 15), releaseLead := byteAt b (i + 16),
    motionMin := half b (i + 17), motionMax := half b (i + 19) }

/-- A number moved to the nearer end of a range (R73, R193, R195). -/
def clamp (lo hi n : Nat) : Nat := max lo (min hi n)

/-- A profile with every field clamped to its range, and then the unlock window raised to the lock window (R73). -/
def clampProfile (p : Profile) : Profile :=
  let lock := clamp 0 32 p.lockWindow
  { plausibility := clamp 1 15 p.plausibility, settle := clamp 0 15 p.settle, gain := clamp 1 255 p.gain,
    varispeed := clamp 0 256 p.varispeed, lockWindow := lock, lockCount := clamp 1 63 p.lockCount,
    unlockWindow := max lock (clamp 16 255 p.unlockWindow), captureWindow := clamp 1 60 p.captureWindow,
    rollLead := clamp 0 30 p.rollLead, cueTolerance := clamp 0 5 p.cueTolerance,
    cueAttempts := clamp 1 8 p.cueAttempts, cueTime := clamp 10 255 p.cueTime,
    standbyDelay := clamp 0 60 p.standbyDelay, wakeSettle := clamp 0 255 p.wakeSettle,
    engageLead := clamp 0 7 p.engageLead, releaseLead := clamp 0 7 p.releaseLead,
    motionMin := clamp 256 1024 p.motionMin, motionMax := clamp 1024 2048 p.motionMax }

/-- The role byte: bit n-1 set for a RECORDER port n. -/
def bRoles (recorder : Option Port) : List Byte := bPortSet recorder.toList

/-- The system block as sent on the console link, its window start as a label. -/
def bSystem (s : SystemBlock) : List Byte :=
  b1 (stdCode s.std) ++ b1 s.preroll ++ b1 s.postroll ++ bFrame s.std s.windowStart ++ b4 s.windowLength
    ++ bRoles s.recorder

end Sys2Proof.Machine
end

