-- ==== Sys2Proof/Machine/Flags.lean ====
section
/-! DEFINITION. The flags and pin levels the ES-6 computes from its state: the link byte, the notice line (R187,
R190), and the level of each GPI pin (R180). -/

namespace Sys2Proof.Machine

/-- The value of one port. -/
def PerPort.get {α : Type} (v : PerPort α) : Port → α
  | .p1 => v.p1
  | .p2 => v.p2
  | .p3 => v.p3
  | .p4 => v.p4
  | .p5 => v.p5
  | .p6 => v.p6

/-- The values with that of one port replaced. -/
def PerPort.set {α : Type} (v : PerPort α) (p : Port) (a : α) : PerPort α :=
  match p with
  | .p1 => { v with p1 := a }
  | .p2 => { v with p2 := a }
  | .p3 => { v with p3 := a }
  | .p4 => { v with p4 := a }
  | .p5 => { v with p5 := a }
  | .p6 => { v with p6 := a }

/-- Every value changed by a function of its port. -/
def PerPort.mapAll {α β : Type} (f : Port → α → β) (v : PerPort α) : PerPort β :=
  ⟨f .p1 v.p1, f .p2 v.p2, f .p3 v.p3, f .p4 v.p4, f .p5 v.p5, f .p6 v.p6⟩

/-- The value of one line. -/
def PerLine.get {α : Type} (v : PerLine α) : Line → α
  | .l1 => v.l1
  | .l2 => v.l2
  | .l3 => v.l3
  | .l4 => v.l4
  | .l5 => v.l5
  | .l6 => v.l6
  | .l7 => v.l7
  | .l8 => v.l8

/-- The values with that of one line replaced. -/
def PerLine.set {α : Type} (v : PerLine α) (l : Line) (a : α) : PerLine α :=
  match l with
  | .l1 => { v with l1 := a }
  | .l2 => { v with l2 := a }
  | .l3 => { v with l3 := a }
  | .l4 => { v with l4 := a }
  | .l5 => { v with l5 := a }
  | .l6 => { v with l6 := a }
  | .l7 => { v with l7 := a }
  | .l8 => { v with l8 := a }

/-- Every value changed by a function of its line. -/
def PerLine.mapAll {α β : Type} (f : Line → α → β) (v : PerLine α) : PerLine β :=
  ⟨f .l1 v.l1, f .l2 v.l2, f .l3 v.l3, f .l4 v.l4, f .l5 v.l5, f .l6 v.l6, f .l7 v.l7, f .l8 v.l8⟩

/-- The link byte as it would be fixed now (R187); during hardware reset it shows working alone. -/
def linkByte (s : State) : LinkByte :=
  if s.inReset then { working := true, ready := false, notice := false }
  else { working := s.link.working, ready := s.link.answer.isSome, notice := !s.notices.isEmpty }

/-- The link byte as a byte (R197). -/
def bLink (l : LinkByte) : List Byte :=
  b1 ((if l.working then 1 else 0) + (if l.ready then 2 else 0) + (if l.notice then 4 else 0))

/-- The notice line is asserted while the pending notice set holds an entry (R190). -/
def noticeLine (s : State) : Bool := !s.notices.isEmpty

/-- What a GPI pin is driven to (R180). -/
inductive PinLevel where
  | high | low | released
  deriving DecidableEq, Repr

/-- The level of a GPI pin: from the line's active flag, polarity and drive, and released until the settings load
has ended (R180). -/
def gpiPin (s : State) (l : Line) : PinLevel :=
  let c := s.live.gpi.get l
  let active := (s.gpi.lines.get l).isSome
  if s.inReset then .released
  else if active = c.activeHigh then (if c.driven then .high else .released)
  else .low

end Sys2Proof.Machine
end

