-- ==== Sys2Proof/Machine/Ops.lean ====
section
/-! DEFINITION. The operations the blocks share: settings at their moment of use, the pending notice set, commands
handed to the deck ports, the transport controller's motions, cues and wakes, and the claim table. -/

namespace Sys2Proof.Machine

/-- What a command answers. -/
abbrev Result := Host.Outcome State Fault Refusal

/-! ## Settings at their moment of use -/

/-- The frame standard in force. -/
def State.std (s : State) : FrameStd := s.live.system.std

/-- The profile of a port. -/
def State.profile (s : State) (p : Port) : Profile := s.live.profiles.get p

/-- The port whose role is RECORDER, if there is one. -/
def State.recorder (s : State) : Option Port := s.live.system.recorder

/-! ## One port's records -/

/-- The deck port record of a port. -/
def State.port (s : State) (p : Port) : DeckPort := s.ports.get p

/-- The state with a port's record replaced. -/
def State.setPort (s : State) (p : Port) (d : DeckPort) : State := { s with ports := s.ports.set p d }

/-- The transport record of a port. -/
def State.transport (s : State) (p : Port) : Transport := s.transports.get p

/-- The state with a port's transport record replaced. -/
def State.setTransport (s : State) (p : Port) (t : Transport) : State := { s with transports := s.transports.set p t }

/-- The tracker record of a port. -/
def State.tracker (s : State) (p : Port) : Tracker := s.trackers.get p

/-- The state with a port's tracker record replaced. -/
def State.setTracker (s : State) (p : Port) (t : Tracker) : State := { s with trackers := s.trackers.set p t }

/-- The chase record of a port as chaser. -/
def State.chase (s : State) (p : Port) : Option Chase := s.chases.get p

/-- The state with a port's chase record replaced. -/
def State.setChase (s : State) (p : Port) (c : Option Chase) : State := { s with chases := s.chases.set p c }

/-- The holder of a port. -/
def State.holder (s : State) (p : Port) : Holder := s.holders.get p

/-- The state with a port's holder replaced. -/
def State.setHolder (s : State) (p : Port) (h : Holder) : State := { s with holders := s.holders.set p h }

/-! ## The pending notice set (R190, R191) -/

/-- The place of a notice in the taking order: kind first, then port (R191). There is at most one pending notice in
each place. -/
def noticeSlot : Notice → Nat
  | .editEnd _ => 10
  | .runEnd _ => 20
  | .deck p _ => 30 + portNum p
  | .lock p _ => 40 + portNum p
  | .cueEnd p _ => 50 + portNum p
  | .rippleEnd => 60
  | .reference _ => 70
  | .reel p _ _ => 80 + portNum p
  | .settings _ => 90

/-- A notice put in its place, replacing an older one of the same kind and source (R190). -/
def putNotice (n : Notice) : List Notice → List Notice
  | [] => [n]
  | m :: rest =>
    if noticeSlot n < noticeSlot m then n :: m :: rest
    else if noticeSlot n = noticeSlot m then n :: rest
    else m :: putNotice n rest

/-- A notice raised (R190). -/
def raise (n : Notice) (s : State) : State := { s with notices := putNotice n s.notices }

/-! ## Commands waiting for a deck line (R62, R63, R69) -/

/-- Whether a command is of the record class (R59). -/
def recordClass : DeckCmd → Bool
  | .engage _ => true
  | .disengage => true
  | _ => false

/-- A command put among the pending ones: it replaces one of its class in that one's place, or joins at the end
(R63). -/
def enqueue (c : DeckCmd) : List DeckCmd → List DeckCmd
  | [] => [c]
  | d :: rest => if recordClass d = recordClass c then c :: rest else d :: enqueue c rest

/-- The record permission after a command is handed, whether it is kept or discarded (R69). -/
def permissionAfter (c : DeckCmd) (permission : Bool) : Bool :=
  match c with
  | .engage _ => true
  | .disengage => false
  | _ => permission

/-- A command handed to a port: kept while the line is ONLINE, discarded otherwise (R63, R69). -/
def handCommand (p : Port) (c : DeckCmd) (s : State) : State :=
  let d := s.port p
  s.setPort p { d with
    permission := permissionAfter c d.permission
    commands := if d.line = .online then enqueue c d.commands else d.commands }

/-- The poll cadence that applies to a port now (R62). -/
def cadence (s : State) (p : Port) : Nat :=
  let d := s.port p
  let st := (s.transport p).state
  if d.line = .offline then 25
  else if !d.commands.isEmpty || s.holder p ≠ .free || (s.chase p).isSome
      || st = .cueing || st = .rolling || st = .winding || st = .waking then 1
  else 8

/-- A change that makes a cadence shorter sets the countdown to the smaller of its value and the new cadence (R62);
applied after the work of every command. -/
def shortenPolls (s : State) : State :=
  { s with ports := s.ports.mapAll (fun p d => { d with countdown := min d.countdown (cadence s p) }) }

/-! ## Commands of the transport controller (R82) -/

/-- The commanded speed that a command sets (R82). -/
def commandSpeed : DeckCmd → Int
  | .play s => s
  | .shuttle s => s
  | .wind .forward => 32767
  | .wind .reverse => -32767
  | _ => 0

/-- The change mark: the kind differs from the last, or the speeds differ in sign, 0 being positive (R82). -/
def changeMark (t : Transport) (c : DeckCmd) : Bool :=
  decide (t.lastKind ≠ some (cmdKind c)) || (decide (t.speed < 0) != decide (commandSpeed c < 0))

/-- A transport-class command handed by the transport controller: the port takes it, the commanded speed and last
kind are set, the standby timer returns to 0 (R88), and a change mark starts the settle count (R82, R115). -/
def handTransport (p : Port) (c : DeckCmd) (s : State) : State :=
  let t := s.transport p
  let k := s.tracker p
  let s1 := handCommand p c s
  let s2 := s1.setTransport p { t with speed := commandSpeed c, lastKind := some (cmdKind c), standbyTimer := 0 }
  if changeMark t c then s2.setTracker p { k with settle := (s.profile p).settle } else s2

/-- A transport state entered; every change returns the standby timer to 0 (R88). -/
def enterState (p : Port) (st : TransportState) (s : State) : State :=
  let t := s.transport p
  s.setTransport p { t with state := st, standbyTimer := if t.state = st then t.standbyTimer else 0 }

/-- A cue cancelled by another requester is told to its own; only a CONSOLE cue cancelled by the sequencer raises a
CUE END (R87). -/
def tellCancelled (asker owner : Requester) (p : Port) (attempts : Nat) (s : State) : State :=
  if owner = .console ∧ asker = .sequencer then
    raise (.cueEnd p { outcome := .cancelled, requester := owner, attempts := attempts, lastStop := none }) s
  else s

/-- A cue record removed by a command that another party or its own requester asks (R82, R87). -/
def dropCue (asker : Requester) (p : Port) (s : State) : State :=
  match (s.transport p).cue with
  | none => s
  | some c => tellCancelled asker c.requester p c.attempts (s.setTransport p { s.transport p with cue := none })

/-- The pending motion replaced or removed; a replaced CUE of another requester is told to it (R84, R87). A cue that
is still a pending motion has made no attempt (log entry 17). -/
def putMotion (asker : Requester) (p : Port) (m : Option PendingMotion) (s : State) : State :=
  let s1 := s.setTransport p { s.transport p with motion := m }
  match (s.transport p).motion with
  | some ⟨owner, .cue _ _⟩ => tellCancelled asker owner p 0 s1
  | _ => s1

/-- A wake begun with the motion to carry out at its end (R90). -/
def beginWake (p : Port) (m : PendingMotion) (s : State) : State :=
  let s1 := enterState p .waking (handTransport p .wake s)
  s1.setTransport p { s1.transport p with
    wakeCount := (s.profile p).wakeSettle, wakeTaken := false, motion := some m }

/-- An action of R82. -/
inductive Action where
  | halt
  | play (speed : Nat)
  | shuttle (speed : Int)
  | wind (dir : Dir)
  deriving DecidableEq, Repr

/-- The command an action hands. -/
def actionCmd : Action → DeckCmd
  | .halt => .halt
  | .play s => .play s
  | .shuttle s => .shuttle s
  | .wind d => .wind d

/-- The transport state an action leads to (R82). -/
def actionState : Action → TransportState
  | .halt => .idle
  | .play _ => .rolling
  | .shuttle _ => .winding
  | .wind _ => .winding

/-- The pending motion of an action; a HALT leaves none (R82). -/
def actionMotion (asker : Requester) : Action → Option PendingMotion
  | .halt => none
  | .play s => some ⟨asker, .play s⟩
  | .shuttle s => some ⟨asker, .shuttle s⟩
  | .wind d => some ⟨asker, .wind d⟩

/-- An action carried out according to the transport state (the table of R82). -/
def act (asker : Requester) (p : Port) (a : Action) (s : State) : State :=
  match (s.transport p).state with
  | .offline => s
  | .panel => s
  | .empty => s
  | .standby =>
    match actionMotion asker a with
    | none => s
    | some m => beginWake p m s
  | .waking => putMotion asker p (actionMotion asker a) s
  | _ => enterState p (actionState a) (handTransport p (actionCmd a) (dropCue asker p s))

/-- A cue record created and SEEK handed (R84). -/
def startCue (asker : Requester) (p : Port) (target elapsed : Nat) (s : State) : State :=
  let s1 := enterState p .cueing (handTransport p (.seek target) s)
  s1.setTransport p { s1.transport p with
    cue := some { requester := asker, target := target, attempts := 1, acked := false, elapsed := elapsed,
                  lastStop := none } }

/-- A cue begun for a requester according to the transport state (R84). -/
def beginCue (asker : Requester) (p : Port) (target : Nat) (s : State) : State :=
  match (s.transport p).state with
  | .offline => s
  | .panel => s
  | .empty => s
  | .standby => beginWake p ⟨asker, .cue target 0⟩ s
  | .waking => putMotion asker p (some ⟨asker, .cue target 0⟩) s
  | _ => startCue asker p target 0 (dropCue asker p s)

/-- Whether a deck can take a motion: its state is not OFFLINE, LOCAL or EMPTY (R81, R92). -/
def deckUp (s : State) (p : Port) : Bool :=
  match (s.transport p).state with
  | .offline => false
  | .panel => false
  | .empty => false
  | _ => true

/-- A cue asked by the sequencer (R92). -/
def seqCue (p : Port) (target : Nat) (s : State) : State :=
  if s.holder p = .sequencer ∧ deckUp s p then beginCue .sequencer p target s else s

/-- A PLAY or HALT asked by the sequencer (R92). -/
def seqAct (p : Port) (a : Action) (s : State) : State :=
  if s.holder p = .sequencer ∧ deckUp s p then act .sequencer p a s else s

/-- Whether the chase servo may ask a motion of a chaser: held by CONSOLE, with a manual record (R92). -/
def manualChaser (s : State) (p : Port) : Bool :=
  match s.chase p with
  | some c => decide (c.kind = .manual ∧ s.holder p = .console)
  | none => false

/-- A cue asked by the chase servo (R92). -/
def chaseCue (p : Port) (target : Nat) (s : State) : State :=
  if manualChaser s p && deckUp s p then beginCue .chase p target s else s

/-- A PLAY at 1024 or a HALT asked by the chase servo (R92). -/
def chaseAct (p : Port) (a : Action) (s : State) : State :=
  if manualChaser s p && deckUp s p then act .chase p a s else s

/-- A correction speed of the chase servo: handed to a ROLLING deck with a chase record (R92). -/
def chaseCorrection (p : Port) (speed : Nat) (s : State) : State :=
  if (s.transport p).state = .rolling ∧ (s.chase p).isSome then handTransport p (.play speed) s else s

/-! ## DECK notices (R70, R80) -/

/-- A DECK notice raised for a port with the deck as it stands and the mode and flags given (R70, R80). -/
def raiseDeck (p : Port) (c : Option Condition) (s : State) : State :=
  raise (.deck p { line := (s.port p).line, transport := (s.transport p).state, mode := c.map Condition.mode,
                   threaded := c.map Condition.threaded, inhibit := c.map Condition.inhibit }) s

/-! ## The claim table (R89, R93 to R96) -/

/-- A RELEASE standing among the pending commands of a held port is replaced by a HALT, and the deck becomes IDLE
(R89); a deck that was sent to standby has no cue and no pending motion. -/
def overrideRelease (p : Port) (s : State) : State :=
  if s.holder p ≠ .free ∧ (s.port p).commands.contains .release then
    let s1 := enterState p .idle (handTransport p .halt s)
    s1.setTransport p { s1.transport p with cue := none, motion := none }
  else s

/-- One port claimed: its standby timer returns to 0 (R88), and a pending RELEASE gives way to a HALT (R89). -/
def claimPort (h : Holder) (p : Port) (s : State) : State :=
  let s1 := s.setHolder p h
  overrideRelease p (s1.setTransport p { s1.transport p with standbyTimer := 0 })

/-- Ports claimed, in order (R93). -/
def claimPorts (h : Holder) (ps : List Port) (s : State) : State := ps.foldl (fun s p => claimPort h p s) s

/-- Every port of a list is FREE. -/
def allFree (s : State) (ps : List Port) : Bool := ps.all (fun p => s.holder p = .free)

/-- Ports made FREE (R96). -/
def freePorts (ps : List Port) (s : State) : State := ps.foldl (fun s p => s.setHolder p .free) s

/-! ## The reel table by port (R100, R108) -/

/-- The port on which a reel is mounted (R108). -/
def mountedPort (s : State) (reel : Nat) : Option Port :=
  match s.reels[reel - 1]? with
  | some (some r) => if reel = 0 then none else r.mounted
  | _ => none

/-- The index of the reel mounted on a port, if there is one (R100). -/
def reelOn (s : State) (p : Port) : Option Nat :=
  (s.reels.toList.findIdx? (fun r => match r with
    | some r => r.mounted = some p
    | none => false)).map (· + 1)

/-- Whether a reel index names a defined reel (R22). -/
def reelDefined (s : State) (reel : Nat) : Bool :=
  match s.reels[reel - 1]? with
  | some (some _) => reel ≠ 0
  | _ => false

/-! ## The end of a command's work -/

/-- What a command answers once its work is done: a next state, with the poll countdowns shortened (R62). While
hardware reset is in progress no block works (R195; log entry 6). -/
def work (f : State → State) (s : State) : Result := .next (if s.inReset then s else shortenPolls (f s))

end Sys2Proof.Machine
end

