-- ==== Sys2Proof/Machine/Link.lean ====
section
/-! DEFINITION. The console link: transfers, the link byte, requests and answers, FETCH and the assertion of select
(R187 to R189). -/

namespace Sys2Proof.Machine

/-- A condition of a chain of checks: the first that fails gives the reason. -/
def check (c : Bool) (r : Reason) : Except Reason Unit := if c then .ok () else .error r

/-- A value that a check yields. -/
def need {α : Type} (v : Option α) (r : Reason) : Except Reason α :=
  match v with
  | some a => .ok a
  | none => .error r

/-- An answer made: it is placed in the answer buffer and the working flag is cleared (R189). -/
def putAnswer (a : Answer) (s : State) : State :=
  { s with link := { s.link with working := false, waiting := none, answer := some a } }

/-- A request carried out, with its answer's body. -/
def answer (code : Nat) (st : Status) (body : List Byte) (s : State) : State :=
  putAnswer { code := BitVec.ofNat 8 code, status := st, reason := none, body := body } s

/-- A request refused. -/
def refuse (code : Nat) (r : Reason) (s : State) : State :=
  putAnswer { code := BitVec.ofNat 8 code, status := .refused, reason := some r, body := [] } s

/-- DONE, or ADJUSTED where a value was moved into range (R189). -/
def doneOr (adjusted : Bool) : Status := if adjusted then .adjusted else .done

/-- STARTED, or ADJUSTED where a value was moved into range. -/
def startedOr (adjusted : Bool) : Status := if adjusted then .adjusted else .started

/-- The link byte of the transfer in progress: fixed at the assertion of select, or as it stands when no assertion
came by itself (log entry 12). -/
def transferByte (s : State) : LinkByte := s.link.selected.getD (linkByte s)

/-- The end of a transfer: select is released, and what was shifted out is known. -/
def endTransfer (out : List Byte) (s : State) : State :=
  { s with link := { s.link with selected := none, shifted := out } }

/-- A request taken: any answer held is discarded and the working flag is set (R188). -/
def takeRequest (s : State) : State := { s with link := { s.link with answer := none, working := true } }

/-- A request left waiting for the end of a ripple chunk (R49, R189). -/
def leaveWaiting (code : Nat) (body : List Byte) (s : State) : State :=
  { s with link := { s.link with waiting := some { code := BitVec.ofNat 8 code, body := body } } }

/-- What a request transfer does (R188): discarded whole while working; else taken, refused BAD-FRAME when its bytes
do not fit, left waiting when its owner must wait, and otherwise worked by its owner. -/
def request (code : Nat) (fits : List Byte → Bool) (waits : List Byte → State → Bool)
    (owner : List Byte → State → State) (body : List Byte) (s : State) : Result :=
  let s0 := endTransfer (bLink (transferByte s) ++ List.replicate body.length 0) s
  if s.inReset || (transferByte s).working then .next s0
  else
    let s1 := takeRequest s0
    if !fits body then .next (refuse code .badFrame s1)
    else if waits body s1 then .next (leaveWaiting code body s1)
    else .next (shortenPolls (owner body s1))

/-- A body of a fixed length (R188). -/
def lengthIs (n : Nat) (body : List Byte) : Bool := body.length = n

/-- A request that never waits. -/
def neverWaits (_ : List Byte) (_ : State) : Bool := false

/-- A request to the list unit waits while a chunk of a ripple is in progress, that is, while the ripple record
exists between commands (R49). -/
def waitsForList (_ : List Byte) (s : State) : Bool := s.list.ripple.isSome

/-- The answer frame (R197). -/
def bAnswer (a : Answer) : List Byte :=
  [a.code] ++ b1 (statusCode a.status) ++ b1 ((a.reason.map reasonCode).getD 0) ++ b2 a.body.length ++ a.body

/-- What FETCH shifts out: the link byte, the answer frame when answer ready was set at select, and zeros, for as
many bytes as are clocked (R189). -/
def fetchBytes (clocked : Nat) (s : State) : List Byte :=
  let lb := transferByte s
  let frame := match s.link.answer with
    | some a => if lb.ready && !s.inReset then bAnswer a else []
    | none => []
  let all := bLink lb ++ frame
  all.take clocked ++ List.replicate (clocked - all.length) 0

/-- A fetch transfer: the answer is consumed when select is released, if answer ready was set when it began (R189). -/
def fetchWork (clocked : Nat) (s : State) : State :=
  let s1 := endTransfer (fetchBytes clocked s) s
  if (transferByte s).ready && !s.inReset then { s1 with link := { s1.link with answer := none } } else s1

/-- FETCH (R189). -/
def execFetch (clocked : Nat) (s : State) : Result := .next (fetchWork clocked s)

/-- SELECT_ASSERTED: a transfer begins and the link byte is fixed (R187). -/
def execSelectAsserted (s : State) : Result :=
  .next { s with link := { s.link with selected := some (linkByte s) } }

/-- UNKNOWN_REQUEST: a request transfer whose code names no request is refused BAD-FRAME (R188). -/
def execUnknownRequest (code : Byte) (body : List Byte) (s : State) : Result :=
  request code.toNat (fun _ => false) neverWaits (fun _ s => s) body s

end Sys2Proof.Machine
end

