-- ==== Sys2Proof/Machine/ListUnit.lean ====
section
/-! DEFINITION. The list unit: the event table and its order, keys, track exclusivity, status writes, the ripple
record and its view (chapters 2 and 3). -/

namespace Sys2Proof.Machine

/-! ## The view during a ripple (R28, R44, R50) -/

/-- A record time moved by a signed count of frames, as a plain number. -/
def shiftTime (n : Nat) (d : Int) : Nat := ((n : Int) + d).toNat

/-- Status NEW, no fault class, previewed flag clear (R28). -/
def renew (e : Event) : Event := { e with status := .new, previewed := false }

/-- An event shifted by a ripple (R44): both record times moved, the status fields reset. -/
def shiftEvent (d : Int) (e : Event) : Event :=
  renew { e with recIn := shiftTime e.recIn d, recOut := shiftTime e.recOut d }

/-- Whether a key names an unworked member: at or past the frontier and not worked ahead (R44). -/
def unworked (r : Ripple) (key : Nat) : Bool := (r.members.drop r.frontier).contains key && !r.ahead.contains key

/-- An event as every answer shows it (R50). -/
def seen (l : ListUnit) (e : Event) : Event :=
  match l.ripple with
  | some r => if unworked r e.key then shiftEvent r.delta e else e
  | none => e

/-- The list as every answer shows it, in the order of R23 (R50). -/
def viewEvents (l : ListUnit) : List Event := l.events.map (seen l)

/-! ## Order, keys and exclusivity (R23 to R25) -/

/-- The order of the pair (record in, key) (R23). -/
def comesBefore (a b : Event) : Bool := a.recIn < b.recIn || (a.recIn = b.recIn && a.key < b.key)

/-- An event put in its place, where events are ordered by what `f` shows of them. -/
def insertBy (f : Event → Event) (e : Event) : List Event → List Event
  | [] => [e]
  | x :: rest => if comesBefore (f e) (f x) then e :: x :: rest else x :: insertBy f e rest

/-- Events ordered by what `f` shows of them. -/
def sortBy (f : Event → Event) (es : List Event) : List Event := es.foldr (insertBy f) []

/-- The event with a key, as stored. -/
def findKey (l : ListUnit) (key : Nat) : Option Event := l.events.find? (fun e => e.key = key)

/-- The position of a key in the order of R23, 1 for the first (0 when it is not in the list). -/
def positionOf (l : ListUnit) (key : Nat) : Nat :=
  match (viewEvents l).findIdx? (fun e => e.key = key) with
  | some i => i + 1
  | none => 0

/-- Whether a key is in use (R25). -/
def keyUsed (l : ListUnit) (key : Nat) : Bool := l.events.any (fun e => e.key = key)

/-- The key after a key, 4095 being followed by 1 (R25). -/
def keyAfter (key : Nat) : Nat := if 4095 ≤ key then 1 else key + 1

/-- The first key not in use from a key onward, looking at no more than `fuel` keys in use (R25). -/
def firstFree (l : ListUnit) : Nat → Nat → Nat
  | 0, key => key
  | fuel + 1, key => if keyUsed l key then firstFree l fuel (keyAfter key) else key

/-- The key the next accepted INSERT receives (R25, R32): at most 511 keys are in use. -/
def nextKey (l : ListUnit) : Nat := firstFree l 4095 l.keyCounter

/-- Two events conflict: they share a track and their ranges overlap (R24). -/
def conflicts (a b : Event) : Bool := decide (a.tracks &&& b.tracks ≠ 0) && a.recIn < b.recOut && b.recIn < a.recOut

/-- An event conflicts with none of a list (R24). -/
def clear (e : Event) (es : List Event) : Bool := es.all (fun f => !conflicts e f)

/-- An event of the list changed, by key. -/
def updateKey (key : Nat) (f : Event → Event) (es : List Event) : List Event :=
  es.map (fun e => if e.key = key then f e else e)

/-! ## Working a ripple (R49, R51, R53) -/

/-- A member worked out of turn when it is unworked (R51). -/
def workAhead (key : Nat) (l : ListUnit) : ListUnit :=
  match l.ripple with
  | some r =>
    if unworked r key then
      { l with events := updateKey key (shiftEvent r.delta) l.events
               ripple := some { r with ahead := key :: r.ahead } }
    else l
  | none => l

/-- The members of the chunk in progress: the next 16 from the frontier, or fewer (R49). -/
def chunkMembers (r : Ripple) : List Nat := (r.members.drop r.frontier).take 16

/-- A chunk worked: each unworked member is shifted, each worked-ahead member passed over and its key removed from
the list, the frontier moved; the record is removed with the last chunk (R49, R53). -/
def workChunk (l : ListUnit) : ListUnit :=
  match l.ripple with
  | none => l
  | some r =>
    let covered := chunkMembers r
    let events := l.events.map (fun e =>
      if covered.contains e.key && !r.ahead.contains e.key then shiftEvent r.delta e else e)
    let frontier := r.frontier + covered.length
    { l with
      events := events
      ripple := if r.members.length ≤ frontier then none
        else some { r with frontier := frontier, ahead := r.ahead.filter (fun k => !covered.contains k) } }

/-! ## Status writes (R27) -/

/-- The status part of a write: DONE and SLIPPED are taken only for the held event, PARTIAL, FAILED and SKIPPED for
any event of the list, and no write sets NEW (R27). -/
def writeStatus (held : Option Nat) (w : StatusWrite) (e : Event) : Event :=
  match w.status with
  | none => e
  | some .new => e
  | some .done => if held = some w.key then { e with status := .done } else e
  | some .slipped => if held = some w.key then { e with status := .slipped } else e
  | some st => { e with status := st }

/-- The previewed part of a write: it is taken only for the held event (R27). -/
def writePreviewed (held : Option Nat) (w : StatusWrite) (e : Event) : Event :=
  if w.previewed && held = some w.key then { e with previewed := true } else e

/-- A status write taken by the list unit; one that names no event of the list is discarded (R27, R51). -/
def takeWrite (held : Option Nat) (w : StatusWrite) (l : ListUnit) : ListUnit :=
  let l1 := workAhead w.key l
  { l1 with events := updateKey w.key (fun e => writePreviewed held w (writeStatus held w e)) l1.events }

/-! ## Changes of the list (R34 to R41, R45 to R48) -/

/-- A change that passed its checks: the list after it, the key concerned, the number of members shifted, and
whether a label was moved. -/
structure Change where
  list : ListUnit
  key : Nat
  members : Nat
  moved : Bool
  deriving DecidableEq, Repr

/-- Every member shifted lies within the day (step 8 of R45). -/
def shiftsInBounds (std : FrameStd) (d : Int) (ms : List Event) : Bool :=
  ms.all (fun e => decide (0 ≤ (e.recIn : Int) + d ∧ (e.recOut : Int) + d ≤ fday std))

/-- Every shifted member is clear of every unshifted event (step 10 of R45). -/
def shiftsClear (ms rest : List Event) : Bool := ms.all (fun e => clear e rest)

/-- The ripple record for a delta and a shift set, absent for an empty set (R46 to R48). -/
def rippleFor (d : Int) (ms : List Event) : Option Ripple :=
  if ms.isEmpty then none else some { delta := d, members := ms.map Event.key, frontier := 0, ahead := [] }

/-- The list with its stored events put in the order seen (R23, R50). -/
def reorder (l : ListUnit) : ListUnit := { l with events := sortBy (seen l) l.events }

/-- The held event is not among some events (steps 4 of R34 and R45). -/
def notHeldAmong (s : State) (es : List Event) : Bool :=
  match s.seq.heldKey with
  | some k => es.all (fun e => e.key ≠ k)
  | none => true

/-- Both reels of an event are defined (step 7 of R34). -/
def reelsDefined (s : State) (e : Event) : Bool :=
  reelDefined s e.toSrc.reel && (fromSource e).all (fun f => reelDefined s f.reel)

/-- The record range satisfies 0 ≤ record in < record out ≤ Fday (step 8 of R34). -/
def rangeInBounds (std : FrameStd) (recIn recOut : Int) : Bool :=
  decide (0 ≤ recIn ∧ recIn < recOut ∧ recOut ≤ (fday std : Int))

/-- The duration is no greater than the record length (step 9 of R34). -/
def durationFits (e : Event) : Bool := (durationOf e).all (fun d => d ≤ e.recOut - e.recIn)

/-- INSERT, with or without its ripple flag (R34, R35, R45, R47). -/
def insertChange (raw : RawEvent) (flag : Bool) (s : State) : Except Reason Change := do
  let l := s.list
  let (t, moved) ← need (readTimes s.std raw) .badTime
  check l.ripple.isNone .busy
  let ms := if flag then l.events.filter (fun e => t.recIn ≤ e.recIn) else []
  let rest := if flag then l.events.filter (fun e => e.recIn < t.recIn) else l.events
  let d : Int := (t.recOut : Int) - t.recIn
  check (notHeldAmong s ms) .held
  check (l.events.length < 511) .full
  let e ← need (eventOf raw t) .badField
  check (reelsDefined s e) .notFound
  check (rangeInBounds s.std t.recIn t.recOut && shiftsInBounds s.std d ms) .bounds
  check (durationFits e) .badField
  let shifted := ms.map (shiftEvent d)
  check (clear e rest && clear e shifted && shiftsClear shifted rest) .overlap
  let key := nextKey l
  let l1 := { l with events := { e with key := key } :: l.events, keyCounter := keyAfter key, ripple := rippleFor d ms }
  pure { list := reorder l1, key := key, members := ms.length, moved := moved }

/-- REPLACE (R34, R36). -/
def replaceChange (key : Nat) (raw : RawEvent) (s : State) : Except Reason Change := do
  let l := s.list
  let (t, moved) ← need (readTimes s.std raw) .badTime
  check l.ripple.isNone .busy
  check (keyUsed l key) .notFound
  check (s.seq.heldKey ≠ some key) .held
  let e ← need (eventOf raw t) .badField
  check (reelsDefined s e) .notFound
  check (rangeInBounds s.std t.recIn t.recOut) .bounds
  check (durationFits e) .badField
  let rest := l.events.filter (fun f => f.key ≠ key)
  check (clear e rest) .overlap
  pure { list := reorder { l with events := { e with key := key } :: rest }, key := key, members := 0, moved := moved }

/-- The from-source in of an event changed. -/
def mapFromSource (f : Nat → Nat) (e : Event) : Event :=
  match e.transition with
  | .cut => e
  | .dissolve s d => { e with transition := .dissolve { s with start := f s.start } d }
  | .wipe s d p r => { e with transition := .wipe { s with start := f s.start } d p r }

/-- The source frames that a motion rate covers in `d` record frames, truncated toward zero (R38). -/
def rateFrames (d : Int) (k : Nat) : Int := Int.tdiv (d * k) 1024

/-- The new record range of a TRIM, as plain numbers (R38, R39). -/
def trimRange (point : Nat) (d : Int) (e : Event) : Int × Int :=
  match point with
  | 0 => (e.recIn + d, e.recOut)
  | 1 => (e.recIn, e.recOut + d)
  | _ => (e.recIn, e.recOut)

/-- The event after a TRIM of one of the four points (R38, R39). -/
def trimEvent (std : FrameStd) (point : Nat) (d : Int) (e : Event) : Event :=
  let r := trimRange point d e
  let e1 := { e with recIn := r.1.toNat, recOut := r.2.toNat }
  match point with
  | 0 => mapFromSource (frameAdd std · d)
      { e1 with toSrc := { e.toSrc with start := frameAdd std e.toSrc.start (rateFrames d (eventRate e)) } }
  | 2 => { e1 with toSrc := { e.toSrc with start := frameAdd std e.toSrc.start d } }
  | 3 => mapFromSource (frameAdd std · d) e1
  | _ => e1

/-- The point and delta of a TRIM are legal for an event (step 6 of R34, R37). -/
def trimLegal (point : Nat) (d : Int) (e : Event) : Bool :=
  decide (point ≤ 3 ∧ -2591999 ≤ d ∧ d ≤ 2591999) && (point ≠ 3 || (fromSource e).isSome)

/-- TRIM (R34, R37 to R39). -/
def trimChange (key point : Nat) (d : Int) (s : State) : Except Reason Change := do
  let l := s.list
  check l.ripple.isNone .busy
  let e ← need (findKey l key) .notFound
  check (s.seq.heldKey ≠ some key) .held
  check (trimLegal point d e) .badField
  let r := trimRange point d e
  check (rangeInBounds s.std r.1 r.2) .bounds
  let e1 := trimEvent s.std point d e
  check (durationFits e1) .badField
  let rest := l.events.filter (fun f => f.key ≠ key)
  check (clear e1 rest) .overlap
  pure { list := reorder { l with events := renew e1 :: rest }, key := key, members := 0, moved := false }

/-- DELETE, with or without its ripple flag (R34, R40, R45, R48). -/
def deleteChange (key : Nat) (flag : Bool) (s : State) : Except Reason Change := do
  let l := s.list
  check l.ripple.isNone .busy
  let e ← need (findKey l key) .notFound
  let ms := if flag then l.events.filter (fun f => comesBefore e f) else []
  check (decide (s.seq.heldKey ≠ some key) && notHeldAmong s ms) .held
  let d : Int := (e.recIn : Int) - e.recOut
  check (shiftsInBounds s.std d ms) .bounds
  let before := l.events.filter (fun f => comesBefore f e)
  check (shiftsClear (ms.map (shiftEvent d)) before) .overlap
  let l1 := { l with events := l.events.filter (fun f => f.key ≠ key), ripple := rippleFor d ms }
  pure { list := reorder l1, key := key, members := ms.length, moved := false }

/-- RIPPLE from a position onward (R34, R45, R46). -/
def rippleChange (p : Nat) (d : Int) (s : State) : Except Reason Change := do
  let l := s.list
  check l.ripple.isNone .busy
  check (decide (1 ≤ p ∧ p ≤ l.events.length)) .notFound
  let ms := l.events.drop (p - 1)
  check (notHeldAmong s ms) .held
  check (decide (-2591999 ≤ d ∧ d ≤ 2591999)) .badField
  check (shiftsInBounds s.std d ms) .bounds
  check (shiftsClear (ms.map (shiftEvent d)) (l.events.take (p - 1))) .overlap
  pure { list := reorder { l with ripple := rippleFor d ms }, key := 0, members := ms.length, moved := false }

/-- CLEAR LIST (R34, R41). -/
def clearChange (s : State) : Except Reason Change := do
  check s.list.ripple.isNone .busy
  check (decide (s.seq.phase = .idle ∧ s.seq.heldKey = none)) .held
  pure { list := { events := [], keyCounter := 1, ripple := none }, key := 0, members := 0, moved := false }

/-! ## The owner's work for each request of the list unit -/

/-- READ BY POSITION (R29). -/
def readByPositionOwner (body : List Byte) (s : State) : State :=
  let p := half body 0
  let n := s.list.events.length
  match if p = 0 then none else (viewEvents s.list)[p - 1]? with
  | some e => answer 0x01 .done (bEvent s.std e ++ b2 p ++ b2 n) s
  | none => putAnswer { code := 0x01, status := .refused, reason := some .notFound, body := blankEvent ++ b2 n } s

/-- READ BY KEY (R30). -/
def readByKeyOwner (body : List Byte) (s : State) : State :=
  let key := half body 0
  match (viewEvents s.list).find? (fun e => e.key = key) with
  | some e =>
    answer 0x02 .done (bEvent s.std e ++ b2 (positionOf s.list key) ++ b2 s.list.events.length) s
  | none => refuse 0x02 .notFound s

/-- FIND's tests and lookup (R31): the event of lowest position that covers the frame on a requested track, and
whether the label was moved. -/
def findEvent (body : List Byte) (s : State) : Except Reason (Event × Bool) := do
  let (f, moved) ← need (readLabel s.std false (labelAt body 0)) .badTime
  let tracks ← need (trackSetOf (byteAt body 4)) .badField
  let e ← need ((viewEvents s.list).find? (fun e =>
    e.recIn ≤ f && f < e.recOut && decide (e.tracks &&& tracks ≠ 0))) .notFound
  pure (e, moved)

/-- FIND: the event with its position, and the label used if it was moved (R31, R4; log entry 18). -/
def findOwner (body : List Byte) (s : State) : State :=
  match findEvent body s with
  | .ok (e, moved) =>
    answer 0x03 (doneOr moved)
      (bEvent s.std e ++ b2 (positionOf s.list e.key) ++ bUsedLabels s.std [some (labelAt body 0)]) s
  | .error r => refuse 0x03 r s

/-- LIST STATUS (R32). -/
def listStatusOwner (_ : List Byte) (s : State) : State :=
  answer 0x04 .done (b2 s.list.events.length ++ b2 (nextKey s.list) ++ bFlag s.list.ripple.isSome) s

/-- The list after an accepted change put in the state. -/
def setList (l : ListUnit) (s : State) : State := { s with list := l }

/-- INSERT's answer: the key, the position, with a ripple the number of members, and the labels used in place of moved
ones (R35, R47, R4; log entry 18). -/
def insertOwner (body : List Byte) (s : State) : State :=
  let n := eventLength body 0
  match insertChange (rawEventAt body 0) (flagAt body n) s with
  | .ok c =>
    answer 0x05 (doneOr c.moved) (b2 c.key ++ b2 (positionOf c.list c.key)
      ++ (if c.members = 0 then [] else b2 c.members) ++ bUsedLabels s.std (rawEventAt body 0).labels)
      (setList c.list s)
  | .error r => refuse 0x05 r s

/-- REPLACE's answer: the key, the new position, and the labels used in place of moved ones (R36, R4; log entry 18). -/
def replaceOwner (body : List Byte) (s : State) : State :=
  match replaceChange (half body 0) (rawEventAt body 2) s with
  | .ok c =>
    answer 0x06 (doneOr c.moved)
      (b2 c.key ++ b2 (positionOf c.list c.key) ++ bUsedLabels s.std (rawEventAt body 2).labels) (setList c.list s)
  | .error r => refuse 0x06 r s

/-- TRIM's answer: the event after the trim, with its position (R37). -/
def trimOwner (body : List Byte) (s : State) : State :=
  match trimChange (half body 0) (byteAt body 2) (signedLong body 3) s with
  | .ok c =>
    let e := match findKey c.list c.key with
      | some e => bEvent s.std e
      | none => []
    answer 0x07 .done (e ++ b2 (positionOf c.list c.key)) (setList c.list s)
  | .error r => refuse 0x07 r s

/-- DELETE's answer: the key, the count, and with the flag set the number of members (R40, R48). -/
def deleteOwner (body : List Byte) (s : State) : State :=
  let flag := flagAt body 2
  match deleteChange (half body 0) flag s with
  | .ok c =>
    answer 0x08 .done (b2 c.key ++ b2 c.list.events.length ++ (if flag then b2 c.members else [])) (setList c.list s)
  | .error r => refuse 0x08 r s

/-- CLEAR LIST's answer (R41). -/
def clearListOwner (_ : List Byte) (s : State) : State :=
  match clearChange s with
  | .ok c => answer 0x09 .done [] (setList c.list s)
  | .error r => refuse 0x09 r s

/-- RIPPLE's answer: the position, the delta, the number of members and the count (R46). -/
def rippleOwner (body : List Byte) (s : State) : State :=
  let p := half body 0
  let d := signedLong body 2
  match rippleChange p d s with
  | .ok c => answer 0x0A .done (b2 p ++ s4 d ++ b2 c.members ++ b2 c.list.events.length) (setList c.list s)
  | .error r => refuse 0x0A r s

/-! ## The commands -/

/-- An event transfer record from an offset, with `extra` bytes after it, fills the body (R188). -/
def recordFits (offset extra : Nat) (body : List Byte) : Bool :=
  eventLength body offset ≠ 0 && body.length = offset + eventLength body offset + extra

/-- READ_BY_POSITION (R29). -/
def execReadByPosition (body : List Byte) (s : State) : Result :=
  request 0x01 (lengthIs 2) waitsForList readByPositionOwner body s

/-- READ_BY_KEY (R30). -/
def execReadByKey (body : List Byte) (s : State) : Result :=
  request 0x02 (lengthIs 2) waitsForList readByKeyOwner body s

/-- FIND (R31). -/
def execFind (body : List Byte) (s : State) : Result :=
  request 0x03 (lengthIs 5) waitsForList findOwner body s

/-- LIST_STATUS (R32). -/
def execListStatus (body : List Byte) (s : State) : Result :=
  request 0x04 (lengthIs 0) waitsForList listStatusOwner body s

/-- INSERT (R35, R47). -/
def execInsert (body : List Byte) (s : State) : Result :=
  request 0x05 (recordFits 0 1) waitsForList insertOwner body s

/-- REPLACE (R36). -/
def execReplace (body : List Byte) (s : State) : Result :=
  request 0x06 (recordFits 2 0) waitsForList replaceOwner body s

/-- TRIM (R37). -/
def execTrim (body : List Byte) (s : State) : Result :=
  request 0x07 (lengthIs 7) waitsForList trimOwner body s

/-- DELETE (R40, R48). -/
def execDelete (body : List Byte) (s : State) : Result :=
  request 0x08 (lengthIs 3) waitsForList deleteOwner body s

/-- CLEAR_LIST (R41). -/
def execClearList (body : List Byte) (s : State) : Result :=
  request 0x09 (lengthIs 0) waitsForList clearListOwner body s

/-- RIPPLE (R46). -/
def execRipple (body : List Byte) (s : State) : Result :=
  request 0x0A (lengthIs 6) waitsForList rippleOwner body s

end Sys2Proof.Machine
end

