-- ==== Sys2Proof/Machine/Reels.lean ====
section
/-! DEFINITION. The reel table: names, mounts, tape out, and its requests (chapter 6). -/

namespace Sys2Proof.Machine

/-! ## The table (R100, R101) -/

/-- The entry at an index 1..64: `none` outside the table, `some none` for a free entry. -/
def reelAt (s : State) (i : Nat) : Option (Option Reel) := if i = 0 then none else s.reels[i - 1]?

/-- The state with the entry at an index replaced. -/
def setReel (i : Nat) (r : Option Reel) (s : State) : State :=
  if i = 0 then s else { s with reels := s.reels.setIfInBounds (i - 1) r }

/-- The index of the defined reel with a name (R109). -/
def reelNamed (s : State) (name : List Byte) : Option Nat :=
  (s.reels.toList.findIdx? (fun r => match r with
    | some r => r.name = name
    | none => false)).map (· + 1)

/-- A name is taken when a defined entry other than the one acted on holds it (R101). -/
def nameTaken (s : State) (name : List Byte) (but : Nat) : Bool :=
  (List.range 64).any (fun i => i + 1 ≠ but && (match reelAt s (i + 1) with
    | some (some r) => decide (r.name = name)
    | _ => false))

/-- The lowest free index (R102). -/
def lowestFree (s : State) : Option Nat := (s.reels.toList.findIdx? Option.isNone).map (· + 1)

/-- The count of defined reels (R109). -/
def definedCount (s : State) : Nat := s.reels.toList.countP Option.isSome

/-- Whether an event of the list refers to a reel (R104, R109). -/
def referenced (s : State) (i : Nat) : Bool :=
  s.list.events.any (fun e => e.toSrc.reel = i || (fromSource e).any (fun f => f.reel = i))

/-- The mount of a reel changed. -/
def setMount (i : Nat) (p : Option Port) (s : State) : State :=
  match reelAt s i with
  | some (some r) => setReel i (some { r with mounted := p }) s
  | _ => s

/-- Whether a port is held by SEQUENCER. -/
def seqHeld (s : State) (p : Port) : Bool := s.holder p = .sequencer

/-! ## Tape out (R107) -/

/-- A tape-out report for a port: the mount there is cleared with a REEL notice (R107). -/
def tapeOut (p : Port) (s : State) : State :=
  match reelOn s p with
  | none => s
  | some i =>
    match reelAt s i with
    | some (some r) => raise (.reel p i r.name) (setMount i none s)
    | _ => s

/-! ## Requests -/

/-- DEFINE REEL's tests and effect (R102). -/
def defineReelOwner (body : List Byte) (s : State) : State :=
  let name := nameAt body 0
  let plan : Except Reason Nat := do
    check (nameValid name) .badField
    check (!nameTaken s name 0) .inUse
    need (lowestFree s) .full
  match plan with
  | .ok i => answer 0x13 .done (b1 i) (setReel i (some { name := name, mounted := none }) s)
  | .error r => refuse 0x13 r s

/-- The defined entry at an index, with the refusals BAD-FIELD and NOT-FOUND (R103, R104). -/
def definedReel (s : State) (i : Nat) : Except Reason Reel := do
  let entry ← need (reelAt s i) .badField
  need entry .notFound

/-- RENAME (R103). -/
def renameOwner (body : List Byte) (s : State) : State :=
  let i := byteAt body 0
  let name := nameAt body 1
  let plan : Except Reason Reel := do
    let r ← definedReel s i
    check (nameValid name) .badField
    check (!nameTaken s name i) .inUse
    pure r
  match plan with
  | .ok r =>
    answer 0x14 .done (b1 i ++ bName name ++ bOpt 1 bPort r.mounted) (setReel i (some { r with name := name }) s)
  | .error r => refuse 0x14 r s

/-- Steps 1 to 3 of RETIRE (R104). -/
def retireChecks (i : Nat) (s : State) : Except Reason Reel := do
  let r ← definedReel s i
  check (!r.mounted.any (seqHeld s)) .held
  pure r

/-- Step 4 of RETIRE, the question to the list unit, and the retirement (R104). -/
def retireStep (body : List Byte) (s : State) : State :=
  let i := byteAt body 0
  match reelAt s i with
  | some (some r) =>
    if referenced s i then refuse 0x15 .inUse s
    else answer 0x15 .done (b1 i ++ bOpt 1 bPort r.mounted) (setReel i none s)
  | _ => refuse 0x15 .notFound s

/-- RETIRE (R104). -/
def retireOwner (body : List Byte) (s : State) : State :=
  match retireChecks (byteAt body 0) s with
  | .ok _ => retireStep body s
  | .error r => refuse 0x15 r s

/-- MOUNT's tests (R105). -/
def mountChecks (i n : Nat) (s : State) : Except Reason (Reel × Port) := do
  let entry ← need (reelAt s i) .badField
  let p ← need (portOf n) .badField
  let r ← need entry .notFound
  check (s.recorder ≠ some p) .role
  check (!seqHeld s p && !r.mounted.any (seqHeld s)) .held
  pure (r, p)

/-- MOUNT: a reel on the port is displaced, the reel moves from its port (R105). -/
def mountOwner (body : List Byte) (s : State) : State :=
  let i := byteAt body 0
  match mountChecks i (byteAt body 1) s with
  | .ok (r, p) =>
    let displaced := if r.mounted = some p then none else reelOn s p
    let moved := if r.mounted = some p then none else r.mounted
    let s1 := match displaced with
      | some j => setMount j none s
      | none => s
    answer 0x16 .done (b1 i ++ bPort p ++ bOpt 1 b1 displaced ++ bOpt 1 bPort moved) (setMount i (some p) s1)
  | .error r => refuse 0x16 r s

/-- UNMOUNT (R106). -/
def unmountOwner (body : List Byte) (s : State) : State :=
  let plan : Except Reason Port := do
    let p ← need (portOf (byteAt body 0)) .badField
    check (!seqHeld s p) .held
    pure p
  match plan with
  | .ok p =>
    let s1 := match reelOn s p with
      | some i => setMount i none s
      | none => s
    answer 0x17 .done (bOpt 1 b1 (reelOn s p)) s1
  | .error r => refuse 0x17 r s

/-- READ REEL: whether the entry is defined, then the fields of a defined entry, which are absent for a free one (R109,
R197; log entry 14). -/
def readReelOwner (body : List Byte) (s : State) : State :=
  let i := byteAt body 0
  match reelAt s i with
  | none => refuse 0x18 .badField s
  | some none => answer 0x18 .done (b1 0 ++ bName [] ++ bOpt 1 bPort none ++ bFlag false) s
  | some (some r) =>
    answer 0x18 .done (b1 1 ++ bName r.name ++ bOpt 1 bPort r.mounted ++ bFlag (referenced s i)) s

/-- FIND REEL (R109). -/
def findReelOwner (body : List Byte) (s : State) : State :=
  let name := nameAt body 0
  if !nameValid name then refuse 0x19 .badField s
  else
    match reelNamed s name with
    | none => refuse 0x19 .notFound s
    | some i => answer 0x19 .done (b1 i ++ bOpt 1 bPort (mountedPort s i) ++ bFlag (referenced s i)) s

/-- One port's entry in the answer to MOUNT TABLE: index and name, or absent (an absent name has length 0). -/
def bMount (s : State) (p : Port) : List Byte :=
  match reelOn s p with
  | none => b1 0 ++ [0, 0]
  | some i =>
    b1 1 ++ b1 i ++ (match reelAt s i with
      | some (some r) => bName r.name
      | _ => b1 0)

/-- MOUNT TABLE (R109). -/
def mountTableOwner (_ : List Byte) (s : State) : State :=
  answer 0x1A .done (allPorts.flatMap (bMount s) ++ b2 (definedCount s)) s

/-- RETIRE waits for the list unit when it has come to step 4 (R104, R49). -/
def retireWaits (body : List Byte) (s : State) : Bool :=
  waitsForList body s && (match retireChecks (byteAt body 0) s with
    | .ok _ => true
    | .error _ => false)

/-- READ REEL waits when it needs the referenced flag (R109). -/
def readReelWaits (body : List Byte) (s : State) : Bool :=
  waitsForList body s && (match reelAt s (byteAt body 0) with
    | some (some _) => true
    | _ => false)

/-- FIND REEL waits when it needs the referenced flag (R109). -/
def findReelWaits (body : List Byte) (s : State) : Bool :=
  waitsForList body s && nameValid (nameAt body 0) && (reelNamed s (nameAt body 0)).isSome

/-- DEFINE_REEL (R102). -/
def execDefineReel (body : List Byte) (s : State) : Result :=
  request 0x13 (nameFits · 0) neverWaits defineReelOwner body s

/-- RENAME (R103). -/
def execRename (body : List Byte) (s : State) : Result :=
  request 0x14 (nameFits · 1) neverWaits renameOwner body s

/-- RETIRE (R104). -/
def execRetire (body : List Byte) (s : State) : Result :=
  request 0x15 (lengthIs 1) retireWaits retireOwner body s

/-- MOUNT (R105). -/
def execMount (body : List Byte) (s : State) : Result :=
  request 0x16 (lengthIs 2) neverWaits mountOwner body s

/-- UNMOUNT (R106). -/
def execUnmount (body : List Byte) (s : State) : Result :=
  request 0x17 (lengthIs 1) neverWaits unmountOwner body s

/-- READ_REEL (R109). -/
def execReadReel (body : List Byte) (s : State) : Result :=
  request 0x18 (lengthIs 1) readReelWaits readReelOwner body s

/-- FIND_REEL (R109). -/
def execFindReel (body : List Byte) (s : State) : Result :=
  request 0x19 (nameFits · 0) findReelWaits findReelOwner body s

/-- MOUNT_TABLE (R109). -/
def execMountTable (body : List Byte) (s : State) : Result :=
  request 0x1A (lengthIs 0) neverWaits mountTableOwner body s

end Sys2Proof.Machine
end

