-- ==== Sys2Proof/Machine/Outputs.lean ====
section
/-! DEFINITION. The transition generator and the GPI unit: the mix port, the coefficient ramp, GPI firing, pulses and
level drops, and OUTPUT STATUS (chapter 10). -/

namespace Sys2Proof.Machine

/-! ## The transition generator (R171 to R178) -/

/-- The crosspoint setup of an edit staged at its roll frame, any ramp record removed (R141, R172). -/
def stageSetup (e : Event) (decks : DeckSet) (s : State) : State :=
  let toNum := (decks.toPort.map portNum).getD 0
  let fromNum := (decks.fromPort.map portNum).getD 0
  let o := s.mix.out
  let setup : MixOut := match e.transition with
    | .cut => { busA := toNum, busB := 0, coef := 0, pattern := o.pattern, reverse := o.reverse }
    | .dissolve _ _ => { busA := fromNum, busB := toNum, coef := 0, pattern := o.pattern, reverse := o.reverse }
    | .wipe _ _ p r => { busA := fromNum, busB := toNum, coef := 0, pattern := p, reverse := r }
  { s with mix := { s.mix with staged := some setup, ramp := none } }

/-- The transition of a DISSOLVE or WIPE started; a CUT starts none (R144, R173). -/
def startTransition (e : Event) (s : State) : State :=
  match durationOf e with
  | some d => { s with mix := { s.mix with ramp := some { duration := d, last := 0 } } }
  | none => s

/-- The transition generator told to stop: the ramp record is removed, the outputs hold (R176). -/
def stopMix (s : State) : State := { s with mix := { s.mix with ramp := none } }

/-- The coefficient at ramp index `j` of a transition of `d` frames (R174). -/
def rampCoef (d j : Nat) : Nat := (1023 * j + d) / (2 * d)

/-- The flip-flop: bus A takes bus B's source, bus B and the coefficient become 0, the ramp record is removed
(R175). -/
def flipFlop (m : Mix) : Mix :=
  { m with out := { m.out with busA := m.out.busB, busB := 0, coef := 0 }, ramp := none }

/-- What the ramp presents at its index `j` (R174, R175). -/
def rampField (r : Ramp) (j : Nat) (m : Mix) : Mix :=
  if 2 * r.duration + 1 ≤ j then flipFlop m
  else { m with out := { m.out with coef := rampCoef r.duration j }, ramp := some { r with last := j } }

/-- The ramp index of a field event: the sequencer's field index for the same field (R144, R173). -/
def rampIndex (s : State) (r : Ramp) : Nat := s.seq.fieldIndex.getD (r.last + 1)

/-- The transition generator's work for a field event, ending with the field strobe (R171). -/
def mixField (s : State) : State :=
  let m := s.mix
  let m1 := match m.staged, m.ramp with
    | some o, _ => { m with out := o, staged := none }
    | none, some r => rampField r (rampIndex s r) m
    | none, none => m
  { s with mix := { m1 with strobes := m1.strobes + 1 } }

/-- Both outputs and records of the mix port at their reset values (R178). -/
def blackMix (s : State) : State := { s with mix := { s.mix with out := .black, staged := none, ramp := none } }

/-! ## The GPI unit (R179 to R185) -/

/-- The pulse length of a line in field events (R179). -/
def pulseFields (c : GpiConfig) : Nat := if c.long then 30 else 1

/-- A line made active or inactive. -/
def setLine (l : Line) (f : Option Fired) (s : State) : State :=
  { s with gpi := { s.gpi with lines := s.gpi.lines.set l f } }

/-- A trigger fired on a line (R182). -/
def fireLine (mode : Mode) (l : Line) (s : State) : State :=
  let c := s.live.gpi.get l
  if !c.enable || (mode = .preview && !c.inPreview) || (s.gpi.lines.get l).isSome then s
  else setLine l (some (if c.level then .level false else .pulse 0)) s

/-- The triggers of the armed list tested in order; each that is reached and has not fired is fired (R181). -/
def fireReached (mode : Mode) (reached : Nat → Bool) : List ArmedTrigger → State → State × List ArmedTrigger
  | [], s => (s, [])
  | t :: rest, s =>
    let fires := !t.fired && reached t.point
    let s1 := if fires then fireLine mode t.line s else s
    let r := fireReached mode reached rest s1
    (r.1, { t with fired := t.fired || fires } :: r.2)

/-- The armed trigger list tested with a condition on point frames (R181, R184). -/
def testTriggers (reached : Nat → Bool) (s : State) : State :=
  match s.gpi.armed with
  | none => s
  | some a =>
    let r := fireReached a.mode reached a.triggers s
    { r.1 with gpi := { r.1.gpi with armed := some { a with triggers := r.2 } } }

/-- A point, given as a record frame, is reached by a position (R142, R181). -/
def pointReached (std : FrameStd) (pos : Nat) (point : Int) : Bool := decide (0 ≤ posDiff std pos (onDay std (point * 64)))

/-- The triggers of an event handed at the roll frame and tested against the recorder's position (R181). -/
def armTriggers (mode : Mode) (e : Event) (pos : Nat) (s : State) : State :=
  let ts := e.triggers.map (fun t => { line := t.line, point := frameAdd s.std e.recIn t.offset, fired := false })
  let s1 := { s with gpi := { s.gpi with armed := some { mode := mode, recIn := e.recIn, triggers := ts } } }
  testTriggers (fun point => pointReached s.std pos point) s1

/-- The GPI unit told that the event has ended: at a completion the triggers left are fired, LEVEL lines are marked
to drop, the armed list is removed (R184). -/
def endGpi (completed : Bool) (s : State) : State :=
  let s1 := if completed then testTriggers (fun _ => true) s else s
  let drop : Line → Option Fired → Option Fired := fun _ f => match f with
    | some (.level _) => some (.level true)
    | other => other
  { s1 with gpi := { lines := s1.gpi.lines.mapAll drop, armed := none } }

/-- One line's work for a field event: a pulse counts and ends at its length, a level marked to drop goes inactive
(R183, R184). -/
def lineField (c : GpiConfig) : Option Fired → Option Fired
  | some (.pulse n) => if pulseFields c ≤ n + 1 then none else some (.pulse (n + 1))
  | some (.level true) => none
  | other => other

/-- The GPI unit's work for a field event (R183, R184). -/
def gpiField (s : State) : State :=
  { s with gpi := { s.gpi with lines := s.gpi.lines.mapAll (fun l f => lineField (s.live.gpi.get l) f) } }

/-- Every line inactive and no armed list (R185). -/
def quietGpi (s : State) : State := { s with gpi := { lines := .const none, armed := none } }

/-- A line configuration changed: a change that clears enable on an active line makes it inactive at once (R179). -/
def setGpiConfig (l : Line) (c : GpiConfig) (s : State) : State :=
  let s1 := { s with live := { s.live with gpi := s.live.gpi.set l c } }
  if c.enable then s1 else setLine l none s1

/-! ## FLIP_FLOP and GPI_PULSE_END as steps by themselves (log entry 9) -/

/-- FLIP_FLOP: with the ramp index at 2D+1 and the ramp record present, the flip-flop is made (R175). -/
def flipFlopWork (s : State) : State :=
  match s.mix.ramp with
  | some r => if s.seq.fieldIndex = some (2 * r.duration + 1) then { s with mix := flipFlop s.mix } else s
  | none => s

/-- FLIP_FLOP (R175). -/
def execFlipFlop (s : State) : Result := work flipFlopWork s

/-- GPI_PULSE_END: a pulse whose elapsed count has reached the line's pulse length ends (R183). -/
def gpiPulseEndWork (l : Line) (s : State) : State :=
  match s.gpi.lines.get l with
  | some (.pulse n) => if pulseFields (s.live.gpi.get l) ≤ n then setLine l none s else s
  | _ => s

/-- GPI_PULSE_END (R183). -/
def execGpiPulseEnd (l : Line) (s : State) : Result := work (gpiPulseEndWork l) s

/-! ## OUTPUT STATUS (R186) -/

/-- The five outputs of the mix port in an answer. -/
def bMixOut (o : MixOut) : List Byte := b1 o.busA ++ b1 o.busB ++ b2 o.coef ++ b1 o.pattern ++ bFlag o.reverse

/-- The fired kind of an active line, PULSE 0 and LEVEL 1 as the mode bit of its configuration (log entry 14). -/
def firedCode : Fired → Nat
  | .pulse _ => 0
  | .level _ => 1

/-- The elapsed count of a pulse. -/
def pulseElapsed : Fired → Option Nat
  | .pulse n => some n
  | .level _ => none

/-- The drop pending flag of a level. -/
def dropPending : Fired → Bool
  | .pulse _ => false
  | .level d => d

/-- One GPI line in the answer: configuration, active flag, the fired kind when active, the elapsed count of a pulse,
and the drop pending flag (R186, R197; log entry 14). -/
def bLine (s : State) (l : Line) : List Byte :=
  let f := s.gpi.lines.get l
  bGpi (s.live.gpi.get l) ++ bFlag f.isSome ++ bOpt 1 (fun x => b1 (firedCode x)) f ++ bOpt 2 b2 (f.bind pulseElapsed)
    ++ bFlag (f.any dropPending)

/-- One armed trigger in the answer. -/
def bArmedTrigger (std : FrameStd) (t : ArmedTrigger) : List Byte :=
  b1 (lineNum t.line) ++ bFrame std t.point ++ bFlag t.fired

/-- OUTPUT STATUS (R186). An absent armed trigger list, whose length varies, is sent as one zero byte after its presence
byte, which is the model's choice (R197; log entry 14). -/
def outputStatusOwner (_ : List Byte) (s : State) : State :=
  answer 0x25 .done (bMixOut s.mix.out ++ bOpt 6 bMixOut s.mix.staged
    ++ bOpt 4 (fun r => b2 r.duration ++ b2 r.last) s.mix.ramp
    ++ allLines.flatMap (bLine s)
    ++ bOpt 1 (fun a => bList (bArmedTrigger s.std) a.triggers) s.gpi.armed) s

/-- OUTPUT_STATUS (R186). -/
def execOutputStatus (body : List Byte) (s : State) : Result :=
  request 0x25 (lengthIs 0) neverWaits outputStatusOwner body s

end Sys2Proof.Machine
end

