-- ==== Sys2Proof/Machine/Tracking.lean ====
section
/-! DEFINITION. The position tracker: prediction, the sample test and jumps, and TRACK STATUS (chapter 7). -/

namespace Sys2Proof.Machine

/-! ## Prediction (R112) -/

/-- A position and remainder carried one frame on at a commanded speed (R112). -/
def advanceBy (std : FrameStd) (speed : Int) (position remainder : Nat) : Nat × Nat :=
  if speed = 0 then (position, remainder)
  else
    let t := speed.natAbs + remainder
    let steps : Int := ((t / 16 : Nat) : Int)
    (posAdd std position (if 0 < speed then steps else -steps), t % 16)

/-- One port's tracker work for a reference frame event (R112). -/
def predict (std : FrameStd) (speed : Int) (k : Tracker) : Tracker :=
  let next := advanceBy std speed k.position k.remainder
  { k with position := next.1, remainder := next.2, age := min 255 (k.age + 1), settle := k.settle - 1,
           advance := speed }

/-- The tracker's work for a reference frame event, for every port whatever its line state (R112). -/
def trackerFrame (s : State) : State :=
  { s with trackers := s.trackers.mapAll (fun p k => predict s.std (s.transport p).speed k) }

/-! ## Samples (R113 to R115) -/

/-- Whether a sample is tested (R113). -/
def sampleTested (k : Tracker) (t : Transport) : Bool :=
  k.known && k.settle = 0 && (match t.state with
    | .idle => true
    | .parked => true
    | .rolling => true
    | .winding => t.lastKind = some .shuttle
    | _ => false)

/-- A tracker record after an accepted sample (R113). -/
def acceptSample (sample : Nat) (k : Tracker) : Tracker :=
  { k with position := sample, remainder := 0, age := 0, glitch := 0, known := true }

/-- Whether a tested sample lies within the plausibility window of `w` frames (R114). -/
def plausible (std : FrameStd) (w sample : Nat) (k : Tracker) : Bool :=
  decide ((posDiff std sample k.position).natAbs ≤ w * 64)

/-- A sample accepted as a jump: the lock run of the chase record in which the deck is chaser becomes 0 (R114). -/
def jump (p : Port) (sample : Nat) (s : State) : State :=
  let s1 := s.setTracker p (acceptSample sample (s.tracker p))
  match s.chase p with
  | some c => s1.setChase p (some { c with lockRun := 0 })
  | none => s1

/-- A sample taken (R113, R114). -/
def takeSample (p : Port) (tested : Bool) (sample : Nat) (s : State) : State :=
  let k := s.tracker p
  if !tested || plausible s.std (s.profile p).plausibility sample k then s.setTracker p (acceptSample sample k)
  else if 2 ≤ k.glitch then jump p sample s
  else s.setTracker p { k with glitch := k.glitch + 1 }

/-- SAMPLE_JUMP: a third consecutive rejection is accepted as a jump; the sample is a position on the day (R114). -/
def sampleJumpWork (p : Port) (sample : Nat) (s : State) : State :=
  let k := s.tracker p
  let x := onDay s.std sample
  if 2 ≤ k.glitch ∧ sampleTested k (s.transport p) ∧ !plausible s.std (s.profile p).plausibility x k then jump p x s
  else s

/-- SAMPLE_JUMP (R114). -/
def execSampleJump (p : Port) (sample : Nat) (s : State) : Result := work (sampleJumpWork p sample) s

/-- The known flag cleared, as when a deck is placed in OFFLINE or EMPTY (R115). -/
def forgetPosition (p : Port) (s : State) : State := s.setTracker p { s.tracker p with known := false }

/-! ## TRACK STATUS (R132) -/

/-- A chase record in an answer. -/
def bChase (std : FrameStd) (c : Chase) : List Byte :=
  b1 (chaseKindCode c.kind) ++ bPort c.master ++ bPos std c.masterAnchor ++ bPos std c.chaserAnchor ++ b2 c.rate
    ++ b2 c.lockRun ++ bFlag c.outOfCapture ++ bOpt 5 (bPos std) c.cuePoint ++ bOpt 5 (bPos std) c.lastTarget
    ++ bOpt 4 s4 c.lastError

/-- The ports whose chase records name a port as master. -/
def chasersOf (s : State) (p : Port) : List Port :=
  allPorts.filter (fun q => (s.chase q).any (fun c => c.master = p))

/-- TRACK STATUS (R132). -/
def trackStatusOwner (body : List Byte) (s : State) : State :=
  match portOf (byteAt body 0) with
  | none => refuse 0x1D .badField s
  | some p =>
    let k := s.tracker p
    answer 0x1D .done (bPos s.std k.position ++ b2 k.remainder ++ bFlag k.known ++ b2 k.age ++ b2 k.glitch
      ++ b2 k.settle ++ s2 k.advance ++ b1 (((s.chase p).map (fun c => chaseStateCode c.state)).getD 0)
      ++ bOpt 34 (bChase s.std) (s.chase p) ++ bPortSet (chasersOf s p)) s

/-- TRACK_STATUS (R132). -/
def execTrackStatus (body : List Byte) (s : State) : Result :=
  request 0x1D (lengthIs 1) neverWaits trackStatusOwner body s

end Sys2Proof.Machine
end

