-- ==== Sys2Proof/Machine/Chase.lean ====
section
/-! DEFINITION. The chase servo: targets, correction and lock, manual chase, and its requests (chapter 7). -/

namespace Sys2Proof.Machine

/-! ## Targets and corrections (R117, R119) -/

/-- The target of a record for a master position (R117). -/
def chaseTarget (std : FrameStd) (c : Chase) (master : Nat) : Nat :=
  posAdd std c.chaserAnchor (Int.fdiv (posDiff std master c.masterAnchor * c.rate) 1024)

/-- A signed number kept within plus or minus a limit. -/
def clampInt (limit x : Int) : Int := max (-limit) (min limit x)

/-- The speed for an error: the chase rate and the clamped correction, kept within 0..2304 (R119). -/
def chaseSpeed (f : Profile) (rate : Nat) (e : Int) : Nat :=
  (max 0 (min 2304 ((rate : Int) + clampInt f.varispeed (Int.tdiv (e * f.gain) 64)))).toNat

/-- The correction made for a worked record: a speed that differs from the commanded one is handed (R119). -/
def correct (p : Port) (c : Chase) (e : Int) (s : State) : State :=
  let speed := chaseSpeed (s.profile p) c.rate e
  if (speed : Int) = (s.transport p).speed then s else chaseCorrection p speed s

/-! ## Lock, unlock and capture (R118, R120, R121) -/

/-- What the chase servo reports to the sequencer (R120, R121); a gained lock is disregarded by it in every phase. -/
inductive ChaseReport where
  | gained | lost | outOfCapture
  deriving DecidableEq, Repr

/-- A record is worked in a frame (R118). -/
def chaseWorked (p : Port) (c : Chase) (s : State) : Bool :=
  (c.state = .capturing || c.state = .locked) && (s.transport p).state = .rolling && (s.tracker p).settle = 0
    && (s.tracker p).age < 8 && (s.tracker c.master).age < 8

/-- A held frame: the lock run of a CAPTURING record returns to 0 (R118). -/
def holdChase (c : Chase) : Chase := if c.state = .capturing then { c with lockRun := 0 } else c

/-- The lock test of CAPTURING and the unlock test of LOCKED, with the change they make (R120, R121). -/
def lockTest (f : Profile) (e : Int) (c : Chase) : Chase × Option Bool :=
  match c.state with
  | .capturing =>
    let run := if e.natAbs ≤ f.lockWindow then min 63 (c.lockRun + 1) else 0
    if f.lockCount ≤ run then ({ c with state := .locked, lockRun := run }, some true)
    else ({ c with lockRun := run }, none)
  | .locked => if f.unlockWindow < e.natAbs then ({ c with state := .capturing, lockRun := 0 }, some false) else (c, none)
  | _ => (c, none)

/-- The LOCK notice and the reports of a lock test. -/
def lockOutcome (p : Port) (changed : Option Bool) (s : State) : State :=
  match changed with
  | some gained => raise (.lock p gained) s
  | none => s

/-- Beyond the capture window (R121). -/
def beyondCapture (f : Profile) (e : Int) : Bool := f.captureWindow * 64 < e.natAbs

/-- A LOCK notice with the content lost, when a record leaves LOCKED (R121, R125, R130). -/
def loseLock (p : Port) (c : Chase) (s : State) : State := if c.state = .locked then raise (.lock p false) s else s

/-- The chase seeks: a CUE two seconds ahead of the target (R127). -/
def chaseSeek (p : Port) (c : Chase) (target : Nat) (s : State) : State :=
  let point := posAdd s.std target ((2 * rate s.std * 64 : Nat) : Int)
  chaseCue p point (s.setChase p (some { c with state := .seeking, cuePoint := some point }))

/-- A report made for a SEQUENCER record only. -/
def reportOf (c : Chase) (reports : List ChaseReport) : List ChaseReport :=
  if c.kind = .sequencer then reports else []

/-- The report of a lock test. -/
def lockReport : Option Bool → List ChaseReport
  | some true => [.gained]
  | some false => [.lost]
  | none => []

/-- The work of R118 to R121 on a record whose target for the frame is stored: the state after it, and the reports to
the sequencer. -/
def workChase (p : Port) (c : Chase) (target : Nat) (s : State) : State × List ChaseReport :=
  if !chaseWorked p c s then (s.setChase p (some (holdChase c)), [])
  else
    let f := s.profile p
    let e := posDiff s.std target (s.tracker p).position
    let r := lockTest f e { c with lastError := some e }
    let s1 := lockOutcome p r.2 s
    let reports := lockReport r.2
    if beyondCapture f e ∧ r.1.state = .capturing then
      match c.kind with
      | .manual => (chaseSeek p r.1 target s1, [])
      | .sequencer =>
        let c1 := { r.1 with outOfCapture := true }
        (correct p c1 e (s1.setChase p (some c1)), reports ++ (if c.outOfCapture then [] else [.outOfCapture]))
    else
      let c1 := { r.1 with outOfCapture := r.1.outOfCapture && beyondCapture f e }
      (correct p c1 e (s1.setChase p (some c1)), reportOf c reports)

/-! ## Manual chase (R124 to R130) -/

/-- The condition of a master (R124). -/
inductive MasterCondition where
  | running | stopped | unavailable
  deriving DecidableEq, Repr

/-- A master classed from its line state and transport record (R124). -/
def masterCondition (s : State) (m : Port) : MasterCondition :=
  let t := s.transport m
  match (s.port m).line, t.condition.map Condition.mode with
  | .online, some .moving => if 0 < t.speed then .running else .unavailable
  | .online, some .halted => if t.state = .idle ∨ t.state = .parked then .stopped else .unavailable
  | .online, some .parked => if t.state = .idle ∨ t.state = .parked then .stopped else .unavailable
  | _, _ => .unavailable

/-- A manual record parked with its cue point absent (R125, R130). -/
def parkChase (p : Port) (c : Chase) (s : State) : State :=
  loseLock p c (s.setChase p (some { c with state := .parked, cuePoint := none }))

/-- An UNAVAILABLE master: the chaser is halted unless it stands, and the record parked (R125). -/
def masterGone (p : Port) (c : Chase) (s : State) : State :=
  let st := (s.transport p).state
  let s1 := if st = .idle ∨ st = .parked ∨ st = .standby then s else chaseAct p .halt s
  parkChase p c s1

/-- A STOPPED master: the record parks, and the chaser is cued to a target that has moved (R126). -/
def masterStopped (p : Port) (c : Chase) (target : Nat) (s : State) : State :=
  let near := c.cuePoint.any (fun q =>
    decide ((posDiff s.std target q).natAbs ≤ (s.profile p).cueTolerance * 64))
  let s1 := loseLock p c s
  if near then s1.setChase p (some { c with state := .parked })
  else chaseCue p target (s1.setChase p (some { c with state := .parked, cuePoint := some target }))

/-- A PARKED record under a RUNNING master captures or seeks (R127). -/
def startChase (p : Port) (c : Chase) (target : Nat) (s : State) : State :=
  let e := posDiff s.std target (s.tracker p).position
  let c1 := { c with lastError := some e }
  if beyondCapture (s.profile p) e then chaseSeek p c1 target s
  else
    let s1 := s.setChase p (some { c1 with state := .capturing, lockRun := 0, outOfCapture := false })
    if (s.transport p).state = .rolling then s1 else chaseAct p (.play 1024) s1

/-- A WAITING record under a RUNNING master rolls, seeks again or waits (R129). -/
def waitChase (p : Port) (c : Chase) (target : Nat) (s : State) : State :=
  let w := posDiff s.std (s.tracker p).position target
  if w < 0 ∨ ((3 * rate s.std * 64 : Nat) : Int) < w then chaseSeek p c target s
  else if w ≤ (((s.profile p).rollLead * 64 : Nat) : Int) then
    chaseAct p (.play 1024) (s.setChase p (some { c with state := .capturing, lockRun := 0, outOfCapture := false }))
  else s

/-- A CAPTURING or LOCKED record under a RUNNING master is worked, and parked when its chaser has stopped (R130). -/
def followChase (p : Port) (c : Chase) (target : Nat) (s : State) : State :=
  let st := (s.transport p).state
  if st = .idle ∨ st = .parked then parkChase p (holdChase c) s else (workChase p c target s).1

/-- One manual record's work for a frame (R124 to R130). -/
def workManual (p : Port) (c : Chase) (target : Nat) (s : State) : State :=
  match (s.transport p).state with
  | .offline => parkChase p c s
  | .waking => s
  | _ =>
    match masterCondition s c.master with
    | .unavailable => masterGone p c s
    | .stopped => masterStopped p c target s
    | .running =>
      match c.state with
      | .parked => startChase p c target s
      | .seeking => s
      | .waiting => waitChase p c target s
      | .capturing => followChase p c target s
      | .locked => followChase p c target s

/-- One port's chase work for a frame: the target is stored, then the record is worked (R117 to R130). -/
def chasePort (p : Port) (s : State) : State × List ChaseReport :=
  match s.chase p with
  | none => (s, [])
  | some c =>
    let target := chaseTarget s.std c (s.tracker c.master).position
    let c1 := { c with lastTarget := some target }
    let s1 := s.setChase p (some c1)
    match c.kind with
    | .sequencer => workChase p c1 target s1
    | .manual => (workManual p c1 target s1, [])

/-- The chase servo's work for a reference frame event, port by port; the reports to the sequencer are collected
(log entry 29). -/
def chaseFrame (s : State) : State × List ChaseReport :=
  allPorts.foldl (fun r p => let q := chasePort p r.1; (q.1, r.2 ++ q.2)) (s, [])

/-! ## What the transport controller reports to the chase servo (R125, R128, R131) -/

/-- A chase record removed; no LOCK notice is raised (R131). -/
def removeChase (p : Port) (s : State) : State := s.setChase p none

/-- A success report to CHASE (R126, R128). -/
def chaseCued (p : Port) (s : State) : State :=
  match s.chase p with
  | some c => if c.kind = .manual ∧ c.state = .seeking then s.setChase p (some { c with state := .waiting }) else s
  | none => s

/-- A failure report to CHASE: ATTEMPTS and TIME end the chase (R126, R128, R131). -/
def chaseCueFailed (p : Port) (reason : CueReason) (s : State) : State :=
  match s.chase p, reason with
  | some c, .attempts => if c.kind = .manual ∧ (c.state = .seeking ∨ c.state = .parked) then removeChase p s else s
  | some c, .time => if c.kind = .manual ∧ (c.state = .seeking ∨ c.state = .parked) then removeChase p s else s
  | _, _ => s

/-- A chaser reported in STANDBY by R79 (R125). -/
def chaserStandby (p : Port) (s : State) : State :=
  match s.chase p with
  | some c => if c.kind = .manual then parkChase p c s else s
  | none => s

/-- A manual chase ended because its chaser was freed by RELEASE SET (R131). -/
def chaserFreed (p : Port) (s : State) : State :=
  match s.chase p with
  | some c => if c.kind = .manual then removeChase p s else s
  | none => s

/-! ## CHASE and CHASE STOP (R123, R131) -/

/-- The refusal for a port that CONSOLE does not hold. -/
def notHeldReason (s : State) (p : Port) : Reason := if s.holder p = .sequencer then .held else .notHeld

/-- The port is held by CONSOLE. -/
def consoleHeld (s : State) (p : Port) : Bool := s.holder p = .console

/-- The tests of CHASE (R123). -/
def chaseChecks (body : List Byte) (s : State) : Except Reason (Port × Port) := do
  let p ← need (portOf (byteAt body 0)) .badField
  let m ← need (portOf (byteAt body 1)) .badField
  check (p ≠ m) .badField
  check (consoleHeld s p) (notHeldReason s p)
  check (s.recorder ≠ some p) .role
  check (deckUp s p) .deckDown
  check ((s.chase m).isNone && (chasersOf s p).isEmpty) .chain
  pure (p, m)

/-- A CONSOLE cue in progress on a deck, as a cue record or as a pending motion. -/
def consoleCue (t : Transport) : Bool :=
  t.cue.any (fun c => c.requester = .console) || (match t.motion with
    | some ⟨.console, .cue _ _⟩ => true
    | _ => false)

/-- A new MANUAL record (R123). -/
def manualChase (std : FrameStd) (m : Port) (offset : Int) : Chase :=
  { kind := .manual, master := m, masterAnchor := 0, chaserAnchor := onDay std (offset * 64), rate := 1024,
    state := .parked, lockRun := 0, outOfCapture := false, cuePoint := none, lastTarget := none, lastError := none }

/-- CHASE (R123). -/
def chaseOwner (body : List Byte) (s : State) : State :=
  let asked := signedLong body 2
  let offset := clampInt 86399 asked
  match chaseChecks body s with
  | .ok (p, m) =>
    answer 0x1B (doneOr (offset ≠ asked))
      (bPort p ++ bPort m ++ s4 offset ++ bFlag (consoleCue (s.transport p)))
      (s.setChase p (some (manualChase s.std m offset)))
  | .error r => refuse 0x1B r s

/-- The tests of CHASE STOP (R131). -/
def chaseStopChecks (body : List Byte) (s : State) : Except Reason Port := do
  let p ← need (portOf (byteAt body 0)) .badField
  check (consoleHeld s p) (notHeldReason s p)
  check ((s.chase p).any (fun c => c.kind = .manual)) .state
  pure p

/-- CHASE STOP: HALT is asked, then the record is removed (R131). -/
def chaseStopOwner (body : List Byte) (s : State) : State :=
  match chaseStopChecks body s with
  | .ok p => answer 0x1C .done [] (removeChase p (chaseAct p .halt s))
  | .error r => refuse 0x1C r s

/-- CHASE (R123). -/
def execChase (body : List Byte) (s : State) : Result :=
  request 0x1B (lengthIs 6) neverWaits chaseOwner body s

/-- CHASE_STOP (R131). -/
def execChaseStop (body : List Byte) (s : State) : Result :=
  request 0x1C (lengthIs 1) neverWaits chaseStopOwner body s

end Sys2Proof.Machine
end

