-- ==== Sys2Proof/Machine/Sequencer.lean ====
section
/-! DEFINITION. The edit sequencer: arm checks, cueing and roll, the moments of an edit, confirmation, faults, endings
and outcomes (chapter 8). -/

namespace Sys2Proof.Machine

/-! ## Parts of the sequencer record (R134) -/

/-- The record modes (R135). -/
def recordMode : Mode → Bool
  | .perform => true
  | .run => true
  | _ => false

/-- The decks of a set, the recorder first, then the to-source and the from-source player (R139). -/
def deckPorts (d : DeckSet) : List Port := d.recorder :: (d.toPort.toList ++ d.fromPort.toList)

/-- The players of a set. -/
def players (d : DeckSet) : List Port := d.toPort.toList ++ d.fromPort.toList

/-- An edit in progress: its mode, its event copy and its deck set. -/
structure Edit where
  mode : Mode
  event : Event
  decks : DeckSet
  deriving DecidableEq, Repr

/-- The edit of a sequencer that is not IDLE. -/
def editOf (q : Sequencer) : Option Edit :=
  match q.mode, q.copy, q.decks with
  | some m, some e, some d => some { mode := m, event := e, decks := d }
  | _, _, _ => none

/-- An edit is running: the phase is not IDLE and the closing flag is clear. -/
def live (q : Sequencer) : Bool := q.phase ≠ .idle && !q.closing

/-- The running edit; reports and moments are taken only for it (R153). -/
def liveEdit (s : State) : Option Edit := if live s.seq then editOf s.seq else none

/-- The state with the sequencer record changed. -/
def setSeq (f : Sequencer → Sequencer) (s : State) : State := { s with seq := f s.seq }

/-! ## Arming (R136 to R139) -/

/-- The mounts that fix the deck set, steps 5 and 6 of R136; for REVIEW the recorder alone. -/
def deckSetFor (mode : Mode) (e : Event) (recorder : Port) (s : State) : Except Reason DeckSet :=
  match mode with
  | .review => .ok { recorder := recorder, toPort := none, fromPort := none }
  | _ => do
    let t ← need (mountedPort s e.toSrc.reel) .notMounted
    match fromSource e with
    | none => pure { recorder := recorder, toPort := some t, fromPort := none }
    | some f =>
      let p ← need (mountedPort s f.reel) .notMounted
      check (p ≠ t) .sameDeck
      pure { recorder := recorder, toPort := some t, fromPort := some p }

/-- A deck is fit to run (R137). -/
def fit (s : State) (p : Port) : Bool :=
  let t := s.transport p
  (s.port p).line = .online && t.state ≠ .empty
    && (t.condition.any Condition.threaded || t.state = .standby || t.state = .waking)

/-- The record range lies inside the record window (step 8 of R136, R143). -/
def inWindow (s : State) (e : Event) : Bool :=
  let w := s.live.system
  decide (w.windowStart ≤ e.recIn ∧ e.recOut ≤ w.windowStart + w.windowLength)

/-- The motion rate lies in the to-source profile's range (step 10 of R136). -/
def motionFits (s : State) (d : DeckSet) (e : Event) : Bool :=
  d.toPort.all (fun p => (s.profile p).motionMin ≤ eventRate e && eventRate e ≤ (s.profile p).motionMax)

/-- Steps 3 to 12 of R136 for an event read by the hold lookup; `ours` are the ports of an edit now closing, which
count as free in a run (R164). -/
def armChecks (mode : Mode) (e : Event) (ours : List Port) (s : State) : Except Reason DeckSet := do
  check (!recordMode mode || s.ref.state = .present) .noReference
  let rec1 ← need s.recorder .noRecorder
  let d ← deckSetFor mode e rec1 s
  check ((deckPorts d).all (fit s)) .deckDown
  check (!recordMode mode || inWindow s e) .window
  check (!recordMode mode || (s.transport rec1).condition.any (fun c => !c.inhibit)) .inhibit
  check (motionFits s d e) .motion
  check ((players d).all (fun p => 0 < (s.profile p).varispeed)) .noVarispeed
  check ((deckPorts d).all (fun p => s.holder p = .free || ours.contains p)) .held
  pure d

/-- The preroll frames of an edit: the system preroll, or the record in if that is smaller (R139). -/
def prerollFor (s : State) (e : Event) : Nat := min (secondsToFrames s.std s.live.system.preroll) e.recIn

/-- The preroll was taken from the record in (R139). -/
def prerollShort (s : State) (e : Event) : Bool := e.recIn < secondsToFrames s.std s.live.system.preroll

/-- The cue points of an edit with preroll `r` (R139). -/
def cuePointsFor (std : FrameStd) (d : DeckSet) (e : Event) (r : Nat) : CuePoints :=
  { recorder := onDay std (((e.recIn : Int) - r) * 64)
    toPos := d.toPort.map (fun _ =>
      onDay std (((e.toSrc.start : Int) - (((r * eventRate e) / 1024 : Nat) : Int)) * 64))
    fromPos := match d.fromPort, fromSource e with
      | some _, some f => some (onDay std (((f.start : Int) - r) * 64))
      | _, _ => none }

/-- The hold lookup: the event with a key as the list unit answers it, an unworked member being worked first
(R138, R51). -/
def holdLookup (key : Nat) (s : State) : Option (Event × State) :=
  let s1 := { s with list := workAhead key s.list }
  match findKey s1.list key with
  | some e => some (e, s1)
  | none => none

/-- The cues of an arm, asked in the order recorder, to-source, from-source (R139). -/
def askCues (d : DeckSet) (c : CuePoints) (s : State) : State :=
  let s1 := seqCue d.recorder c.recorder s
  let s2 := match d.toPort, c.toPos with
    | some p, some x => seqCue p x s1
    | _, _ => s1
  match d.fromPort, c.fromPos with
  | some p, some x => seqCue p x s2
  | _, _ => s2

/-- The sequencer record of a newly armed edit (R139). -/
def armedRecord (mode : Mode) (e : Event) (d : DeckSet) (run : Option Run) (s : State) : Sequencer :=
  { Sequencer.idle with
    phase := .cueing, mode := some mode, heldKey := some e.key, copy := some e, decks := some d,
    preroll := prerollFor s e, cuePoints := some (cuePointsFor s.std d e (prerollFor s e)), run := run }

/-- The arm (R139): the claim, the record, the cues. -/
def arm (mode : Mode) (e : Event) (d : DeckSet) (run : Option Run) (s : State) : State :=
  let s1 := claimPorts .sequencer (deckPorts d) s
  askCues d (cuePointsFor s.std d e (prerollFor s e)) { s1 with seq := armedRecord mode e d run s }

/-! ## Endings (R153 to R155) -/

/-- The status write of an ending (R154). -/
def finalWrite (mode : Mode) (o : EditOutcome) (slipped engaged : Bool) (key : Nat) : Option StatusWrite :=
  match mode, o with
  | .review, _ => none
  | .preview, .complete => some { key := key, status := none, previewed := true }
  | .preview, .fault _ => none
  | _, .complete => some { key := key, status := some (if slipped then .slipped else .done), previewed := false }
  | _, .fault c => some { key := key, status := some (if engaged then .cut c else .failed c), previewed := false }

/-- The DISENGAGE of an ending: handed when ENGAGE was handed and no release made (R153). -/
def disengageIfEngaged (recorder : Port) (s : State) : State :=
  if s.seq.engaged ∧ !s.seq.released then
    setSeq (fun q => { q with released := true }) (handCommand recorder .disengage s)
  else s

/-- The SEQUENCER chase records of a deck set removed (R153). -/
def removeSeqChases (d : DeckSet) (s : State) : State :=
  (players d).foldl (fun s p =>
    if (s.chase p).any (fun c => c.kind = .sequencer) then removeChase p s else s) s

/-- The mix port and the GPI unit told of the end; a REVIEW tells them nothing (R149, R153). -/
def endOutputs (mode : Mode) (completed : Bool) (s : State) : State :=
  if mode = .review then s else endGpi completed (stopMix s)

/-- The final step: the ports freed, the record cleared, the EDIT END raised (R153). -/
def finalStep (s : State) : State :=
  let ports := (s.seq.decks.map deckPorts).getD []
  let s1 := { freePorts ports s with seq := .idle }
  match s.seq.outcome with
  | some report => raise (.editEnd report) s1
  | none => s1

/-- What the EDIT END of an ending will hold (R155). -/
def endReport (x : Edit) (o : EditOutcome) (early : Option FaultClass) (w : Option StatusWrite) (q : Sequencer) :
    EditEnd :=
  { key := x.event.key, mode := x.mode, outcome := o, phase := q.phase, early := early, slip := q.slipped,
    written := w.bind StatusWrite.status }

/-- The ending of a running edit (R153): `completed` when it completes in the work for its postroll end frame. -/
def endEdit (x : Edit) (o : EditOutcome) (early : Option FaultClass) (completed : Bool) (s : State) : State :=
  let w := finalWrite x.mode o s.seq.slipped s.seq.engaged x.event.key
  let s1 := disengageIfEngaged x.decks.recorder s
  let s2 := (deckPorts x.decks).foldl (fun s p => seqAct p .halt s) s1
  let s3 := endOutputs x.mode completed (removeSeqChases x.decks s2)
  let s4 := setSeq (fun q => { q with closing := true, outcome := some (endReport x o early w q) }) s3
  match w with
  | some w => setSeq (fun q => { q with handed := some (.final w) }) s4
  | none => finalStep (setSeq (fun q => { q with heldKey := none }) s4)

/-- A fault of a running edit in CUEING, PREROLL or EDIT; in POSTROLL it is disregarded. -/
def faultEdit (cls : FaultClass) (s : State) : State :=
  match liveEdit s with
  | none => s
  | some x => if s.seq.phase = .postroll then s else endEdit x (.fault cls) none false s

/-- A fault that in POSTROLL ends the edit early, complete, with the early-postroll mark (R150, R145). -/
def faultOrCutShort (cls : FaultClass) (s : State) : State :=
  match liveEdit s with
  | none => s
  | some x =>
    if s.seq.phase = .postroll then endEdit x .complete (some cls) false s else endEdit x (.fault cls) none false s

/-- An edit ended by ABORT (R156); in POSTROLL it is complete, and carries the mark (log entry 28). -/
def abortEdit (s : State) : State := faultOrCutShort .abort s

/-! ## Reports (R140, R145, R146, R150 to R152) -/

/-- A port belongs to the running edit. -/
def inEdit (s : State) (p : Port) : Bool := (liveEdit s).any (fun x => (deckPorts x.decks).contains p)

/-- The class of a deck fault (R150). -/
def deckClass (x : Edit) (p : Port) : FaultClass := if p = x.decks.recorder then .recorder else .player

/-- A deck of the set lost (R150). -/
def deckFault (p : Port) (s : State) : State :=
  match liveEdit s with
  | none => s
  | some x => if (deckPorts x.decks).contains p then faultOrCutShort (deckClass x p) s else s

/-- A cue success report (R140). -/
def seqCued (p : Port) (s : State) : State :=
  if inEdit s p ∧ s.seq.phase = .cueing ∧ !s.seq.parked.contains p then
    setSeq (fun q => { q with parked := q.parked ++ [p] }) s
  else s

/-- A cue failure report (R152). -/
def seqCueFailed (p : Port) (reason : CueReason) (s : State) : State :=
  if inEdit s p then
    match reason with
    | .attempts => faultEdit .cue s
    | .time => faultEdit .cue s
    | _ => s
  else s

/-- The set contains every track of the event. -/
def tracksCovered (need got : TrackSet) : Bool := need &&& got = need

/-- A change of the recorder's recording track set (R145). -/
def confirmTracks (x : Edit) (tracks : TrackSet) (s : State) : State :=
  if !(recordMode x.mode && s.seq.engaged) then s
  else if !s.seq.confirmed then
    if tracksCovered x.event.tracks tracks then setSeq (fun q => { q with confirmed := true }) s else s
  else if !s.seq.released && !tracksCovered x.event.tracks tracks then faultEdit .recorder s
  else s

/-- The recorder's record inhibit flag became set (R145). -/
def inhibitFault (x : Edit) (s : State) : State := if recordMode x.mode then faultOrCutShort .recorder s else s

/-- A change of condition reported for a port (R80, R145, R150); of one reply's changes the threaded flag is taken
first, then the record inhibit flag, then the recording track set (log entry 36). -/
def seqCondition (p : Port) (old new : Condition) (s : State) : State :=
  let st := (s.transport p).state
  let s1 := if old.threaded ∧ !new.threaded ∧ st ≠ .standby ∧ st ≠ .waking then deckFault p s else s
  let s2 := match liveEdit s1 with
    | some x => if p = x.decks.recorder ∧ new.inhibit ∧ !old.inhibit then inhibitFault x s1 else s1
    | none => s1
  match liveEdit s2 with
  | some x => if p = x.decks.recorder ∧ old.tracks ≠ new.tracks then confirmTracks x new.tracks s2 else s2
  | none => s2

/-- A report of the chase servo (R146). -/
def seqChaseReport (r : ChaseReport) (s : State) : State :=
  if !live s.seq then s
  else
    match r, s.seq.phase with
    | .lost, .edit => setSeq (fun q => { q with slipped := true }) s
    | .outOfCapture, .preroll => faultEdit .sync s
    | .outOfCapture, .edit => faultEdit .sync s
    | _, _ => s

/-- A reference loss report (R151). -/
def seqReferenceLost (s : State) : State :=
  match liveEdit s with
  | some x => if recordMode x.mode then faultEdit .reference s else s
  | none => s

/-! ## The roll (R140, R141) -/

/-- Every deck of the set is parked, in CUEING (R140). -/
def rollDue (x : Edit) (q : Sequencer) : Bool :=
  q.phase = .cueing && (deckPorts x.decks).all (fun p => q.parked.contains p)

/-- A SEQUENCER chase record on a player (R122). -/
def seqChase (std : FrameStd) (x : Edit) (start rate : Nat) : Chase :=
  { kind := .sequencer, master := x.decks.recorder, masterAnchor := onDay std (x.event.recIn * 64),
    chaserAnchor := onDay std (start * 64), rate := rate, state := .capturing, lockRun := 0, outOfCapture := false,
    cuePoint := none, lastTarget := none, lastError := none }

/-- The chase records of a roll (R122, R141). -/
def setSeqChases (x : Edit) (s : State) : State :=
  let s1 := match x.decks.toPort with
    | some p => s.setChase p (some (seqChase s.std x x.event.toSrc.start (eventRate x.event)))
    | none => s
  match x.decks.fromPort, fromSource x.event with
  | some p, some f => s1.setChase p (some (seqChase s.std x f.start 1024))
  | _, _ => s1

/-- The PLAYs of a roll: the recorder at 1024, the to-source player at its rate, the from-source player at 1024
(R141). -/
def askPlays (x : Edit) (s : State) : State :=
  let s1 := seqAct x.decks.recorder (.play 1024) s
  let s2 := x.decks.toPort.toList.foldl (fun s p => seqAct p (.play (eventRate x.event)) s) s1
  x.decks.fromPort.toList.foldl (fun s p => seqAct p (.play 1024) s) s2

/-- The recorder's position for the frame (R142). -/
def recorderPos (x : Edit) (s : State) : Nat := (s.tracker x.decks.recorder).position

/-- The roll (R141). -/
def roll (x : Edit) (s : State) : State :=
  let s1 := setSeq (fun q => { q with rollFrame := some s.frame }) s
  let s2 := if x.mode = .review then s1 else setSeqChases x s1
  let s3 := askPlays x s2
  let s4 := if x.mode = .review then s3
    else armTriggers x.mode x.event (recorderPos x s) (stageSetup x.event x.decks s3)
  setSeq (fun q => { q with phase := .preroll }) s4

/-! ## The moments (R142 to R148) -/

/-- A point of the edit is reached at this frame (R142). -/
def reached (x : Edit) (s : State) (point : Int) : Bool := pointReached s.std (recorderPos x s) point

/-- The sync check's first two tests (R143). -/
def inSync (x : Edit) (s : State) : Bool :=
  (players x.decks).all (fun p => (s.chase p).any (fun c => c.state = .locked))
    && (s.transport x.decks.recorder).condition.any Condition.servo

/-- The engage: the frame is kept, ENGAGE handed in the record modes, the phase becomes EDIT (R143). -/
def engage (x : Edit) (s : State) : State :=
  let s1 := if recordMode x.mode then handCommand x.decks.recorder (.engage x.event.tracks) s else s
  setSeq (fun q => { q with engageFrame := some s.frame, engaged := recordMode x.mode, phase := .edit }) s1

/-- The engage moment (R142, R143). -/
def engageMoment (x : Edit) (s : State) : State :=
  let lead := (s.profile x.decks.recorder).engageLead
  if live s.seq ∧ x.mode ≠ .review ∧ s.seq.phase = .preroll ∧ reached x s ((x.event.recIn : Int) - lead) then
    if !inSync x s then faultEdit .sync s
    else if recordMode x.mode ∧ !inWindow s x.event then faultEdit .recorder s
    else engage x s
  else s

/-- The record-in moment (R144, R149). -/
def recordInMoment (x : Edit) (s : State) : State :=
  let phase : Phase := if x.mode = .review then .preroll else .edit
  if live s.seq ∧ s.seq.phase = phase ∧ s.seq.recordInFrame = none ∧ reached x s x.event.recIn then
    if x.mode = .review then setSeq (fun q => { q with recordInFrame := some s.frame, phase := .edit }) s
    else
      startTransition x.event (setSeq (fun q => { q with recordInFrame := some s.frame, fieldIndex := some 0 }) s)
  else s

/-- The confirmation deadline (R142, R145). -/
def deadlineMoment (x : Edit) (s : State) : State :=
  if live s.seq ∧ recordMode x.mode ∧ s.seq.phase = .edit ∧ !s.seq.deadlineTaken ∧ reached x s (x.event.recIn + 2)
  then
    let s1 := setSeq (fun q => { q with deadlineTaken := true }) s
    if s.seq.confirmed then s1 else faultEdit .recorder s1
  else s

/-- The release lead used: none in REVIEW (R142). -/
def releaseLead (x : Edit) (s : State) : Nat :=
  if x.mode = .review then 0 else (s.profile x.decks.recorder).releaseLead

/-- The frame from which the release moment is tested: the one after the engage frame, or in REVIEW after the
record-in frame (R142). -/
def afterEngage (x : Edit) (s : State) : Bool :=
  (if x.mode = .review then s.seq.recordInFrame else s.seq.engageFrame).any (fun f => f < s.frame)

/-- The release (R147). -/
def release (x : Edit) (s : State) : State :=
  let s1 := if recordMode x.mode then handCommand x.decks.recorder .disengage s else s
  let postroll := secondsToFrames s.std s.live.system.postroll
  setSeq (fun q => { q with
    released := true, postrollEnd := some (s.frame + max 1 (releaseLead x s + postroll)), phase := .postroll }) s1

/-- The release moment, with the confirmation test of the record modes (R142, R145, R147). -/
def releaseMoment (x : Edit) (s : State) : State :=
  if live s.seq ∧ s.seq.phase = .edit ∧ afterEngage x s ∧ reached x s ((x.event.recOut : Int) - releaseLead x s) then
    if recordMode x.mode ∧ !s.seq.confirmed then faultEdit .recorder s else release x s
  else s

/-- The bound on the engage moment has come (R148). -/
def engageOverdue (s : State) : Bool :=
  s.seq.phase = .preroll && s.seq.rollFrame.any (fun f => f + s.seq.preroll + rate s.std ≤ s.frame)

/-- The bound on the release moment has come (R148). -/
def releaseOverdue (x : Edit) (s : State) : Bool :=
  let length := x.event.recOut - x.event.recIn
  s.seq.phase = .edit && (if x.mode = .review then s.seq.recordInFrame.any (fun f => f + length + rate s.std ≤ s.frame)
    else s.seq.engageFrame.any (fun f =>
      f + (s.profile x.decks.recorder).engageLead + length + rate s.std ≤ s.frame))

/-- The engage moment not reached in time (R148). -/
def engageTimeout (s : State) : State := if live s.seq ∧ engageOverdue s then faultEdit .recorder s else s

/-- The release moment not reached in time (R148). -/
def releaseTimeout (x : Edit) (s : State) : State :=
  if live s.seq ∧ releaseOverdue x s then faultEdit .recorder s else s

/-- The postroll end frame has come (R147). -/
def postrollOver (s : State) : Bool := s.seq.phase = .postroll && s.seq.postrollEnd.any (fun f => f ≤ s.frame)

/-- The completion of an edit (R147). -/
def postrollEndWork (x : Edit) (s : State) : State :=
  if live s.seq ∧ postrollOver s then endEdit x .complete none true s else s

/-- The recorder's frame given to the GPI unit (R181). -/
def gpiMoment (x : Edit) (s : State) : State :=
  if live s.seq ∧ x.mode ≠ .review then testTriggers (fun p => reached x s p) s else s

/-- The moments of one frame, in the order of the table of R142, then the bounds, the end and the triggers (log
entry 10). -/
def moments (x : Edit) (s : State) : State :=
  gpiMoment x (postrollEndWork x (releaseTimeout x (engageTimeout
    (releaseMoment x (deadlineMoment x (recordInMoment x (engageMoment x s)))))))

/-- The sequencer's work for a reference frame event, after the chase servo's reports for it (R140, R142). -/
def seqFrame (s : State) : State :=
  match liveEdit s with
  | none => s
  | some x =>
    let s1 := { s with recorderFrame := recorderPos x s / 64 }
    if s1.seq.phase = .cueing then (if rollDue x s1.seq then roll x s1 else s1) else moments x s1

/-! ## The timed steps as commands (log entry 9) -/

/-- SEQUENCER_ROLL: every deck of the set is parked (R141). -/
def sequencerRollWork (s : State) : State :=
  match liveEdit s with
  | some x => if rollDue x s.seq then roll x { s with recorderFrame := recorderPos x s / 64 } else s
  | none => s

/-- SEQUENCER_ROLL (R141). -/
def execSequencerRoll (s : State) : Result := work sequencerRollWork s

/-- ENGAGE_TIMEOUT (R148). -/
def execEngageTimeout (s : State) : Result := work engageTimeout s

/-- RELEASE_TIMEOUT's work (R148). -/
def releaseTimeoutWork (s : State) : State :=
  match liveEdit s with
  | some x => releaseTimeout x s
  | none => s

/-- RELEASE_TIMEOUT (R148). -/
def execReleaseTimeout (s : State) : Result := work releaseTimeoutWork s

/-- POSTROLL_END's work (R147). -/
def postrollEndCommand (s : State) : State :=
  match liveEdit s with
  | some x => postrollEndWork x s
  | none => s

/-- POSTROLL_END (R147). -/
def execPostrollEnd (s : State) : Result := work postrollEndCommand s

/-! ## PERFORM, PREVIEW, REVIEW, ABORT, SEQUENCER STATUS (R135, R156, R157) -/

/-- A deck set in an answer. -/
def bDecks (d : DeckSet) : List Byte := bPort d.recorder ++ bOpt 1 bPort d.toPort ++ bOpt 1 bPort d.fromPort

/-- The request code of an edit request. -/
def editCode : Mode → Nat
  | .perform => 0x1E
  | .preview => 0x1F
  | .review => 0x20
  | .run => 0x23

/-- Arming from step 2 on, for the single edit modes (R136 to R139). -/
def armStep (mode : Mode) (body : List Byte) (s : State) : State :=
  match holdLookup (half body 0) s with
  | none => refuse (editCode mode) .notFound s
  | some (e, s1) =>
    match armChecks mode e [] s1 with
    | .error r => refuse (editCode mode) r s1
    | .ok d =>
      answer (editCode mode) (startedOr (prerollShort s1 e))
        (b2 e.key ++ b1 (seqModeCode mode) ++ bDecks d ++ b2 (prerollFor s1 e)) (arm mode e d none s1)

/-- An edit request: step 1, then the rest (R136). -/
def editOwner (mode : Mode) (body : List Byte) (s : State) : State :=
  if s.seq.phase ≠ .idle then refuse (editCode mode) .state s else armStep mode body s

/-- An edit request waits for the list unit when it has come to step 2 (R138, R49). -/
def editWaits (body : List Byte) (s : State) : Bool := waitsForList body s && s.seq.phase = .idle

/-- PERFORM (R135). -/
def execPerform (body : List Byte) (s : State) : Result :=
  request 0x1E (lengthIs 2) editWaits (editOwner .perform) body s

/-- PREVIEW (R135). -/
def execPreview (body : List Byte) (s : State) : Result :=
  request 0x1F (lengthIs 2) editWaits (editOwner .preview) body s

/-- REVIEW (R135, R149). -/
def execReview (body : List Byte) (s : State) : Result :=
  request 0x20 (lengthIs 2) editWaits (editOwner .review) body s

/-- ABORT (R156). -/
def abortOwner (_ : List Byte) (s : State) : State :=
  if s.seq.phase = .idle then refuse 0x21 .state s
  else if s.seq.closing then answer 0x21 .done [] s
  else answer 0x21 .done [] (abortEdit s)

/-- ABORT (R156). -/
def execAbort (body : List Byte) (s : State) : Result := request 0x21 (lengthIs 0) neverWaits abortOwner body s

/-- Cue points in an answer. -/
def bCuePoints (std : FrameStd) (c : CuePoints) : List Byte :=
  bPos std c.recorder ++ bOpt 5 (bPos std) c.toPos ++ bOpt 5 (bPos std) c.fromPos

/-- SEQUENCER STATUS (R157). -/
def sequencerStatusOwner (_ : List Byte) (s : State) : State :=
  let q := s.seq
  answer 0x22 .done (b1 (phaseCode q.phase) ++ bOpt 1 (fun m => b1 (seqModeCode m)) q.mode ++ bFlag q.closing
    ++ bOpt 2 b2 q.heldKey ++ bOpt 5 bDecks q.decks ++ b2 q.preroll ++ bOpt 17 (bCuePoints s.std) q.cuePoints
    ++ bOpt 1 bPortSet (if q.phase = .idle then none else some q.parked)
    ++ bOpt 4 b4 q.rollFrame ++ bOpt 4 b4 q.engageFrame ++ bOpt 4 b4 q.postrollEnd
    ++ bFlag q.engaged ++ bFlag q.released ++ bFlag q.confirmed ++ bFlag q.slipped ++ bOpt 2 b2 q.fieldIndex
    ++ bFrame s.std s.recorderFrame ++ bFlag q.run.isSome) s

/-- SEQUENCER_STATUS (R157). -/
def execSequencerStatus (body : List Byte) (s : State) : Result :=
  request 0x22 (lengthIs 0) neverWaits sequencerStatusOwner body s

end Sys2Proof.Machine
end

