-- ==== Sys2Proof/Machine/Runs.lean ====
section
/-! DEFINITION. List runs: eligibility, the next-event lookup, candidates and skips, fault responses, the passage from
one edit to the next, STATUS_WRITE, RUN and RUN STATUS (chapter 9). -/

namespace Sys2Proof.Machine

/-! ## Choosing the next event (R161, R162) -/

/-- An event is eligible for a run (R161). -/
def eligible (run : Run) (e : Event) : Bool :=
  run.start ≤ e.recIn && e.recIn < run.stop && (run.redo || (e.status ≠ .done && e.status ≠ .slipped))

/-- An event lies after the last pair in the order of R23 (R162). -/
def afterLast (run : Run) (e : Event) : Bool :=
  run.lastPair.all (fun r => r.1 < e.recIn || (r.1 = e.recIn && r.2 < e.key))

/-- The next-event lookup, in the view of R50 (R162). -/
def nextEvent (run : Run) (l : ListUnit) : Option Event :=
  (viewEvents l).find? (fun e => eligible run e && afterLast run e)

/-! ## Counts and responses (R165 to R167) -/

/-- A count that stops at 65,535 (R159). -/
def countUp (n : Nat) : Nat := min 65535 (n + 1)

/-- The counts after a status has been written (R167). -/
def countWritten (written : Option EventStatus) (run : Run) : Run :=
  match written with
  | some .done => { run with done := countUp run.done }
  | some .slipped => { run with done := countUp run.done }
  | some (.cut _) => { run with failed := countUp run.failed }
  | some (.failed _) => { run with failed := countUp run.failed }
  | some (.skipped _) => { run with skipped := countUp run.skipped }
  | _ => run

/-- An event finished or skipped: counted, and made the last pair (R163, R164). -/
def finishEvent (written : Option EventStatus) (recIn key : Nat) (run : Run) : Run :=
  { countWritten written run with lastPair := some (recIn, key) }

/-- The response to a class: the reason with which the run ends, or none for the next event (R165). -/
def classResponse (mode : FaultMode) (c : FaultClass) : Option RunReason :=
  match c with
  | .abort => some (.fault c)
  | .reference => some (.fault c)
  | .recorder => some (.fault c)
  | .claim => some (.fault c)
  | _ => if mode = .stop then some (.fault c) else none

/-- The response to an ended edit (R165, R166). -/
def editResponse (mode : FaultMode) (r : EditEnd) : Option RunReason :=
  match r.outcome with
  | .fault c => classResponse mode c
  | .complete =>
    match r.early.bind (classResponse mode) with
    | some reason => some reason
    | none => if r.slip ∧ mode = .stop then some .slip else none

/-- The class written for a candidate that fails a step, by the refusal it would give (R164). -/
def skipClass : Reason → FaultClass
  | .noReference => .reference
  | .inhibit => .recorder
  | .held => .claim
  | _ => .check

/-- The SKIPPED write of a candidate (R164). -/
def skipWrite (key : Nat) (c : FaultClass) : StatusWrite := { key := key, status := some (.skipped c), previewed := false }

/-! ## The passage between edits (R163) -/

/-- What the RUN END of a run holds (R168). -/
def runReport (reason : RunReason) (key : Option Nat) (run : Run) : RunEnd :=
  { reason := reason, key := key, done := run.done, failed := run.failed, skipped := run.skipped,
    start := run.start, stop := run.stop, faultMode := run.faultMode, redo := run.redo }

/-- The run ends: the final step with the EDIT END, then the RUN END (R163, R168). -/
def endRun (reason : RunReason) (key : Option Nat) (run : Run) (s : State) : State :=
  raise (.runEnd (runReport reason key run)) (finalStep s)

/-- The next-event lookup and its candidate: armed together with the final step of the ended edit, or skipped by a
write handed to the list unit (R163, R164). -/
def nextCandidate (run : Run) (s : State) : State :=
  match (nextEvent run s.list).bind (fun e => holdLookup e.key s) with
  | none => endRun .complete none run s
  | some (e, s1) =>
    match armChecks .run e ((s.seq.decks.map deckPorts).getD []) s1 with
    | .ok d => arm .run e d (some run) (finalStep s1)
    | .error r =>
      setSeq (fun q => { q with
        heldKey := some e.key, copy := some e, run := some run,
        handed := some (.skip e.key e.recIn (skipClass r)) }) s1

/-- After an event was finished or skipped, by the response taken (R163, R164). -/
def passOn (response : Option RunReason) (key : Nat) (run : Run) (s : State) : State :=
  match response with
  | some reason => endRun reason (some key) run s
  | none => nextCandidate run s

/-- The list unit takes a write, and the sequencer clears the held key (R27, R153). -/
def writeTaken (w : StatusWrite) (s : State) : State :=
  setSeq (fun q => { q with heldKey := none, handed := none }) { s with list := takeWrite s.seq.heldKey w s.list }

/-- The write handed to the list unit is taken, and the sequencer goes on; `ending` when a console RESET ends every
run (R153, R163, R164, R169). -/
def takeHanded (ending : Bool) (s : State) : State :=
  match s.seq.handed with
  | none => s
  | some (.final w) =>
    let s1 := writeTaken w s
    match s.seq.run, s.seq.outcome, s.seq.copy with
    | some run, some o, some e =>
      passOn (if ending then some (.fault .abort) else editResponse run.faultMode o) e.key
        (finishEvent o.written e.recIn e.key run) s1
    | _, _, _ => finalStep s1
  | some (.skip key recIn c) =>
    let s1 := writeTaken (skipWrite key c) s
    match s.seq.run with
    | some run =>
      passOn (if ending then some (.fault .abort) else classResponse run.faultMode c) key
        (finishEvent (some (.skipped c)) recIn key run) s1
    | none => finalStep s1

/-- STATUS_WRITE: with no ripple in flight the list unit takes the write that stands handed; during a ripple it waits
for the end of the chunk (R27, R49; log entry 11). -/
def statusWriteWork (s : State) : State := if s.list.ripple.isSome then s else takeHanded false s

/-- STATUS_WRITE (R27). -/
def execStatusWrite (s : State) : Result := work statusWriteWork s

/-! ## RUN (R160) -/

/-- Steps 1 and 2 of RUN: the run record asked for, and whether a label was moved (R160). -/
def runFields (body : List Byte) (s : State) : Except Reason (Run × Bool) := do
  let (a, movedA) ← need (readLabel s.std false (labelAt body 0)) .badTime
  let (b, movedB) ← need (readLabel s.std false (labelAt body 4)) .badTime
  let mode ← need (faultModeOf (byteAt body 8)) .badField
  check (decide (byteAt body 9 ≤ 1 ∧ a < b)) .badField
  pure ({ start := a, stop := b, faultMode := mode, redo := byteAt body 9 = 1, lastPair := none, done := 0,
          failed := 0, skipped := 0 }, movedA || movedB)

/-- Steps 1 to 5 of RUN (R160). -/
def runChecks (body : List Byte) (s : State) : Except Reason (Run × Bool) := do
  let r ← runFields body s
  check (s.seq.phase = .idle) .state
  check (s.ref.state = .present) .noReference
  check s.recorder.isSome .noRecorder
  pure r

/-- The content of a RUN END, the range as two labels (R168; log entry 14). -/
def bRunEnd (std : FrameStd) (r : RunEnd) : List Byte :=
  b1 (runReasonCode r.reason) ++ bOpt 2 b2 r.key ++ b2 r.done ++ b2 r.failed ++ b2 r.skipped
    ++ bFrame std r.start ++ bFrame std r.stop ++ b1 (faultModeCode r.faultMode) ++ bFlag r.redo

/-- A run that ended before any event was armed (R160, R168). -/
def runEndedAtOnce (reason : RunReason) (key : Option Nat) (moved : Bool) (run : Run) (s : State) : State :=
  let r := runReport reason key run
  answer 0x23 (doneOr moved) (bRunEnd s.std r) (raise (.runEnd r) s)

/-- Step 6 and the candidate work of RUN: each candidate is armed or skipped, until one is armed or the run ends
(R160, R164). Every skip moves the last pair on, so `fuel` one above the number of events is never used up. `used` are
the labels of the range used in place of moved ones, with which the answer of an armed run ends (R4; log entry 18). -/
def runCandidates (moved : Bool) (used : List Byte) : Nat → Run → State → State
  | 0, run, s => runEndedAtOnce .complete none moved run s
  | fuel + 1, run, s =>
    match (nextEvent run s.list).bind (fun e => holdLookup e.key s) with
    | none => if run.lastPair = none then refuse 0x23 .notFound s else runEndedAtOnce .complete none moved run s
    | some (e, s1) =>
      match armChecks .run e [] s1 with
      | .ok d =>
        answer 0x23 (startedOr (moved || prerollShort s1 e))
          (b2 e.key ++ bDecks d ++ b2 (prerollFor s1 e) ++ b2 run.skipped ++ used) (arm .run e d (some run) s1)
      | .error r =>
        let c := skipClass r
        let s2 := { s1 with list := takeWrite (some e.key) (skipWrite e.key c) s1.list }
        let run1 := finishEvent (some (.skipped c)) e.recIn e.key run
        match classResponse run.faultMode c with
        | some reason => runEndedAtOnce reason (some e.key) moved run1 s2
        | none => runCandidates moved used fuel run1 s2

/-- RUN from step 6 on, steps 3 to 5 passed when it was taken (log entry 34); the phase cannot have left IDLE
since. -/
def runStep (body : List Byte) (s : State) : State :=
  match runFields body s with
  | .ok (run, moved) =>
    if s.seq.phase ≠ .idle then refuse 0x23 .state s
    else
      runCandidates moved (bUsedLabels s.std [some (labelAt body 0), some (labelAt body 4)]) (s.list.events.length + 1) run s
  | .error r => refuse 0x23 r s

/-- RUN (R160). -/
def runOwner (body : List Byte) (s : State) : State :=
  match runChecks body s with
  | .ok _ => runStep body s
  | .error r => refuse 0x23 r s

/-- RUN waits for the list unit when it has come to step 6 (R160, R49). -/
def runWaits (body : List Byte) (s : State) : Bool :=
  waitsForList body s && (match runChecks body s with
    | .ok _ => true
    | .error _ => false)

/-- RUN (R160). -/
def execRun (body : List Byte) (s : State) : Result := request 0x23 (lengthIs 10) runWaits runOwner body s

/-! ## RUN STATUS (R170) -/

/-- The run record in an answer, with the held key and the closing flag. -/
def bRun (std : FrameStd) (q : Sequencer) (run : Run) : List Byte :=
  bFrame std run.start ++ bFrame std run.stop ++ b1 (faultModeCode run.faultMode) ++ bFlag run.redo
    ++ bOpt 6 (fun (r : Nat × Nat) => bFrame std r.1 ++ b2 r.2) run.lastPair
    ++ b2 run.done ++ b2 run.failed ++ b2 run.skipped ++ bOpt 2 b2 q.heldKey ++ bFlag q.closing

/-- RUN STATUS (R170). -/
def runStatusOwner (_ : List Byte) (s : State) : State :=
  answer 0x24 .done (bOpt 27 (bRun s.std s.seq) s.seq.run) s

/-- RUN_STATUS (R170). -/
def execRunStatus (body : List Byte) (s : State) : Result :=
  request 0x24 (lengthIs 0) neverWaits runStatusOwner body s

end Sys2Proof.Machine
end

