-- ==== Sys2Proof/Machine/Transport.lean ====
section
/-! DEFINITION. The transport controller: what it does with the deck's reports, cues, standby and wake, its frame
work, and the transport and claim requests (chapter 5). -/

namespace Sys2Proof.Machine

/-! ## How a cue ends (R86) -/

/-- The CUE END of a cue, its last stopped frame written as a label (R86; log entry 37). -/
def raiseCueEnd (p : Port) (outcome : CueOutcome) (owner : Requester) (attempts : Nat) (lastStop : Option Nat)
    (s : State) : State :=
  raise (.cueEnd p { outcome := outcome, requester := owner, attempts := attempts,
                     lastStop := lastStop }) s

/-- A cue failure to be reported to its requester (R86). -/
structure CueFailure where
  port : Port
  reason : CueReason
  requester : Requester
  deriving DecidableEq, Repr

/-- The report of a cue failure to SEQUENCER or CHASE (R86). -/
def reportCueFailed (f : CueFailure) (s : State) : State :=
  match f.requester with
  | .console => s
  | .sequencer => seqCueFailed f.port f.reason s
  | .chase => chaseCueFailed f.port f.reason s

/-- The CUE END of a cue and its report to SEQUENCER or CHASE, for a failure (R86). -/
def tellCueFailed (p : Port) (reason : CueReason) (owner : Requester) (attempts : Nat) (lastStop : Option Nat)
    (s : State) : State :=
  reportCueFailed ⟨p, reason, owner⟩ (raiseCueEnd p (.failed reason) owner attempts lastStop s)

/-- The cue record, or a CUE pending motion, removed with a failure; any other pending motion is removed (R76, R78,
R79, R86). A cue still a pending motion has made no attempt (log entry 17). -/
def failMotions (p : Port) (reason : CueReason) (s : State) : State :=
  let t := s.transport p
  let s1 := s.setTransport p { t with cue := none, motion := none }
  let s2 := match t.cue with
    | some c => tellCueFailed p reason c.requester c.attempts c.lastStop s1
    | none => s1
  match t.motion with
  | some ⟨owner, .cue _ _⟩ => tellCueFailed p reason owner 0 none s2
  | _ => s2

/-- A cue succeeds: PARKED, CUE END, and the report to its requester (R86). -/
def cueSucceeds (p : Port) (c : Cue) (s : State) : State :=
  let s1 := enterState p .parked s
  let s2 := s1.setTransport p { s1.transport p with cue := none }
  let s3 := raiseCueEnd p .parked c.requester c.attempts c.lastStop s2
  match c.requester with
  | .console => s3
  | .sequencer => seqCued p s3
  | .chase => chaseCued p s3

/-- A cue of a CUEING deck fails with ATTEMPTS or TIME: IDLE with HALT handed, and the CUE END (R86). -/
def cueGivenUp (p : Port) (reason : CueReason) (c : Cue) (s : State) : State :=
  let s1 := enterState p .idle (handTransport p .halt s)
  raiseCueEnd p (.failed reason) c.requester c.attempts c.lastStop
    (s1.setTransport p { s1.transport p with cue := none })

/-- The cue time limit of a port in frames (R11, R86). -/
def cueLimit (s : State) (p : Port) : Nat := secondsToFrames s.std (s.profile p).cueTime

/-! ## Following the line and the deck's modes (R76 to R80) -/

/-- The speed and the timer of a deck the ES-6 no longer moves. -/
def stillDeck (p : Port) (s : State) : State :=
  s.setTransport p { s.transport p with speed := 0, standbyTimer := 0 }

/-- The port has entered OFFLINE or LOCAL (R76, R115, R131). -/
def lineDown (p : Port) (st : TransportState) (s : State) : State :=
  let s1 := enterState p st s
  let s2 := stillDeck p (s1.setTransport p { s1.transport p with wakeCount := 0, wakeTaken := false })
  let s3 := failMotions p .line s2
  let s4 := if st = .offline then forgetPosition p s3 else removeChase p s3
  if s4.holder p = .sequencer then deckFault p s4 else s4

/-- What entering EMPTY does to the tracker and the chase servo (R115, R131). -/
def tapeLost (p : Port) (s : State) : State := removeChase p (forgetPosition p s)

/-- A motion or cue command (the last sentence of R91). -/
def motionCmd : DeckCmd → Bool
  | .play _ => true
  | .shuttle _ => true
  | .wind _ => true
  | .seek _ => true
  | _ => false

/-- A deck found in STANDBY is sent no motion or cue that was still waiting for its line (R91 against R63; log entry
38). -/
def dropMotionCmds (p : Port) (s : State) : State :=
  s.setPort p { s.port p with commands := (s.port p).commands.filter (fun c => !motionCmd c) }

/-- The transport state taken from a mode, with HALT handed to a moving deck (the table of R77). -/
def stateFromMode (p : Port) (mode : DeckMode) (s : State) : State :=
  match mode with
  | .noTape => tapeLost p (stillDeck p (enterState p .empty s))
  | .standby => dropMotionCmds p (stillDeck p (enterState p .standby s))
  | .halted => stillDeck p (enterState p .idle s)
  | .parked => stillDeck p (enterState p .idle s)
  | _ => stillDeck p (enterState p .idle (handTransport p .halt s))

/-- Tape out (R78). -/
def tapeGone (p : Port) (c : Condition) (s : State) : State :=
  let s1 := stillDeck p (enterState p .empty s)
  let s2 := failMotions p .tape (s1.setTransport p { s1.transport p with wakeCount := 0 })
  let s3 := tapeLost p (raiseDeck p (some c) s2)
  if s3.holder p = .sequencer then deckFault p s3 else s3

/-- A tape loaded into an EMPTY deck (R78). -/
def tapeLoaded (p : Port) (c : Condition) (s : State) : State := raiseDeck p (some c) (stateFromMode p c.mode s)

/-- A deck gone to standby unasked (R79, R91, R125; log entry 38). -/
def unaskedStandby (p : Port) (c : Condition) (s : State) : State :=
  let s1 := dropMotionCmds p (stillDeck p (enterState p .standby s))
  let s2 := chaserStandby p (raiseDeck p (some c) (failMotions p .standby s1))
  if s2.holder p = .sequencer then deckFault p s2 else s2

/-! ## Cueing on replies (R85) -/

/-- The verify of a stopped deck (R85). -/
def verifyCue (p : Port) (position : Nat) (c : Cue) (s : State) : State :=
  let f := s.profile p
  let off := Int.tdiv (posDiff s.std position c.target) 64
  let c1 := { c with lastStop := some (position / 64) }
  if off.natAbs ≤ f.cueTolerance then cueSucceeds p c1 s
  else if c.attempts < f.cueAttempts then
    let s1 := handTransport p (.seek c.target) s
    s1.setTransport p { s1.transport p with cue := some { c1 with attempts := c.attempts + 1, acked := false } }
  else reportCueFailed ⟨p, .attempts, c.requester⟩ (cueGivenUp p .attempts c1 s)

/-- A good reply of a CUEING deck (R85). -/
def cueReply (p : Port) (kind : CmdKind) (c : Condition) (position : Nat) (s : State) : State :=
  match (s.transport p).cue with
  | none => s
  | some q =>
    if !q.acked then
      if kind = .seek then s.setTransport p { s.transport p with cue := some { q with acked := true } } else s
    else if c.mode = .parked ∨ c.mode = .halted then verifyCue p position q s
    else s

/-- What a good reply's mode does to the transport record (R78, R79, R85, R91). -/
def modeReply (p : Port) (kind : CmdKind) (c : Condition) (position : Nat) (s : State) : State :=
  match (s.transport p).state, c.mode with
  | .offline, _ => s
  | .panel, _ => s
  | .empty, .noTape => s
  | .empty, _ => tapeLoaded p c s
  | _, .noTape => tapeGone p c s
  | .standby, _ => s
  | .waking, _ =>
    if kind = .wake then s.setTransport p { s.transport p with wakeTaken := true } else s
  | _, .standby => unaskedStandby p c s
  | .cueing, _ => cueReply p kind c position s
  | _, _ => s

/-- The changes of the reported condition: a DECK notice on an ONLINE port, and the report to the sequencer (R80). -/
def conditionChange (p : Port) (old : Option Condition) (new : Condition) (s : State) : State :=
  match old with
  | none => s
  | some old =>
    let flags := old.threaded ≠ new.threaded ∨ old.inhibit ≠ new.inhibit
    let s1 := if (s.port p).line = .online ∧ flags then raiseDeck p (some new) s else s
    if s1.holder p = .sequencer then seqCondition p old new s1 else s1

/-- The transport controller takes the mode and flags of a good reply (R68, R78 to R80, R85, R91): the mode first, with
what it ends and reports, then the changed flags and track set (log entry 36). -/
def takeCondition (p : Port) (kind : CmdKind) (c : Condition) (position : Nat) (s : State) : State :=
  let old := (s.transport p).condition
  let s1 := s.setTransport p { s.transport p with condition := some c }
  conditionChange p old c (modeReply p kind c position s1)

/-! ## Standby (R88, R89) -/

/-- The standby delay of a port in frames (R11). -/
def standbyDelay (s : State) (p : Port) : Nat := minutesToFrames s.std (s.profile p).standbyDelay

/-- The conditions under which the standby timer counts (R88). -/
def standbyCounts (s : State) (p : Port) : Bool :=
  let st := (s.transport p).state
  (st = .idle || st = .parked) && s.holder p = .free && (s.profile p).standbyDelay ≠ 0

/-- The deck sent to standby (R89). -/
def sendToStandby (p : Port) (s : State) : State :=
  let s1 := stillDeck p (enterState p .standby (handTransport p .release s))
  raiseDeck p (s1.transport p).condition s1

/-- The timer has reached the delay (R89). -/
def standbyDue (s : State) (p : Port) : Bool := standbyCounts s p && standbyDelay s p ≤ (s.transport p).standbyTimer

/-- The standby timer's work for a frame (R88, R89). -/
def standbyFrame (p : Port) (s : State) : State :=
  if standbyCounts s p then
    let s1 := s.setTransport p { s.transport p with standbyTimer := (s.transport p).standbyTimer + 1 }
    if standbyDue s1 p then sendToStandby p s1 else s1
  else s

/-! ## Cue time and wake (R86, R91) -/

/-- A cue whose elapsed frames have reached the limit fails with TIME, from CUEING or as a pending motion (R86): the
state after it, and the failures still to be reported. -/
def cueTimesOut (p : Port) (s : State) : State × List CueFailure :=
  match (s.transport p).state, (s.transport p).cue, (s.transport p).motion with
  | .cueing, some c, _ =>
    if cueLimit s p ≤ c.elapsed then (cueGivenUp p .time c s, [⟨p, .time, c.requester⟩]) else (s, [])
  | .waking, _, some ⟨owner, .cue _ n⟩ =>
    if cueLimit s p ≤ n then
      (raiseCueEnd p (.failed .time) owner 0 none (s.setTransport p { s.transport p with motion := none }),
        [⟨p, .time, owner⟩])
    else (s, [])
  | _, _, _ => (s, [])

/-- Failures reported to their requesters, in order (R86). -/
def reportCues (r : State × List CueFailure) : State := r.2.foldl (fun s f => reportCueFailed f s) r.1

/-- The elapsed frames of a cue record or CUE pending motion increased (R86). -/
def countElapsed (p : Port) (s : State) : State :=
  let t := s.transport p
  match t.state, t.cue, t.motion with
  | .cueing, some c, _ => s.setTransport p { t with cue := some { c with elapsed := c.elapsed + 1 } }
  | .waking, _, some ⟨owner, .cue x n⟩ => s.setTransport p { t with motion := some ⟨owner, .cue x (n + 1)⟩ }
  | _, _, _ => s

/-- A wake is over: the flag is set and the count is 0 (R91). -/
def wakeOver (s : State) (p : Port) : Bool :=
  let t := s.transport p
  t.state = .waking && t.wakeTaken && t.wakeCount = 0

/-- The end of a wake: the pending motion is carried out as from IDLE (R91). -/
def endWake (p : Port) (s : State) : State :=
  let m := (s.transport p).motion
  let s1 := enterState p .idle s
  let s2 := s1.setTransport p { s1.transport p with motion := none }
  match m with
  | none => s2
  | some ⟨owner, .play v⟩ => act owner p (.play v) s2
  | some ⟨owner, .shuttle v⟩ => act owner p (.shuttle v) s2
  | some ⟨owner, .wind d⟩ => act owner p (.wind d) s2
  | some ⟨owner, .cue x n⟩ => startCue owner p x n s2

/-- The wake count's work for a frame (R91). -/
def wakeFrame (p : Port) (s : State) : State :=
  let t := s.transport p
  if t.state = .waking ∧ t.wakeTaken then
    let s1 := s.setTransport p { t with wakeCount := t.wakeCount - 1 }
    if wakeOver s1 p then endWake p s1 else s1
  else s

/-- One port's transport work for a reference frame event, with the cue failures it has to report. In WAKING the cue time
of a CUE pending motion is tested before the end of the wake (R86, R91; log entry 40). The standby timer counts by the
state before this work, so a deck that becomes IDLE in it counts from the next frame, which is the model's choice (R88;
log entry 42). -/
def transportPort (p : Port) (s : State) : State × List CueFailure :=
  match (s.transport p).state with
  | .idle => (standbyFrame p s, [])
  | .parked => (standbyFrame p s, [])
  | .cueing => cueTimesOut p (countElapsed p s)
  | .waking => let r := cueTimesOut p (countElapsed p s); (wakeFrame p r.1, r.2)
  | _ => (s, [])

/-- The transport controller's work for a reference frame event, port by port; the cue failures of the frame are
reported when every port has been worked, so that a port the sequencer then frees begins its standby count at the next
frame (R86, R88; log entry 39). -/
def transportFrame (s : State) : State :=
  reportCues (allPorts.foldl (fun r p => let q := transportPort p r.1; (q.1, r.2 ++ q.2)) (s, []))

/-- CUE_TIMEOUT's work (R86). -/
def cueTimeoutWork (p : Port) (s : State) : State := reportCues (cueTimesOut p s)

/-- CUE_TIMEOUT (R86; log entry 9). -/
def execCueTimeout (p : Port) (s : State) : Result := work (cueTimeoutWork p) s

/-- WAKE_END's work (R91). -/
def wakeEndWork (p : Port) (s : State) : State := if wakeOver s p then endWake p s else s

/-- WAKE_END (R91; log entry 9). -/
def execWakeEnd (p : Port) (s : State) : Result := work (wakeEndWork p) s

/-- STANDBY_TIMEOUT's work (R89). -/
def standbyTimeoutWork (p : Port) (s : State) : State := if standbyDue s p then sendToStandby p s else s

/-- STANDBY_TIMEOUT (R89; log entry 9). -/
def execStandbyTimeout (p : Port) (s : State) : Result := work (standbyTimeoutWork p) s

/-! ## TRANSPORT and CUE (R81, R83) -/

/-- The action of a TRANSPORT body (step 1 of R81). -/
def actionOf (body : List Byte) : Option Action :=
  match byteAt body 1 with
  | 0 => some .halt
  | 1 => if half body 2 ≤ 2304 then some (.play (half body 2)) else none
  | 2 => if -32767 ≤ signedHalf body 2 then some (.shuttle (signedHalf body 2)) else none
  | 3 => (dirOf (byteAt body 2)).map Action.wind
  | _ => none

/-- The length of a TRANSPORT body by its action; a body with an unknown action has no length of its own and goes to
its owner (log entry 15). -/
def transportFits (body : List Byte) : Bool :=
  2 ≤ body.length && (match byteAt body 1 with
    | 0 => body.length = 2
    | 1 => body.length = 4
    | 2 => body.length = 4
    | 3 => body.length = 3
    | _ => true)

/-- The kind of the command a motion stands for. An answer sends it for the kind of a pending motion, a CUE as SEEK; R197
gives that kind no codes, and these are the model's choice (R75, R97; log entry 14). -/
def motionKind : Motion → CmdKind
  | .play _ => .play
  | .shuttle _ => .shuttle
  | .wind _ => .wind
  | .cue _ _ => .seek

/-- The speed of a motion that has one. -/
def motionSpeed : Motion → Option Int
  | .play v => some v
  | .shuttle v => some v
  | _ => none

/-- The direction of a motion that has one. -/
def motionDir : Motion → Option Dir
  | .wind d => some d
  | _ => none

/-- The target and the elapsed frames of a CUE pending motion. -/
def motionCue : Motion → Option (Nat × Nat)
  | .cue x n => some (x, n)
  | _ => none

/-- A pending motion in an answer: its requester and command kind, then its speed, its direction, and its target with
its elapsed frames, each absent where its kind has none (R75, R197; log entry 14). -/
def bMotion (std : FrameStd) (m : PendingMotion) : List Byte :=
  b1 (requesterCode m.requester) ++ b1 (kindCode (motionKind m.motion)) ++ bOpt 2 s2 (motionSpeed m.motion)
    ++ bOpt 1 (fun d => b1 (dirCode d)) (motionDir m.motion)
    ++ bOpt 7 (fun (x : Nat × Nat) => bPos std x.1 ++ b2 x.2) (motionCue m.motion)

/-- How many bytes a pending motion takes in an answer. -/
def motionBytes : Nat := 15

/-- Steps 2 to 4 of R81 and 3 to 5 of R83. -/
def manualChecks (s : State) (p : Port) : Except Reason Unit := do
  check (consoleHeld s p) (notHeldReason s p)
  check (deckUp s p) .deckDown
  check (s.chase p).isNone .state

/-- The tests of TRANSPORT (R81). -/
def transportChecks (body : List Byte) (s : State) : Except Reason (Port × Action) := do
  let p ← need (portOf (byteAt body 0)) .badField
  let a ← need (actionOf body) .badField
  manualChecks s p
  pure (p, a)

/-- TRANSPORT: the answer holds the transport state and, for a WAKING deck, the pending motion (R81, R197). -/
def transportOwner (body : List Byte) (s : State) : State :=
  match transportChecks body s with
  | .ok (p, a) =>
    let s1 := act .console p a s
    let t := s1.transport p
    answer 0x0C .done (b1 (transportCode t.state)
      ++ bOpt motionBytes (bMotion s.std) (if t.state = .waking then t.motion else none)) s1
  | .error r => refuse 0x0C r s

/-- The tests of CUE: the port, the frame and whether its label was moved (R83). -/
def cueChecks (body : List Byte) (s : State) : Except Reason (Port × Nat × Bool) := do
  let (n, moved) ← need (readLabel s.std false (labelAt body 1)) .badTime
  let p ← need (portOf (byteAt body 0)) .badField
  manualChecks s p
  pure (p, n, moved)

/-- CUE (R83). -/
def cueOwner (body : List Byte) (s : State) : State :=
  match cueChecks body s with
  | .ok (p, n, moved) =>
    let s1 := beginCue .console p (n * 64) s
    answer 0x0D (startedOr moved) (bFrame s.std n ++ b1 (transportCode (s1.transport p).state)) s1
  | .error r => refuse 0x0D r s

/-- TRANSPORT (R81). -/
def execTransport (body : List Byte) (s : State) : Result :=
  request 0x0C transportFits neverWaits transportOwner body s

/-- CUE (R83). -/
def execCue (body : List Byte) (s : State) : Result := request 0x0D (lengthIs 5) neverWaits cueOwner body s

/-! ## TRANSPORT STATUS (R97) -/

/-- A reported condition in an answer. -/
def bCondition (c : Condition) : List Byte :=
  b1 (modeCode c.mode) ++ bFlag c.remote ++ bFlag c.threaded ++ bFlag c.inhibit ++ bFlag c.servo ++ bTracks c.tracks

/-- A cue record in an answer. -/
def bCue (std : FrameStd) (c : Cue) : List Byte :=
  b1 (requesterCode c.requester) ++ bPos std c.target ++ b2 c.attempts ++ bFlag c.acked ++ b2 c.elapsed
    ++ bOpt 4 (bFrame std) c.lastStop

/-- TRANSPORT STATUS (R97). -/
def transportStatusOwner (body : List Byte) (s : State) : State :=
  match portOf (byteAt body 0) with
  | none => refuse 0x0E .badField s
  | some p =>
    let t := s.transport p
    answer 0x0E .done (b1 (holderCode (s.holder p)) ++ b1 (lineCode (s.port p).line) ++ b1 (transportCode t.state)
      ++ s2 t.speed ++ b1 ((t.lastKind.map kindCode).getD 0) ++ bOpt 6 bCondition t.condition
      ++ bOpt 16 (bCue s.std) t.cue ++ b4 t.standbyTimer ++ b4 (standbyDelay s p) ++ b2 t.wakeCount
      ++ bFlag t.wakeTaken ++ bOpt motionBytes (bMotion s.std) t.motion) s

/-- TRANSPORT_STATUS (R97). -/
def execTransportStatus (body : List Byte) (s : State) : Result :=
  request 0x0E (lengthIs 1) neverWaits transportStatusOwner body s

/-! ## The claim requests (R94, R95) -/

/-- The six holders in an answer. -/
def bHolders (s : State) : List Byte := allPorts.flatMap (fun p => b1 (holderCode (s.holder p)))

/-- A claim by the console: granted, or refused HELD with the holders (R94). -/
def claimAnswer (code : Nat) (granted : Bool) (ps : List Port) (s : State) : State :=
  if granted then
    let s1 := claimPorts .console ps s
    answer code .done (bHolders s1) s1
  else
    putAnswer { code := BitVec.ofNat 8 code, status := .refused, reason := some .held, body := bHolders s } s

/-- CLAIM SET (R94). -/
def claimSetOwner (body : List Byte) (s : State) : State :=
  match portSetOf (byteAt body 0) with
  | none => refuse 0x0F .badField s
  | some ps => claimAnswer 0x0F (allFree s ps) ps s

/-- CLAIM EXCLUSIVE (R94). -/
def claimExclusiveOwner (body : List Byte) (s : State) : State :=
  match portSetOf (byteAt body 0) with
  | none => refuse 0x10 .badField s
  | some ps => claimAnswer 0x10 (allFree s allPorts) ps s

/-- TEST SET: the holder of each port of the set, in the order of the ports (R95; log entry 14). -/
def testSetOwner (body : List Byte) (s : State) : State :=
  match portSetOf (byteAt body 0) with
  | none => refuse 0x11 .badField s
  | some ps => answer 0x11 .done (bList (fun p => b1 (holderCode (s.holder p))) ps) s

/-- A console-held port freed, with the manual chase of its deck (R95, R131). -/
def releasePort (p : Port) (s : State) : State := chaserFreed p (s.setHolder p .free)

/-- RELEASE SET (R95). -/
def releaseSetOwner (body : List Byte) (s : State) : State :=
  match portSetOf (byteAt body 0) with
  | none => refuse 0x12 .badField s
  | some ps =>
    let freed := ps.filter (consoleHeld s)
    let s1 := freed.foldl (fun s p => releasePort p s) s
    answer 0x12 .done (bPortSet freed ++ bHolders s1) s1

/-- CLAIM_SET (R94). -/
def execClaimSet (body : List Byte) (s : State) : Result :=
  request 0x0F (lengthIs 1) neverWaits claimSetOwner body s

/-- CLAIM_EXCLUSIVE (R94). -/
def execClaimExclusive (body : List Byte) (s : State) : Result :=
  request 0x10 (lengthIs 1) neverWaits claimExclusiveOwner body s

/-- TEST_SET (R95). -/
def execTestSet (body : List Byte) (s : State) : Result :=
  request 0x11 (lengthIs 1) neverWaits testSetOwner body s

/-- RELEASE_SET (R95). -/
def execReleaseSet (body : List Byte) (s : State) : Result :=
  request 0x12 (lengthIs 1) neverWaits releaseSetOwner body s

end Sys2Proof.Machine
end

