-- ==== Sys2Proof/Machine/DeckLine.lean ====
section
/-! DEFINITION. The deck line: exchanges, good replies and misses, line states, the record guard, and PORT STATUS
(chapter 4). -/

namespace Sys2Proof.Machine

/-! ## Opening an exchange (R61) -/

/-- POLL_MOMENT: with the countdown at 0 and no exchange open, the oldest pending command, or STATUS, is sent
(R61). -/
def pollWork (p : Port) (s : State) : State :=
  let d := s.port p
  if d.countdown = 0 ∧ d.exchange = none then
    let c := d.commands.head?.getD .status
    s.setPort p { d with
      exchange := some { cmd := c, frame := s.frame }, commands := d.commands.tail, sent := cmdFrame s.std c }
  else s

/-- POLL_MOMENT (R61). -/
def execPollMoment (p : Port) (s : State) : Result := work (pollWork p) s

/-! ## The end of an exchange -/

/-- The exchange marked closed. -/
def closeExchange (p : Port) (s : State) : State := s.setPort p { s.port p with exchange := none }

/-- The countdown loaded with the cadence that then applies (R62). -/
def reload (p : Port) (s : State) : State := s.setPort p { s.port p with countdown := cadence s p }

/-- The pending commands emptied and the line state changed (R65, R67). -/
def setLine0 (p : Port) (l : LineState) (s : State) : State :=
  s.setPort p { s.port p with line := l, commands := if l = .online then (s.port p).commands else [] }

/-- Entry to OFFLINE (R65). -/
def goOffline (p : Port) (s : State) : State :=
  let s1 := setLine0 p .offline s
  let s2 := lineDown p .offline (s1.setPort p { s1.port p with countdown := 25 })
  raiseDeck p ((s2.port p).lastReply.map StoredReply.condition) s2

/-- A command returned after a miss: ahead of the pending ones, unless its class slot holds a newer one; STATUS and
ENGAGE do not return (R64). -/
def returned (c : DeckCmd) (pending : List DeckCmd) : List DeckCmd :=
  match c with
  | .status => pending
  | .engage _ => pending
  | _ => if pending.any (fun d => recordClass d = recordClass c) then pending else c :: pending

/-- A miss (R64, R65, R89). -/
def miss (p : Port) (c : DeckCmd) (s : State) : State :=
  let d := s.port p
  let n := min 4 (d.misses + 1)
  let s1 := s.setPort p { d with
    misses := n, commands := if d.line = .online then returned c d.commands else d.commands }
  if n = 4 ∧ d.line ≠ .offline then goOffline p s1 else overrideRelease p s1

/-- What a good reply's remote flag does to the line state (R66, R67). -/
def lineReply (p : Port) (c : Condition) (s : State) : State :=
  match (s.port p).line, c.remote with
  | .online, true => s
  | .online, false => raiseDeck p (some c) (lineDown p .panel (setLine0 p .panel s))
  | .panel, true => raiseDeck p (some c) (stateFromMode p c.mode (setLine0 p .online s))
  | .panel, false => s
  | .offline, true => raiseDeck p (some c) (stateFromMode p c.mode (setLine0 p .online s))
  | .offline, false => raiseDeck p (some c) (lineDown p .panel (setLine0 p .panel s))

/-- The guard against recording that the ES-6 has not asked for, at a good reply to the command in flight `sent`
(R69). -/
def recordGuard (p : Port) (sent : DeckCmd) (c : Condition) (s : State) : State :=
  let d := s.port p
  if d.line = .online ∧ c.tracks ≠ 0 ∧ !d.permission ∧ !d.commands.contains .disengage ∧ sent ≠ .disengage then
    handCommand p .disengage s
  else s

/-- A good reply to the exchange `x` (R66 to R69): the line state, the stored reply, then what is handed on to the
tracker, the transport controller and the reel table, and the guard. The sample comes after the line state and before
the mode and flags of its own reply, so its test reads the state between the two (R68, R113). -/
def goodReply (p : Port) (x : Exchange) (c : Condition) (position : Nat) (s : State) : State :=
  let s1 := lineReply p c (s.setPort p { s.port p with misses := 0 })
  let s2 := s1.setPort p { s1.port p with
    lastReply := some { condition := c, position := position, frame := x.frame } }
  let s3 := if c.mode = .noTape then s2 else takeSample p (sampleTested (s2.tracker p) (s2.transport p)) position s2
  let s4 := takeCondition p (cmdKind x.cmd) c position s3
  let s5 := if c.mode = .noTape then tapeOut p s4 else s4
  recordGuard p x.cmd c s5

/-- The outcome of an exchange dealt with, then the countdown reloaded (R61). -/
def endExchange (p : Port) (reply : Option (Condition × Nat)) (s : State) : State :=
  match (s.port p).exchange with
  | none => s
  | some x =>
    let s1 := closeExchange p s
    reload p (match reply with
      | some (c, position) => goodReply p x c position s1
      | none => miss p x.cmd s1)

/-- DECK_REPLY: the reply characters judged against the command in flight; without an open exchange they are
discarded (R60). -/
def deckReplyWork (p : Port) (chars : List LineChar) (s : State) : State :=
  match (s.port p).exchange with
  | none => s
  | some x => endExchange p (readReply s.std (cmdKind x.cmd) chars) s

/-- DECK_REPLY (R60). -/
def execDeckReply (p : Port) (chars : List LineChar) (s : State) : Result := work (deckReplyWork p chars) s

/-- REPLY_TIMEOUT: 10 ms without a full reply end the exchange as a miss (R60). -/
def execReplyTimeout (p : Port) (s : State) : Result := work (endExchange p none) s

/-- PORT_OFFLINE's work: four misses in a row on a port that is not OFFLINE (R65). -/
def portOfflineWork (p : Port) (s : State) : State :=
  if 4 ≤ (s.port p).misses ∧ (s.port p).line ≠ .offline then goOffline p s else s

/-- PORT_OFFLINE (R65; log entry 9). -/
def execPortOffline (p : Port) (s : State) : Result := work (portOfflineWork p) s

/-! ## PORT STATUS (R71) -/

/-- The stored reply in an answer, with the frames since (R71). -/
def bStoredReply (s : State) (r : StoredReply) : List Byte :=
  bCondition r.condition ++ bPos s.std r.position ++ b2 (min 65535 (s.frame - r.frame))

/-- PORT STATUS (R71). -/
def portStatusOwner (body : List Byte) (s : State) : State :=
  match portOf (byteAt body 0) with
  | none => refuse 0x0B .badField s
  | some p =>
    let d := s.port p
    answer 0x0B .done (b1 (lineCode d.line) ++ b2 d.misses ++ b2 (cadence s p)
      ++ bList (fun c => b1 (kindCode (cmdKind c))) d.commands
      ++ b1 ((d.exchange.map (fun x => kindCode (cmdKind x.cmd))).getD 0)
      ++ bFlag d.permission ++ bOpt 13 (bStoredReply s) d.lastReply) s

/-- PORT_STATUS (R71). -/
def execPortStatus (body : List Byte) (s : State) : Result :=
  request 0x0B (lengthIs 1) neverWaits portStatusOwner body s

end Sys2Proof.Machine
end

