-- ==== Sys2Proof/Machine/Frames.lean ====
section
/-! DEFINITION. The reference timebase: field pulses, loss and restoration, the internal timebase, and the work every
block does for a field event and a frame event (chapter 1, R12 to R19). -/

namespace Sys2Proof.Machine

/-! ## Frame and field events (R12) -/

/-- The poll countdowns for a frame event (R62). -/
def countdownFrame (s : State) : State :=
  { s with ports := s.ports.mapAll (fun _ d => { d with countdown := d.countdown - 1 }) }

/-- The chase servo's work and then its reports to the sequencer (log entry 29). -/
def chaseAndReport (s : State) : State :=
  let r := chaseFrame s
  r.2.foldl (fun s c => seqChaseReport c s) r.1

/-- The work of every block for a reference frame event (log entry 7). -/
def frameWork (s : State) : State :=
  seqFrame (chaseAndReport (transportFrame (trackerFrame (countdownFrame { s with frame := s.frame + 1 }))))

/-- The field index counted for a field event while an edit runs (R144). -/
def indexField (s : State) : State :=
  if live s.seq then setSeq (fun q => { q with fieldIndex := q.fieldIndex.map (fun n => min 2047 (n + 1)) }) s else s

/-- An edit that drives the mix port was running and has ended. -/
def mixEditEnded (before after : State) : Bool := (liveEdit before).any (fun x => x.mode ≠ .review) && !live after.seq

/-- When the stop of an edit that ends in a frame's work is taken before the generator's work for that frame's field-1
event, the field presents nothing new of the ramp (R176). -/
def stopBeforeField (before worked after : State) : State :=
  if mixEditEnded worked after ∧ before.mix.staged = none ∧ before.mix.ramp.isSome then
    { after with mix := { after.mix with out := before.mix.out } }
  else after

/-- A reference field event: the field work, and with field 1 the frame work (R12). -/
def fieldEvent (parity : Parity) (stopFirst : Bool) (s : State) : State :=
  let s0 := { s with ref := { s.ref with parity := parity } }
  let s1 := gpiField (mixField (indexField s0))
  match parity with
  | .field2 => s1
  | .field1 =>
    let s2 := frameWork s1
    if stopFirst then stopBeforeField s0 s1 s2 else s2

/-! ## Loss and restoration (R14 to R17) -/

/-- The opposite parity. -/
def otherParity : Parity → Parity
  | .field1 => .field2
  | .field2 => .field1

/-- The loss of the reference at a moment (R14). `lossFirst` when the sequencer takes the report before the work of
the field event made at that moment (R143). -/
def loseReference (moment : Nat) (lossFirst stopFirst : Bool) (s : State) : State :=
  let s1 := { s with ref := { s.ref with state := .lost, goodRun := 0, lastSeen := none, lastField := moment } }
  let s2 := if lossFirst then seqReferenceLost s1 else s1
  let s3 := raise (.reference false) (fieldEvent (otherParity s.ref.parity) stopFirst s2)
  if lossFirst then s3 else seqReferenceLost s3

/-- REFERENCE_LOSS: 2T after the last accepted pulse, while PRESENT (R14). -/
def referenceLossWork (lossFirst stopFirst : Bool) (s : State) : State :=
  match s.ref.state, s.ref.lastAccepted with
  | .present, some a => loseReference (a + 2 * period s.std) lossFirst stopFirst s
  | _, _ => s

/-- REFERENCE_LOSS (R14). -/
def execReferenceLoss (lossFirst stopFirst : Bool) (s : State) : Result :=
  work (referenceLossWork lossFirst stopFirst) s

/-- The reference restored by the pulse at a time (R17). -/
def restoreReference (pulse : Nat) (s : State) : State :=
  raise (.reference true) { s with ref := { s.ref with state := .present, lastAccepted := some pulse } }

/-- REFERENCE_RESTORED: the good-field run has reached 8 while LOST (R17; log entry 9). -/
def referenceRestoredWork (s : State) : State :=
  match s.ref.state, s.ref.lastSeen with
  | .lost, some t => if 8 ≤ s.ref.goodRun then restoreReference t s else s
  | _, _ => s

/-- REFERENCE_RESTORED (R17). -/
def execReferenceRestored (s : State) : Result := work referenceRestoredWork s

/-! ## Field pulses (R13, R16) -/

/-- An accepted pulse (R13). -/
def acceptPulse (time : Nat) (field1 stopFirst : Bool) (s : State) : State :=
  fieldEvent (if field1 then .field1 else .field2) stopFirst
    { s with ref := { s.ref with lastAccepted := some time } }

/-- A pulse while LOST: the good-field measurement, and the restoration at a run of 8 (R16, R17). -/
def lostPulse (time : Nat) (s : State) : State :=
  let good := s.ref.lastSeen.any (fun t => t + periodLow s.std ≤ time && time ≤ t + periodHigh s.std)
  let run := if good then min 8 (s.ref.goodRun + 1) else 0
  let s1 := { s with ref := { s.ref with goodRun := run, lastSeen := some time } }
  if run = 8 then restoreReference time s1 else s1

/-- FIELD_PULSE. A pulse that comes 2T or more after the last accepted one finds the loss first (R13, R14, R16; log
entry 21). -/
def fieldPulseWork (time : Nat) (field1 stopFirst : Bool) (s : State) : State :=
  match s.ref.state with
  | .lost => lostPulse time s
  | .present =>
    match s.ref.lastAccepted with
    | none => acceptPulse time field1 stopFirst s
    | some a =>
      if a + 2 * period s.std ≤ time then
        lostPulse time (loseReference (a + 2 * period s.std) false stopFirst s)
      else if a + periodLow s.std ≤ time then acceptPulse time field1 stopFirst s
      else s

/-- FIELD_PULSE (R13). -/
def execFieldPulse (time : Nat) (field1 stopFirst : Bool) (s : State) : Result :=
  work (fieldPulseWork time field1 stopFirst) s

/-- GOOD_FIELD_TIMEOUT: while LOST, 2T pass after the last pulse seen (R16). -/
def goodFieldTimeoutWork (s : State) : State :=
  match s.ref.state with
  | .lost => { s with ref := { s.ref with goodRun := 0, lastSeen := none } }
  | .present => s

/-- GOOD_FIELD_TIMEOUT (R16). -/
def execGoodFieldTimeout (s : State) : Result := work goodFieldTimeoutWork s

/-- INTERNAL_FIELD: while LOST, one period after the last field event, with alternating parity (R15, R19). -/
def internalFieldWork (stopFirst : Bool) (s : State) : State :=
  match s.ref.state with
  | .lost =>
    fieldEvent (otherParity s.ref.parity) stopFirst
      { s with ref := { s.ref with lastField := s.ref.lastField + period s.std } }
  | .present => s

/-- INTERNAL_FIELD (R15). -/
def execInternalField (stopFirst : Bool) (s : State) : Result := work (internalFieldWork stopFirst) s

end Sys2Proof.Machine
end

