-- ==== Sys2Proof/Machine/SettingsLoader.lean ====
section
/-! DEFINITION. The settings loader: the system block, profiles and GPI configurations, the settings image, load and
store, and hardware reset (sections 11.5 and 11.6). -/

namespace Sys2Proof.Machine

/-! ## A change of frame standard (R2, R18) -/

/-- A position reduced to a new day. -/
def reducePos (std : FrameStd) (p : Nat) : Nat := p % dayLength std

/-- A command's target reduced to a new day. -/
def reduceCmd (std : FrameStd) : DeckCmd → DeckCmd
  | .seek t => .seek (reducePos std t)
  | c => c

/-- A motion's cue target reduced to a new day (R2). -/
def reduceMotion (std : FrameStd) (m : PendingMotion) : PendingMotion :=
  match m.motion with
  | .cue x n => { m with motion := .cue (reducePos std x) n }
  | _ => m

/-- A transport record reduced to a new day (R2). -/
def reduceTransport (std : FrameStd) (t : Transport) : Transport :=
  { t with
    cue := t.cue.map (fun c => { c with target := reducePos std c.target, lastStop := c.lastStop.map (· % fday std) })
    motion := t.motion.map (reduceMotion std) }

/-- A chase record reduced to a new day (R2, R133). -/
def reduceChase (std : FrameStd) (c : Chase) : Chase :=
  { c with
    masterAnchor := reducePos std c.masterAnchor, chaserAnchor := reducePos std c.chaserAnchor,
    cuePoint := c.cuePoint.map (reducePos std), lastTarget := c.lastTarget.map (reducePos std) }

/-- A deck port reduced to a new day: SEEK targets and the position of the last good reply (log entry 24). -/
def reducePort (std : FrameStd) (d : DeckPort) : DeckPort :=
  { d with
    commands := d.commands.map (reduceCmd std)
    exchange := d.exchange.map (fun x => { x with cmd := reduceCmd std x.cmd })
    lastReply := d.lastReply.map (fun r => { r with position := reducePos std r.position }) }

/-- A pending notice reduced to a new day: the frame numbers of a CUE END and a RUN END (R2, R7; log entry 37). -/
def reduceNotice (std : FrameStd) : Notice → Notice
  | .cueEnd p r => .cueEnd p { r with lastStop := r.lastStop.map (· % fday std) }
  | .runEnd r => .runEnd { r with start := r.start % fday std, stop := r.stop % fday std }
  | n => n

/-- The timebase under a new standard (R18). -/
def changeStandardRef (r : Reference) : Reference :=
  match r.state with
  | .present => r
  | .lost => { r with goodRun := 0, lastSeen := none }

/-- The frame standard changes: every position is reduced and the timebase takes the new period (R2, R18). -/
def changeStandard (std : FrameStd) (s : State) : State :=
  { s with
    ref := changeStandardRef s.ref
    ports := s.ports.mapAll (fun _ d => reducePort std d)
    transports := s.transports.mapAll (fun _ t => reduceTransport std t)
    trackers := s.trackers.mapAll (fun _ k => { k with position := reducePos std k.position })
    chases := s.chases.mapAll (fun _ c => c.map (reduceChase std))
    notices := s.notices.map (reduceNotice std)
    recorderFrame := s.recorderFrame % fday std }

/-! ## SET SYSTEM, SET PROFILE, SET GPI, READ SETTINGS (R73, R193, R194) -/

/-- The recorder of a role byte with at most one bit set (R193). -/
def recorderOf (roles : Nat) : Option Port := allPorts.find? (fun p => roles.testBit (portNum p - 1))

/-- How many ports a role byte makes RECORDER (step 3 of R193). -/
def recorderCount (roles : Nat) : Nat := (allPorts.filter (fun p => roles.testBit (portNum p - 1))).length

/-- The ports whose role a new recorder changes (R193). -/
def rolesChanged (old new : Option Port) : List Port := if old = new then [] else old.toList ++ new.toList

/-- The system block's values clamped (R193). -/
def clampSystem (b : SystemBlock) : SystemBlock :=
  { b with
    preroll := clamp 1 15 b.preroll, postroll := clamp 0 10 b.postroll,
    windowLength := min (fday b.std - b.windowStart) (max 1 b.windowLength) }

/-- The tests of SET SYSTEM: the block asked for and whether its label was moved (R193). -/
def systemChecks (body : List Byte) (s : State) : Except Reason (SystemBlock × Bool) := do
  let std := (stdOf (byteAt body 0)).getD s.std
  let (start, moved) ← need (readLabel std false (labelAt body 3)) .badTime
  let roles := byteAt body 11
  check ((stdOf (byteAt body 0)).isSome && roles < 64) .badField
  check (recorderCount roles ≤ 1) .role
  let changed := rolesChanged s.recorder (recorderOf roles)
  check ((std = s.std || (s.list.events.isEmpty && s.seq.phase = .idle))
    && (changed.isEmpty || s.seq.phase = .idle)) .state
  check (allFree s changed) .held
  check ((recorderOf roles).all (fun p => !changed.contains p || (reelOn s p).isNone)) .inUse
  pure ({ std := std, preroll := byteAt body 1, postroll := byteAt body 2, windowStart := start,
          windowLength := long body 7, recorder := recorderOf roles }, moved)

/-- A new live system block (R193, R2). -/
def setSystemBlock (b : SystemBlock) (s : State) : State :=
  let s1 := if b.std = s.std then s else changeStandard b.std s
  { s1 with live := { s1.live with system := b } }

/-- SET SYSTEM (R193). -/
def setSystemOwner (body : List Byte) (s : State) : State :=
  match systemChecks body s with
  | .ok (asked, moved) =>
    let b := clampSystem asked
    answer 0x28 (doneOr (moved || b ≠ asked)) (bSystem b) (setSystemBlock b s)
  | .error r => refuse 0x28 r s

/-- SET PROFILE (R73, R194). -/
def setProfileOwner (body : List Byte) (s : State) : State :=
  match portOf (byteAt body 0) with
  | none => refuse 0x29 .badField s
  | some p =>
    let asked := profileAt body 1
    let f := clampProfile asked
    answer 0x29 (doneOr (f ≠ asked)) (bProfile f)
      { s with live := { s.live with profiles := s.live.profiles.set p f } }

/-- SET GPI (R179, R194). -/
def setGpiOwner (body : List Byte) (s : State) : State :=
  match lineOf (byteAt body 0) with
  | none => refuse 0x2A .badField s
  | some l =>
    if 64 ≤ byteAt body 1 then refuse 0x2A .badField s
    else answer 0x2A .done [] (setGpiConfig l (gpiOf (byteAt body 1)) s)

/-- The length of a READ SETTINGS body by its part selector; an unknown part has no length of its own (log
entry 15). -/
def readSettingsFits (body : List Byte) : Bool :=
  1 ≤ body.length && (match byteAt body 0 with
    | 0 => body.length = 1
    | 1 => body.length = 2
    | 2 => body.length = 2
    | _ => true)

/-- The live part named by a READ SETTINGS body (R194). -/
def settingsPart (body : List Byte) (s : State) : Option (List Byte) :=
  match byteAt body 0 with
  | 0 => some (bSystem s.live.system)
  | 1 => (portOf (byteAt body 1)).map (fun p => bProfile (s.profile p))
  | 2 => (lineOf (byteAt body 1)).map (fun l => bGpi (s.live.gpi.get l))
  | _ => none

/-- READ SETTINGS (R194). -/
def readSettingsOwner (body : List Byte) (s : State) : State :=
  match settingsPart body s with
  | some part => answer 0x2B .done (part ++ bFlag s.snapshot.isSome) s
  | none => refuse 0x2B .badField s

/-- SET_SYSTEM (R193). -/
def execSetSystem (body : List Byte) (s : State) : Result :=
  request 0x28 (lengthIs 12) neverWaits setSystemOwner body s

/-- SET_PROFILE (R73). -/
def execSetProfile (body : List Byte) (s : State) : Result :=
  request 0x29 (lengthIs 23) neverWaits setProfileOwner body s

/-- SET_GPI (R179). -/
def execSetGpi (body : List Byte) (s : State) : Result := request 0x2A (lengthIs 2) neverWaits setGpiOwner body s

/-- READ_SETTINGS (R194). -/
def execReadSettings (body : List Byte) (s : State) : Result :=
  request 0x2B readSettingsFits neverWaits readSettingsOwner body s

/-! ## The settings image (R195 to R197) -/

/-- Bytes 1 to 153 of the image of a snapshot. -/
def imageBody (x : Settings) : List Byte :=
  b1 1 ++ b1 (stdCode x.system.std) ++ b1 x.system.preroll ++ b1 x.system.postroll ++ b4 x.system.windowStart
    ++ b4 x.system.windowLength ++ bRoles x.system.recorder
    ++ allPorts.flatMap (fun p => bProfile (x.profiles.get p)) ++ allLines.flatMap (fun l => bGpi (x.gpi.get l))

/-- The system block of an image, corrected (R195). -/
def loadSystem (b : List Byte) : SystemBlock :=
  let std := (stdOf (byteAt b 2)).getD .f30D
  clampSystem { std := std, preroll := byteAt b 3, postroll := byteAt b 4,
                windowStart := clamp 0 (fday std - 1) (long b 5), windowLength := long b 9,
                recorder := recorderOf (byteAt b 13) }

/-- The settings of an image, corrected (R195). -/
def loadImage (b : List Byte) : Settings :=
  { system := loadSystem b
    profiles := PerPort.mapAll (fun p _ => clampProfile (profileAt b (14 + 22 * (portNum p - 1)))) (.const ())
    gpi := PerLine.mapAll (fun l _ => gpiOf (byteAt b (146 + (lineNum l - 1)))) (.const ()) }

/-- An image read whole with the signature and version in place (R195; log entry 23). -/
def imageValid (b : List Byte) : Bool := 154 ≤ b.length && byteAt b 0 = 0x5C && byteAt b 1 = 1

/-- The outcome of a settings load (R195). -/
def loadOutcome (read : Option (List Byte)) : Settings × SettingsReport :=
  match read with
  | some b => if imageValid b then (loadImage b, .loaded) else (.defaults, .defaults)
  | none => (.defaults, .defaults)

/-- SETTINGS_LOAD_END: hardware reset ends with the load (R195, R19, R187). -/
def loadEndWork (read : Option (List Byte)) (time : Nat) (s : State) : State :=
  if s.inReset then
    let r := loadOutcome read
    raise (.settings r.2) { s with inReset := false, live := r.1, ref := { s.ref with lastField := time } }
  else s

/-- SETTINGS_LOAD_END (R195). -/
def execSettingsLoadEnd (read : Option (List Byte)) (time : Nat) (s : State) : Result :=
  .next (loadEndWork read time s)

/-- HARDWARE_RESET: every block in the state its chapter gives, the load in progress; the commands that wait outside
stay (R195). -/
def execHardwareReset (s : State) : Result := .next { State.reset with pending := s.pending }

/-! ## STORE SETTINGS and STORE_END (R196) -/

/-- STORE SETTINGS (R196). -/
def storeSettingsOwner (_ : List Byte) (s : State) : State :=
  if s.snapshot.isSome then refuse 0x2C .busy s
  else answer 0x2C .started [] { s with snapshot := some s.live }

/-- STORE_SETTINGS (R196). -/
def execStoreSettings (body : List Byte) (s : State) : Result :=
  request 0x2C (lengthIs 0) neverWaits storeSettingsOwner body s

/-- Bytes with their addresses, from an address on. -/
def addressed : Nat → List Byte → List (Nat × Byte)
  | _, [] => []
  | a, b :: rest => (a, b) :: addressed (a + 1) rest

/-- What a store writes to the memory before it ends or stops (R196). -/
def storeWrites (x : Settings) (stop : Option StoreStop) : List (Nat × Byte) :=
  let body := addressed 1 (imageBody x)
  match stop with
  | some .invalidate => []
  | some (.body n) => (0, 0) :: body.take n
  | some .compare => (0, 0) :: body
  | some .signature => (0, 0) :: body
  | some .signatureRead => ((0, 0) :: body) ++ [(0, 0x5C)]
  | none => ((0, 0) :: body) ++ [(0, 0x5C)]

/-- STORE_END: the store in flight ends, and the snapshot is removed (R196; log entry 22). -/
def storeEndWork (stop : Option StoreStop) (s : State) : State :=
  match s.snapshot with
  | none => s
  | some x =>
    raise (.settings (if stop = none then .stored else .storeFailed))
      { s with snapshot := none, stored := storeWrites x stop }

/-- STORE_END (R196). -/
def execStoreEnd (stop : Option StoreStop) (s : State) : Result := work (storeEndWork stop) s

end Sys2Proof.Machine
end

