-- ==== Sys2Proof/Machine/Console.lean ====
section
/-! DEFINITION. TAKE NOTICE, console RESET, and the end of a ripple chunk with the requests that waited for it
(sections 11.3 and 11.4, R49, R53, R54). -/

namespace Sys2Proof.Machine

/-! ## TAKE NOTICE (R191) -/

/-- The kind of a notice (R197). -/
def noticeKind (n : Notice) : Nat := noticeSlot n / 10

/-- The source of a notice: a port, or 0 (R197). -/
def noticeSource (n : Notice) : Nat := noticeSlot n % 10

/-- The content of an EDIT END (R155); the status written is one enumeration byte, its fault class being no part of it
(R197). -/
def bEditEnd (r : EditEnd) : List Byte :=
  b2 r.key ++ b1 (seqModeCode r.mode) ++ b1 (outcomeCode r.outcome) ++ b1 (phaseCode r.phase)
    ++ bOpt 1 (fun c => b1 (classCode c)) r.early ++ bFlag r.slip
    ++ bOpt 1 (fun st => b1 (eventStatusCode st)) r.written

/-- The content of a DECK notice (R80). -/
def bDeck (p : Port) (r : DeckReport) : List Byte :=
  bPort p ++ b1 (lineCode r.line) ++ b1 (transportCode r.transport) ++ bOpt 1 (fun m => b1 (modeCode m)) r.mode
    ++ bOpt 1 bFlag r.threaded ++ bOpt 1 bFlag r.inhibit

/-- The reason of a failed cue. -/
def failReason : CueOutcome → Option CueReason
  | .failed r => some r
  | _ => none

/-- The content of a CUE END (R86, R87). -/
def bCueEnd (std : FrameStd) (r : CueReport) : List Byte :=
  b1 (cueOutcomeCode r.outcome) ++ bOpt 1 (fun c => b1 (cueReasonCode c)) (failReason r.outcome)
    ++ b1 (requesterCode r.requester) ++ b2 r.attempts ++ bOpt 4 (bFrame std) r.lastStop

/-- The content of a notice, its frame numbers as labels of the standard in force (R7, R190, R197). -/
def bContent (std : FrameStd) : Notice → List Byte
  | .editEnd r => bEditEnd r
  | .runEnd r => bRunEnd std r
  | .deck p r => bDeck p r
  | .lock _ gained => bFlag gained
  | .cueEnd _ r => bCueEnd std r
  | .rippleEnd => []
  | .reference restored => bFlag restored
  | .reel _ i name => b1 i ++ bName name
  | .settings r => b1 (settingsCode r)

/-- TAKE NOTICE: the first entry of the set is removed and returned (R191). -/
def takeNoticeOwner (_ : List Byte) (s : State) : State :=
  match s.notices with
  | [] => answer 0x26 .none [] s
  | n :: rest =>
    answer 0x26 .done (b1 (noticeKind n) ++ b1 (noticeSource n) ++ bContent s.std n ++ b2 rest.length)
      { s with notices := rest }

/-- TAKE_NOTICE (R191). -/
def execTakeNotice (body : List Byte) (s : State) : Result :=
  request 0x26 (lengthIs 0) neverWaits takeNoticeOwner body s

/-! ## Console RESET (R192) -/

/-- A deck's part of console RESET in the transport controller (R98). -/
def resetDeck (p : Port) (s : State) : State :=
  let s1 := s.setTransport p { s.transport p with cue := none, standbyTimer := 0 }
  match (s.transport p).state with
  | .offline => s1
  | .panel => s1
  | .empty => s1
  | .standby => s1
  | .waking => s1.setTransport p { s1.transport p with motion := none }
  | _ => enterState p .idle (handTransport p .halt s1)

/-- The sequencer's DISENGAGE to the port with the RECORDER role (R158). -/
def resetDisengage (s : State) : State :=
  match s.recorder with
  | some p => handCommand p .disengage s
  | none => s

/-- The transport controller, claim table, chase servo and deck ports after a console RESET (R74, R98, R133). -/
def resetDecks (s : State) : State :=
  let s1 := allPorts.foldl (fun s p => resetDeck p (s.setHolder p .free)) s
  { s1 with chases := .const none, ports := s1.ports.mapAll (fun _ d => { d with permission := false }) }

/-- A console RESET with no ripple in flight: the edit in progress is aborted, the sequencer's handed write is taken
and any run ends, then each block's part, the notice set emptied last, and the answer (R54, R158, R169, R192). The
sequencer's DISENGAGE is handed before the transport controller's HALTs, so that it is sent first; the manual orders
neither before the other (log entry 27). -/
def resetRest (s : State) : State :=
  let s1 := resetDecks (resetDisengage (takeHanded true (abortEdit s)))
  answer 0x27 .done [] { quietGpi (blackMix s1) with notices := [] }

/-- RESET: the edit in progress is aborted at once; a ripple is finished before the rest (R54, R192; log
entry 27). -/
def resetOwner (body : List Byte) (s : State) : State :=
  if s.list.ripple.isSome then leaveWaiting 0x27 body (abortEdit s) else resetRest s

/-- RESET (R192). -/
def execReset (body : List Byte) (s : State) : Result := request 0x27 (lengthIs 0) neverWaits resetOwner body s

/-! ## RIPPLE_CHUNK_END (R49, R53) -/

/-- A console RESET is waiting for a ripple to end. -/
def resetting (s : State) : Bool := s.link.waiting.any (fun w => w.code = 0x27)

/-- A request that waited for the end of a chunk, taken up by its code (R49). -/
def takeUp (w : Waiting) (s : State) : State :=
  match w.code.toNat with
  | 0x01 => readByPositionOwner w.body s
  | 0x02 => readByKeyOwner w.body s
  | 0x03 => findOwner w.body s
  | 0x04 => listStatusOwner w.body s
  | 0x05 => insertOwner w.body s
  | 0x06 => replaceOwner w.body s
  | 0x07 => trimOwner w.body s
  | 0x08 => deleteOwner w.body s
  | 0x09 => clearListOwner w.body s
  | 0x0A => rippleOwner w.body s
  | 0x15 => retireStep w.body s
  | 0x18 => readReelOwner w.body s
  | 0x19 => findReelOwner w.body s
  | 0x1E => editOwner .perform w.body s
  | 0x1F => editOwner .preview w.body s
  | 0x20 => editOwner .review w.body s
  | 0x23 => runStep w.body s
  | 0x27 => if s.list.ripple.isSome then s else resetRest s
  | _ => s

/-- The console request waiting, if there is one, taken up. -/
def takeWaiting (s : State) : State :=
  match s.link.waiting with
  | some w => takeUp w s
  | none => s

/-- The requests waiting at the end of a chunk, in either order; a waiting RESET lets the sequencer's come first
(R49, R54; log entries 8 and 27). A console change taken first at the end of the last chunk may start a new ripple; the
sequencer's write is then taken at once with that ripple in flight, which is the model's choice (R53; log entry 43). -/
def takeBoth (sequencerFirst : Bool) (s : State) : State :=
  if sequencerFirst || resetting s then takeWaiting (takeHanded (resetting s) s) else takeHanded false (takeWaiting s)

/-- RIPPLE_CHUNK_END: the chunk is worked; with the last one the ripple ends and RIPPLE END is raised; then the
waiting requests are taken (R49, R53). -/
def rippleChunkEndWork (sequencerFirst : Bool) (s : State) : State :=
  if s.list.ripple.isSome then
    let s1 := { s with list := workChunk s.list }
    takeBoth sequencerFirst (if s1.list.ripple.isSome then s1 else raise .rippleEnd s1)
  else s

/-- RIPPLE_CHUNK_END (R49). -/
def execRippleChunkEnd (sequencerFirst : Bool) (s : State) : Result := work (rippleChunkEndWork sequencerFirst) s

end Sys2Proof.Machine
end

