-- ==== Sys2Proof/Machine/Dispatch.lean ====
section
/-! DEFINITION. The dispatch: one arm for each command, each a direct call of its meaning. -/

namespace Sys2Proof.Machine

/-- What a command does to everything but the queue. -/
def exec (i : Instr) (s : State) : Host.Outcome State Fault Refusal :=
  match i with
  | .hardwareReset => Sys2Proof.Machine.execHardwareReset s
  | .settingsLoadEnd read time => Sys2Proof.Machine.execSettingsLoadEnd read time s
  | .fieldPulse time field1 stopFirst => Sys2Proof.Machine.execFieldPulse time field1 stopFirst s
  | .referenceRestored => Sys2Proof.Machine.execReferenceRestored s
  | .referenceLoss lossFirst stopFirst => Sys2Proof.Machine.execReferenceLoss lossFirst stopFirst s
  | .goodFieldTimeout => Sys2Proof.Machine.execGoodFieldTimeout s
  | .internalField stopFirst => Sys2Proof.Machine.execInternalField stopFirst s
  | .sequencerRoll => Sys2Proof.Machine.execSequencerRoll s
  | .engageTimeout => Sys2Proof.Machine.execEngageTimeout s
  | .releaseTimeout => Sys2Proof.Machine.execReleaseTimeout s
  | .postrollEnd => Sys2Proof.Machine.execPostrollEnd s
  | .statusWrite => Sys2Proof.Machine.execStatusWrite s
  | .rippleChunkEnd sequencerFirst => Sys2Proof.Machine.execRippleChunkEnd sequencerFirst s
  | .flipFlop => Sys2Proof.Machine.execFlipFlop s
  | .gpiPulseEnd line => Sys2Proof.Machine.execGpiPulseEnd line s
  | .pollMoment port => Sys2Proof.Machine.execPollMoment port s
  | .deckReply port chars => Sys2Proof.Machine.execDeckReply port chars s
  | .replyTimeout port => Sys2Proof.Machine.execReplyTimeout port s
  | .portOffline port => Sys2Proof.Machine.execPortOffline port s
  | .sampleJump port sample => Sys2Proof.Machine.execSampleJump port sample s
  | .cueTimeout port => Sys2Proof.Machine.execCueTimeout port s
  | .wakeEnd port => Sys2Proof.Machine.execWakeEnd port s
  | .standbyTimeout port => Sys2Proof.Machine.execStandbyTimeout port s
  | .fetch clocked => Sys2Proof.Machine.execFetch clocked s
  | .unknownRequest code body => Sys2Proof.Machine.execUnknownRequest code body s
  | .readByPosition body => Sys2Proof.Machine.execReadByPosition body s
  | .readByKey body => Sys2Proof.Machine.execReadByKey body s
  | .find body => Sys2Proof.Machine.execFind body s
  | .listStatus body => Sys2Proof.Machine.execListStatus body s
  | .insert body => Sys2Proof.Machine.execInsert body s
  | .replace body => Sys2Proof.Machine.execReplace body s
  | .trim body => Sys2Proof.Machine.execTrim body s
  | .delete body => Sys2Proof.Machine.execDelete body s
  | .clearList body => Sys2Proof.Machine.execClearList body s
  | .ripple body => Sys2Proof.Machine.execRipple body s
  | .portStatus body => Sys2Proof.Machine.execPortStatus body s
  | .transport body => Sys2Proof.Machine.execTransport body s
  | .cue body => Sys2Proof.Machine.execCue body s
  | .transportStatus body => Sys2Proof.Machine.execTransportStatus body s
  | .claimSet body => Sys2Proof.Machine.execClaimSet body s
  | .claimExclusive body => Sys2Proof.Machine.execClaimExclusive body s
  | .testSet body => Sys2Proof.Machine.execTestSet body s
  | .releaseSet body => Sys2Proof.Machine.execReleaseSet body s
  | .defineReel body => Sys2Proof.Machine.execDefineReel body s
  | .rename body => Sys2Proof.Machine.execRename body s
  | .retire body => Sys2Proof.Machine.execRetire body s
  | .mount body => Sys2Proof.Machine.execMount body s
  | .unmount body => Sys2Proof.Machine.execUnmount body s
  | .readReel body => Sys2Proof.Machine.execReadReel body s
  | .findReel body => Sys2Proof.Machine.execFindReel body s
  | .mountTable body => Sys2Proof.Machine.execMountTable body s
  | .chase body => Sys2Proof.Machine.execChase body s
  | .chaseStop body => Sys2Proof.Machine.execChaseStop body s
  | .trackStatus body => Sys2Proof.Machine.execTrackStatus body s
  | .perform body => Sys2Proof.Machine.execPerform body s
  | .preview body => Sys2Proof.Machine.execPreview body s
  | .review body => Sys2Proof.Machine.execReview body s
  | .abort body => Sys2Proof.Machine.execAbort body s
  | .sequencerStatus body => Sys2Proof.Machine.execSequencerStatus body s
  | .run body => Sys2Proof.Machine.execRun body s
  | .runStatus body => Sys2Proof.Machine.execRunStatus body s
  | .outputStatus body => Sys2Proof.Machine.execOutputStatus body s
  | .takeNotice body => Sys2Proof.Machine.execTakeNotice body s
  | .reset body => Sys2Proof.Machine.execReset body s
  | .setSystem body => Sys2Proof.Machine.execSetSystem body s
  | .setProfile body => Sys2Proof.Machine.execSetProfile body s
  | .setGpi body => Sys2Proof.Machine.execSetGpi body s
  | .readSettings body => Sys2Proof.Machine.execReadSettings body s
  | .storeSettings body => Sys2Proof.Machine.execStoreSettings body s
  | .storeEnd stop => Sys2Proof.Machine.execStoreEnd stop s
  | .selectAsserted => Sys2Proof.Machine.execSelectAsserted s

end Sys2Proof.Machine
end

