-- ==== Sys2Proof/Safety.lean ====
section
/-! DEFINITION. The terms in which statements about the ES-6 are made: when a request is taken, what an answered
request leaves in the console link, and the invariants that the manual's rules keep. -/

namespace Sys2Proof.Machine

/-! ## Requests and answers -/

/-- A request transfer is taken now: hardware reset is over and the link byte of the transfer shows working clear
(R187, R188). -/
def Ready (s : State) : Prop := s.inReset = false ∧ (transferByte s).working = false

/-- The console link after a request transfer with a body was taken and answered (R187 to R189). -/
def answered (s : State) (body : List Byte) (a : Answer) : Link :=
  { working := false, answer := some a, waiting := none, selected := none,
    shifted := bLink (transferByte s) ++ List.replicate body.length 0 }

/-- The console link after a request transfer with a body was taken and left waiting for the end of a ripple chunk
(R49, R189). -/
def leftWaiting (s : State) (code : Byte) (body : List Byte) : Link :=
  { working := true, answer := none, waiting := some { code := code, body := body }, selected := none,
    shifted := bLink (transferByte s) ++ List.replicate body.length 0 }

/-- An answer with a status and a body. -/
def say (code : Byte) (status : Status) (body : List Byte) : Answer :=
  { code := code, status := status, reason := none, body := body }

/-- A refusal without a body. -/
def deny (code : Byte) (reason : Reason) : Answer :=
  { code := code, status := .refused, reason := some reason, body := [] }

/-- The length of the body of a request whose length does not depend on the body (R188, R197). -/
def bodyLength : Instr → Option Nat
  | .readByPosition _ => some 2
  | .readByKey _ => some 2
  | .find _ => some 5
  | .listStatus _ => some 0
  | .trim _ => some 7
  | .delete _ => some 3
  | .clearList _ => some 0
  | .ripple _ => some 6
  | .portStatus _ => some 1
  | .cue _ => some 5
  | .transportStatus _ => some 1
  | .claimSet _ => some 1
  | .claimExclusive _ => some 1
  | .testSet _ => some 1
  | .releaseSet _ => some 1
  | .retire _ => some 1
  | .mount _ => some 2
  | .unmount _ => some 1
  | .readReel _ => some 1
  | .mountTable _ => some 0
  | .chase _ => some 6
  | .chaseStop _ => some 1
  | .trackStatus _ => some 1
  | .perform _ => some 2
  | .preview _ => some 2
  | .review _ => some 2
  | .abort _ => some 0
  | .sequencerStatus _ => some 0
  | .run _ => some 10
  | .runStatus _ => some 0
  | .outputStatus _ => some 0
  | .takeNotice _ => some 0
  | .reset _ => some 0
  | .setSystem _ => some 12
  | .setProfile _ => some 23
  | .setGpi _ => some 2
  | .storeSettings _ => some 0
  | _ => none

/-- A request to the list unit whose bytes fit (R188). -/
def listRequestFits : Instr → Bool
  | .insert body => recordFits 0 1 body
  | .replace body => recordFits 2 0 body
  | i => match requestCode i, bodyLength i with
    | some code, some n => code.toNat ≤ 10 && (requestBody i).length = n
    | _, _ => false

/-! ## The polls -/

/-- No poll countdown is longer than the cadence that applies (R62). -/
def PollsShort (s : State) : Prop := ∀ p ∈ allPorts, (s.port p).countdown ≤ cadence s p

/-! ## The notices -/

/-- The pending notices stand in the taking order, at most one for each kind and source (R190, R191). -/
def NoticesOrdered (s : State) : Prop := (s.notices.map noticeSlot).Pairwise (· < ·)

/-! ## Hardware reset -/

/-- While the settings load is in progress, every block stands as hardware reset left it; only the queue and the
transfer on the console link move (R187, R195). -/
def ResetStill (s : State) : Prop :=
  s.inReset = true → { s with pending := [], link := State.reset.link } = State.reset ∧ s.link.answer = none
    ∧ s.link.waiting = none ∧ s.link.working = false

/-! ## The sequencer and the claim table -/

/-- The decks of the edit in progress. -/
def editDecks (s : State) : List Port := (s.seq.decks.map deckPorts).getD []

/-- The sequencer record is whole: while IDLE every field is absent or clear, otherwise it has a mode, an event copy
and a deck set; a port is held by SEQUENCER exactly while it belongs to that set; and the closing flag stands with an
outcome and a write handed to the list unit (R93, R134, R153). -/
def SequencerWhole (s : State) : Prop :=
  (s.seq.phase = .idle → s.seq = .idle) ∧ (s.seq.phase ≠ .idle → (editOf s.seq).isSome)
    ∧ (∀ p ∈ allPorts, s.holder p = .sequencer ↔ p ∈ editDecks s)
    ∧ (s.seq.closing = true → s.seq.outcome.isSome) ∧ (s.seq.closing = true ↔ s.seq.handed.isSome)

/-- The request for a single edit in a mode; RUN has a body of its own. -/
def editRequest (m : Mode) (body : List Byte) : Instr :=
  match m with
  | .preview => .preview body
  | .review => .review body
  | _ => .perform body

/-- The speed at which a deck of an edit rolls: the motion rate for the to-source player, 1024 for the others (R141). -/
def rollSpeed (x : Edit) (p : Port) : Nat := if some p = x.decks.toPort then x.event.rate.getD 1024 else 1024

/-- The key of the event that a handed write names (R27, R164). -/
def handedKey : Handed → Nat
  | .final w => w.key
  | .skip key _ _ => key

/-- The command of a timed step that ends an edit, with whether its moment has come (R147, R148). -/
def endMoment (x : Edit) (s : State) : Instr → Bool
  | .engageTimeout => s.seq.phase = .preroll
      && s.seq.rollFrame.any (fun f => f + s.seq.preroll + rate s.std ≤ s.frame)
  | .releaseTimeout => s.seq.phase = .edit
      && (if x.mode = .review then
          s.seq.recordInFrame.any (fun f => f + (x.event.recOut - x.event.recIn) + rate s.std ≤ s.frame)
        else s.seq.engageFrame.any (fun f =>
          f + (s.profile x.decks.recorder).engageLead + (x.event.recOut - x.event.recIn) + rate s.std ≤ s.frame))
  | .postrollEnd => s.seq.phase = .postroll && s.seq.postrollEnd.any (fun f => f ≤ s.frame)
  | _ => false

/-! ## The deck lines and the transport records -/

/-- A transport record agrees with its line: OFFLINE and LOCAL follow the line state, a cue record exists exactly
while the state is CUEING, and a pending motion only while it is WAKING (R57, R75, R76). -/
def TransportAgrees (d : DeckPort) (t : Transport) : Prop :=
  (d.line = .offline ↔ t.state = .offline) ∧ (d.line = .panel ↔ t.state = .panel)
    ∧ (t.cue.isSome ↔ t.state = .cueing) ∧ (t.motion.isSome → t.state = .waking)

/-- Every transport record agrees with its line, and no position is known of a deck in OFFLINE or EMPTY (R76, R78,
R115). -/
def TransportsAgree (s : State) : Prop :=
  ∀ p ∈ allPorts, TransportAgrees (s.port p) (s.transport p)
    ∧ ((s.transport p).state = .offline ∨ (s.transport p).state = .empty → (s.tracker p).known = false)

/-- A port's pending commands: at most one of each class, no STATUS, none on a line that is not ONLINE (R57, R63). -/
def SlotsRight (d : DeckPort) : Prop :=
  d.commands.countP recordClass ≤ 1 ∧ d.commands.countP (fun c => !recordClass c) ≤ 1
    ∧ DeckCmd.status ∉ d.commands ∧ (d.line ≠ .online → d.commands = [])

/-- What waits for the line of a deck in STANDBY or WAKING: no motion or cue command, and none that a miss could bring
back, since a newer one of its class stands there (R64, R91). -/
def NoMotionWaits (d : DeckPort) : Prop :=
  (∀ c ∈ d.commands, motionCmd c = false)
    ∧ ∀ x ∈ d.exchange, motionCmd x.cmd = true → ∃ c ∈ d.commands, recordClass c = false

/-- No port that is held has a RELEASE among its pending commands, no deck in STANDBY or WAKING a motion or a cue, and
the slots of every port are right (R63, R89, R91). -/
def CommandsRight (s : State) : Prop :=
  ∀ p ∈ allPorts, SlotsRight (s.port p) ∧ (s.holder p ≠ .free → DeckCmd.release ∉ (s.port p).commands)
    ∧ ((s.transport p).state = .standby ∨ (s.transport p).state = .waking → NoMotionWaits (s.port p))

/-! ## Transport actions -/

/-- An action within the ranges of R81. -/
def ActionLegal : Action → Prop
  | .halt => True
  | .play v => v ≤ 2304
  | .shuttle v => -32767 ≤ v ∧ v ≤ 32767
  | .wind _ => True

/-- The action bytes of a TRANSPORT body: the action's code and its data (R81, R197). -/
def actionBytes : Action → List Byte
  | .halt => b1 0
  | .play v => b1 1 ++ b2 v
  | .shuttle v => b1 2 ++ s2 v
  | .wind d => b1 3 ++ b1 (dirCode d)

/-- A state of a deck that stands or moves under its line: the last five of section 5.1. -/
def movable : TransportState → Bool
  | .idle => true
  | .cueing => true
  | .parked => true
  | .rolling => true
  | .winding => true
  | _ => false

/-! ## The work of one field event -/

/-- No limit of a port's transport record is reached at the next frame: the standby delay of a FREE deck that stands,
the cue time limit of a cue or a CUE pending motion, the end of a wake (R86, R88, R89, R91). -/
def BelowLimits (s : State) (p : Port) : Prop :=
  let t := s.transport p
  let f := s.profile p
  (t.state = .idle ∨ t.state = .parked → s.holder p = .free → f.standbyDelay ≠ 0 →
      t.standbyTimer + 1 < f.standbyDelay * 60 * rate s.std)
    ∧ (t.state = .cueing → ∀ c ∈ t.cue, c.elapsed + 1 < f.cueTime * rate s.std)
    ∧ (t.state = .waking → (t.wakeTaken = true → 1 < t.wakeCount)
        ∧ ∀ m ∈ t.motion, ∀ x ∈ motionCue m.motion, x.2 + 1 < f.cueTime * rate s.std)

/-- A cue still pending, one frame older. -/
def olderMotion (m : PendingMotion) : PendingMotion :=
  match m.motion with
  | .cue x n => { m with motion := .cue x (n + 1) }
  | _ => m

/-- A transport record one frame on, below its limits: the standby timer of a deck that stands counts when it is to, the
elapsed frames of a cue, and the wake count of a taken wake (R86, R88, R91). -/
def frameOn (counts : Bool) (t : Transport) : Transport :=
  match t.state with
  | .idle => { t with standbyTimer := if counts then t.standbyTimer + 1 else t.standbyTimer }
  | .parked => { t with standbyTimer := if counts then t.standbyTimer + 1 else t.standbyTimer }
  | .cueing => { t with cue := t.cue.map (fun c => { c with elapsed := c.elapsed + 1 }) }
  | .waking => { t with
      wakeCount := if t.wakeTaken then t.wakeCount - 1 else t.wakeCount, motion := t.motion.map olderMotion }
  | _ => t

/-- What a field event does to the blocks, `frame` when it brings a frame event, from the state before it to the state
after it. Every tracker is carried one frame on, but for the settle count, which a command handed in the frame may set;
the poll countdowns fall by 1 and no further than the cadence allows; the mix port and the GPI lines make their field
work; and in a frame with the sequencer IDLE a port without a chase record and below its limits counts its frame and
nothing more (R62, R86, R88, R91, R112, R171, R183). -/
def EventWork (frame : Bool) (s t : State) : Prop :=
  (∀ p ∈ allPorts,
    t.tracker p = { (if frame then predict s.std (s.transport p).speed (s.tracker p) else s.tracker p) with
      settle := (t.tracker p).settle }
      ∧ (t.port p).countdown = min ((s.port p).countdown - if frame then 1 else 0) (cadence t p))
    ∧ (frame = false ∨ s.seq.phase = .idle → t.mix = (mixField (indexField s)).mix ∧ t.gpi = (gpiField s).gpi)
    ∧ (frame = false → t.transports = s.transports ∧ t.chases = s.chases ∧ t.trackers = s.trackers
        ∧ t.seq = (indexField s).seq)
    ∧ (frame = true → s.seq.phase = .idle → ∀ p ∈ allPorts, s.chase p = none → BelowLimits s p →
        t.transport p = frameOn (s.holder p = .free ∧ (s.profile p).standbyDelay ≠ 0) (s.transport p)
          ∧ t.tracker p = predict s.std (s.transport p).speed (s.tracker p)
          ∧ (t.port p).commands = (s.port p).commands)

/-! ## Positions -/

/-- A position on the day of a standard (R8). -/
def OnDay (std : FrameStd) (x : Nat) : Prop := x < dayLength std

/-- The target of a command, if it has one. -/
def seekTarget : DeckCmd → Option Nat
  | .seek x => some x
  | _ => none

/-- The target of a motion, if it is a cue. -/
def cueTarget : Motion → Option Nat
  | .cue x _ => some x
  | _ => none

/-- Every position of one port's records lies on the day. -/
def PortOnDay (std : FrameStd) (d : DeckPort) (t : Transport) (k : Tracker) (c : Option Chase) : Prop :=
  OnDay std k.position
    ∧ (∀ c ∈ d.commands, ∀ x ∈ seekTarget c, OnDay std x) ∧ (∀ e ∈ d.exchange, ∀ x ∈ seekTarget e.cmd, OnDay std x)
    ∧ (∀ r ∈ d.lastReply, OnDay std r.position)
    ∧ (∀ q ∈ t.cue, OnDay std q.target ∧ ∀ f ∈ q.lastStop, f < fday std) ∧ (∀ m ∈ t.motion, ∀ x ∈ cueTarget m.motion, OnDay std x)
    ∧ (∀ r ∈ c, OnDay std r.masterAnchor ∧ OnDay std r.chaserAnchor ∧ (∀ x ∈ r.cuePoint, OnDay std x)
        ∧ ∀ x ∈ r.lastTarget, OnDay std x)

/-- The cue points of an edit lie on the day. -/
def CuePointsOnDay (std : FrameStd) (c : CuePoints) : Prop :=
  OnDay std c.recorder ∧ (∀ x ∈ c.toPos, OnDay std x) ∧ ∀ x ∈ c.fromPos, OnDay std x

/-- The frame numbers of a pending notice lie on the day, so that the labels it is taken with are valid (R7). -/
def NoticeOnDay (std : FrameStd) : Notice → Prop
  | .cueEnd _ r => ∀ f ∈ r.lastStop, f < fday std
  | .runEnd r => r.start < fday std ∧ r.stop < fday std
  | _ => True

/-- Every position the ES-6 holds lies on the day of the frame standard in force (R2, R112). -/
def PositionsOnDay (s : State) : Prop :=
  (∀ p ∈ allPorts, PortOnDay s.std (s.port p) (s.transport p) (s.tracker p) (s.chase p))
    ∧ s.recorderFrame < fday s.std ∧ (∀ c ∈ s.seq.cuePoints, CuePointsOnDay s.std c)
    ∧ (∀ r ∈ s.seq.run, r.start < fday s.std ∧ r.stop < fday s.std) ∧ ∀ n ∈ s.notices, NoticeOnDay s.std n

/-! ## The edit list -/

/-- A source within the ranges of R20. -/
def SourceRight (std : FrameStd) (x : Source) : Prop := 1 ≤ x.reel ∧ x.reel ≤ 64 ∧ x.start < fday std

/-- The wipe pattern of a WIPE. -/
def patternOf : Transition → Option Nat
  | .wipe _ _ n _ => some n
  | _ => none

/-- A trigger in the ranges of R20. -/
def TriggerRight (t : Trigger) : Prop := -99 ≤ t.offset ∧ t.offset ≤ 99

/-- The fields of an event other than its key and record range lie in the ranges of R20. -/
def FieldsRight (std : FrameStd) (e : Event) : Prop :=
  e.tracks ≠ 0 ∧ SourceRight std e.toSrc ∧ (∀ x ∈ fromSource e, SourceRight std x)
    ∧ (∀ d ∈ durationOf e, 1 ≤ d ∧ d ≤ 999) ∧ (∀ n ∈ patternOf e.transition, n ≤ 31)
    ∧ (∀ k ∈ e.rate, 256 ≤ k ∧ k ≤ 2048 ∧ k ≠ 1024) ∧ e.triggers.length ≤ 4 ∧ ∀ t ∈ e.triggers, TriggerRight t

/-- An event as it is seen: its key, its record range and its duration satisfy R20, R21 and R23. -/
def RangeRight (std : FrameStd) (e : Event) : Prop :=
  1 ≤ e.key ∧ e.key ≤ 4095 ∧ e.recIn < e.recOut ∧ e.recOut ≤ fday std ∧ ∀ d ∈ durationOf e, d ≤ e.recOut - e.recIn

/-- The ripple record of R44: members without duplicates that are keys of the list, a frontier among them, and a
worked-ahead list, without duplicates, of members at or past the frontier. -/
def RippleRight (l : ListUnit) (r : Ripple) : Prop :=
  r.members.Nodup ∧ r.frontier < r.members.length ∧ (∀ k ∈ r.members, keyUsed l k = true)
    ∧ r.ahead.Nodup ∧ ∀ k ∈ r.ahead, k ∈ r.members.drop r.frontier

/-- The list as every answer shows it is whole: at most 511 events, in the order of R23, exclusive on every track,
every field in its range; and the ripple record and key counter are right (R20, R23 to R25, R44, R50). -/
def ListRight (std : FrameStd) (l : ListUnit) : Prop :=
  l.events.length ≤ 511 ∧ 1 ≤ l.keyCounter ∧ l.keyCounter ≤ 4095
    ∧ (l.events.map Event.key).Nodup
    ∧ (viewEvents l).Pairwise (fun a b => comesBefore a b = true)
    ∧ (viewEvents l).Pairwise (fun a b => conflicts a b = false)
    ∧ (∀ e ∈ viewEvents l, RangeRight std e ∧ FieldsRight std e)
    ∧ ∀ r ∈ l.ripple, RippleRight l r

/-- The held event is in the list, and is no unworked member of a ripple (R51, R55). -/
def HeldWorked (s : State) : Prop :=
  ∀ k ∈ s.seq.heldKey, keyUsed s.list k = true ∧ ∀ r ∈ s.list.ripple, unworked r k = false

/-- The fields of an event that are frozen while it is held (R55). -/
def frozenFields (e : Event) : Event := { e with status := .new, previewed := false }

/-- A received record passes every test of INSERT and REPLACE but the state of the list unit, and stands for the times
`t` and the event `e`, which conflicts with none of `rest` (steps 1 and 6 to 10 of R34). -/
def Accepted (s : State) (raw : RawEvent) (moved : Bool) (t : EventTimes) (e : Event) (rest : List Event) : Prop :=
  readTimes s.std raw = some (t, moved) ∧ eventOf raw t = some e ∧ reelsDefined s e = true ∧ t.recIn < t.recOut
    ∧ t.recOut ≤ fday s.std ∧ (∀ d ∈ durationOf e, d ≤ t.recOut - t.recIn) ∧ ∀ f ∈ rest, conflicts e f = false

/-- Events that a ripple would shift by `d` stay within the day and clear of the events it would not shift (steps 8
and 10 of R45). -/
def ShiftAllowed (std : FrameStd) (d : Int) (ms rest : List Event) : Prop :=
  ∀ e ∈ ms, 0 ≤ (e.recIn : Int) + d ∧ (e.recOut : Int) + d ≤ fday std ∧ ∀ f ∈ rest, conflicts (shiftEvent d e) f = false

/-- The state at the end of a chunk of the ripple `r` as every answer shows it: the list as seen, with no ripple left to
work, and RIPPLE END raised when the chunk is the last (R50, R53). -/
def listDone (r : Ripple) (s : State) : State :=
  { s with
    list := { s.list with events := viewEvents s.list, ripple := none }
    notices := if r.members.length ≤ r.frontier + 16 then putNotice .rippleEnd s.notices else s.notices }

/-- A list shows the events and holds the key counter of another, its own ripple record being `r` one chunk further, or
gone with the last chunk (R49, R50, R53). -/
def showsOneChunkOn (r : Ripple) (l shown : ListUnit) : Prop :=
  viewEvents l = shown.events ∧ l.keyCounter = shown.keyCounter
    ∧ l.ripple.map (fun q => (q.delta, q.members, q.frontier))
      = if r.members.length ≤ r.frontier + 16 then none else some (r.delta, r.members, r.frontier + 16)

/-- The console link, no transfer on it, when the request that waits is about to be taken again. -/
def linkFreed (l : Link) : Link := { l with working := false, waiting := none, selected := none }

/-- The console link when the request that waited has been answered (R189). -/
def waitEnded (l : Link) (a : Option Answer) : Link := { l with working := false, waiting := none, answer := a }

/-- The ripple record that shifts some events, if there are any (R44, R46 to R48). -/
def rippleOf (d : Int) (ms : List Event) : Option Ripple :=
  if ms = [] then none else some { delta := d, members := ms.map Event.key, frontier := 0, ahead := [] }

/-! ## The reel table -/

/-- The reel table is whole: each port holds at most one reel and the recorder's port none, names of defined entries
are valid and different, and every reel an event of the list refers to is defined (R22, R100, R101). -/
def ReelsRight (s : State) : Prop :=
  (∀ p ∈ allPorts, s.reels.toList.countP (fun r => r.any (fun x => x.mounted = some p)) ≤ 1)
    ∧ (∀ p ∈ s.recorder, ∀ r ∈ s.reels.toList, ∀ x ∈ r, x.mounted ≠ some p)
    ∧ (s.reels.toList.reduceOption.map Reel.name).Nodup
    ∧ (∀ r ∈ s.reels.toList, ∀ x ∈ r, nameValid x.name = true)
    ∧ ∀ e ∈ s.list.events, reelsDefined s e = true

/-! ## The settings -/

/-- A system block in the ranges of R193. -/
def SystemRight (b : SystemBlock) : Prop :=
  1 ≤ b.preroll ∧ b.preroll ≤ 15 ∧ b.postroll ≤ 10 ∧ b.windowStart < fday b.std ∧ 1 ≤ b.windowLength
    ∧ b.windowStart + b.windowLength ≤ fday b.std

/-- A deck profile in the ranges of R72. -/
def ProfileRight (f : Profile) : Prop :=
  (1 ≤ f.plausibility ∧ f.plausibility ≤ 15) ∧ f.settle ≤ 15 ∧ (1 ≤ f.gain ∧ f.gain ≤ 255) ∧ f.varispeed ≤ 256
    ∧ f.lockWindow ≤ 32 ∧ (1 ≤ f.lockCount ∧ f.lockCount ≤ 63)
    ∧ (16 ≤ f.unlockWindow ∧ f.unlockWindow ≤ 255 ∧ f.lockWindow ≤ f.unlockWindow)
    ∧ (1 ≤ f.captureWindow ∧ f.captureWindow ≤ 60) ∧ f.rollLead ≤ 30 ∧ f.cueTolerance ≤ 5
    ∧ (1 ≤ f.cueAttempts ∧ f.cueAttempts ≤ 8) ∧ (10 ≤ f.cueTime ∧ f.cueTime ≤ 255) ∧ f.standbyDelay ≤ 60
    ∧ f.wakeSettle ≤ 255 ∧ f.engageLead ≤ 7 ∧ f.releaseLead ≤ 7 ∧ (256 ≤ f.motionMin ∧ f.motionMin ≤ 1024)
    ∧ (1024 ≤ f.motionMax ∧ f.motionMax ≤ 2048)

/-- Settings in their ranges (R72, R193). -/
def SettingsRight (x : Settings) : Prop := SystemRight x.system ∧ ∀ p ∈ allPorts, ProfileRight (x.profiles.get p)

/-! ## The outputs -/

/-- The elapsed count of a pulse; a level has none. -/
def pulseCount : Fired → Nat
  | .pulse n => n
  | .level _ => 0

/-- The mix port and the GPI pulses lie in the ranges of R171 and R179, and so do the wipe patterns that the list and
the event copy can bring to the mix port (R20). -/
def OutputsRight (s : State) : Prop :=
  (s.mix.out.busA ≤ 6 ∧ s.mix.out.busB ≤ 6 ∧ s.mix.out.coef ≤ 1023 ∧ s.mix.out.pattern ≤ 31)
    ∧ (∀ o ∈ s.mix.staged, o.busA ≤ 6 ∧ o.busB ≤ 6 ∧ o.coef = 0 ∧ o.pattern ≤ 31)
    ∧ (∀ e ∈ s.list.events, ∀ n ∈ patternOf e.transition, n ≤ 31)
    ∧ (∀ e ∈ s.seq.copy, ∀ n ∈ patternOf e.transition, n ≤ 31)
    ∧ ∀ l ∈ allLines, ∀ f ∈ s.gpi.lines.get l, pulseCount f < 30

/-! ## A reply as a deck sends it (R60, R197) -/

/-- The flags byte of a reply. -/
def flagsByte (c : Condition) : Nat :=
  (if c.remote then 1 else 0) + (if c.threaded then 2 else 0) + (if c.inhibit then 4 else 0) + (if c.servo then 8 else 0)

/-- The first nine bytes of the reply to a command of a kind, with a condition and a position. -/
def replyHead (std : FrameStd) (k : CmdKind) (c : Condition) (pos : Nat) : List Byte :=
  b1 (kindCode k) ++ b1 (modeCode c.mode) ++ b1 (flagsByte c) ++ bTracks c.tracks
    ++ bcdLabel (labelOfPos std pos).1 ++ b1 (labelOfPos std pos).2

/-- The ten characters of a reply. -/
def replyChars (std : FrameStd) (k : CmdKind) (c : Condition) (pos : Nat) : List LineChar :=
  (replyHead std k c pos ++ [checkByte (replyHead std k c pos)]).map (fun b => { byte := b, error := false })

end Sys2Proof.Machine
end

