-- ==== Sys2Proof/WellFormed.lean ====
section
/-! DEFINITION. Well-formed commands: operands that the pins and lines of the ES-6 can present. -/

namespace Sys2Proof

/-- Positions in the longest day, that of 30N (R1). -/
def longestDay : Nat := 64 * 2592000

/-- The bytes 1 to 153 that a store writes may have been cut short after this many (R196). -/
def StoreStop.wf : StoreStop → Bool
  | .body n => n < 153
  | _ => true

/-- A command has operands that its rule admits: a settings load reads bytes 0 to 153 or nothing (R195), the tenth
character ends a reply (R60), a sample is a position (R111), a fetch clocks at least its first byte (R187), and an
unknown request has neither a request code of R197 nor the FETCH code (R188). Bodies are any bytes: R188 tests them. -/
def Instr.wf : Instr → Bool
  | .hardwareReset => true
  | .settingsLoadEnd read _ => read.all (fun b => b.length = 154)
  | .fieldPulse _ _ _ => true
  | .referenceRestored => true
  | .referenceLoss _ _ => true
  | .goodFieldTimeout => true
  | .internalField _ => true
  | .sequencerRoll => true
  | .engageTimeout => true
  | .releaseTimeout => true
  | .postrollEnd => true
  | .statusWrite => true
  | .rippleChunkEnd _ => true
  | .flipFlop => true
  | .gpiPulseEnd _ => true
  | .pollMoment _ => true
  | .deckReply _ chars => chars.length = 10
  | .replyTimeout _ => true
  | .portOffline _ => true
  | .sampleJump _ sample => sample < longestDay
  | .cueTimeout _ => true
  | .wakeEnd _ => true
  | .standbyTimeout _ => true
  | .fetch clocked => 1 ≤ clocked
  | .unknownRequest code _ => code = 0 || (44 < code.toNat && code ≠ 0x80)
  | .readByPosition _ => true
  | .readByKey _ => true
  | .find _ => true
  | .listStatus _ => true
  | .insert _ => true
  | .replace _ => true
  | .trim _ => true
  | .delete _ => true
  | .clearList _ => true
  | .ripple _ => true
  | .portStatus _ => true
  | .transport _ => true
  | .cue _ => true
  | .transportStatus _ => true
  | .claimSet _ => true
  | .claimExclusive _ => true
  | .testSet _ => true
  | .releaseSet _ => true
  | .defineReel _ => true
  | .rename _ => true
  | .retire _ => true
  | .mount _ => true
  | .unmount _ => true
  | .readReel _ => true
  | .findReel _ => true
  | .mountTable _ => true
  | .chase _ => true
  | .chaseStop _ => true
  | .trackStatus _ => true
  | .perform _ => true
  | .preview _ => true
  | .review _ => true
  | .abort _ => true
  | .sequencerStatus _ => true
  | .run _ => true
  | .runStatus _ => true
  | .outputStatus _ => true
  | .takeNotice _ => true
  | .reset _ => true
  | .setSystem _ => true
  | .setProfile _ => true
  | .setGpi _ => true
  | .readSettings _ => true
  | .storeSettings _ => true
  | .storeEnd stop => stop.all StoreStop.wf
  | .selectAsserted => true

end Sys2Proof
end

