-- ==== Sys2Proof/Certificates/Slice0/Obligations.lean ====
section
/-! DEFINITION. The statements about the ES-6, for the provers: what the commands do, and the invariants that every
step keeps. -/

open Sys2Proof Sys2Proof.Machine

/-- A step is `exec` of the front command with the rest of the queue. That an empty queue idles is the model's own choice (log entry 20). -/
def Obligations.StepTakesTheFrontCommand : Prop :=
  ∀ s : State,
    (∀ (c : Instr) (rest : List Instr), s.pending = c :: rest → step s = exec c { s with pending := rest }) ∧
      (s.pending = [] → step s = .next s)

/-- Every command answers a next state whatever the state, and leaves the queue alone. -/
def Obligations.EveryCommandAnswersAndKeepsTheQueue : Prop :=
  ∀ (c : Instr) (s : State), ∃ t, exec c s = .next t ∧ t.pending = s.pending

/-- HARDWARE_RESET leaves every block at the values its chapter gives (R19, R42, R74, R99, R110, R111, R133, R158, R178, R185), and the queue as it was. -/
def Obligations.HardwareResetLeavesEveryBlockAtItsResetValue : Prop :=
  ∀ s : State, ∃ t, exec .hardwareReset s = .next t ∧ t.pending = s.pending ∧ t.inReset = true ∧
    (t.ref.state = .lost ∧ t.ref.goodRun = 0 ∧ t.ref.lastSeen = none ∧ t.ref.lastAccepted = none ∧
      t.ref.parity = .field2) ∧
    (t.list.events = [] ∧ t.list.keyCounter = 1 ∧ t.list.ripple = none) ∧
    (∀ r ∈ t.reels.toList, r = none) ∧
    (∀ p : Port,
      (t.port p).line = .offline ∧ (t.port p).misses = 4 ∧ (t.port p).countdown = 1 ∧ (t.port p).exchange = none ∧
      (t.port p).commands = [] ∧ (t.port p).permission = false ∧ (t.port p).lastReply = none ∧
      t.holder p = .free ∧
      (t.transport p).state = .offline ∧ (t.transport p).speed = 0 ∧ (t.transport p).lastKind = none ∧
      (t.transport p).condition = none ∧ (t.transport p).cue = none ∧ (t.transport p).standbyTimer = 0 ∧
      (t.transport p).wakeCount = 0 ∧ (t.transport p).wakeTaken = false ∧ (t.transport p).motion = none ∧
      (t.tracker p).position = 0 ∧ (t.tracker p).remainder = 0 ∧ (t.tracker p).known = false ∧
      (t.tracker p).age = 255 ∧ (t.tracker p).glitch = 0 ∧ (t.tracker p).settle = 0 ∧
      t.chase p = none) ∧
    (t.seq.phase = .idle ∧ t.seq.mode = none ∧ t.seq.closing = false ∧ t.seq.heldKey = none ∧ t.seq.decks = none ∧
      t.seq.handed = none ∧ t.seq.outcome = none ∧ t.seq.run = none) ∧
    (t.mix.out = { busA := 0, busB := 0, coef := 0, pattern := 0, reverse := false } ∧ t.mix.staged = none ∧
      t.mix.ramp = none) ∧
    ((∀ l : Line, t.gpi.lines.get l = none ∧ gpiPin t l = .released) ∧ t.gpi.armed = none) ∧
    t.notices = [] ∧ t.snapshot = none ∧ t.link.answer = none

/-- The reset state meets every invariant that the statements below say a step keeps. -/
def Obligations.ResetMeetsEveryInvariant : Prop :=
  PollsShort State.reset ∧ NoticesOrdered State.reset ∧ ResetStill State.reset ∧ SequencerWhole State.reset ∧
    TransportsAgree State.reset ∧ CommandsRight State.reset ∧ PositionsOnDay State.reset ∧
    ListRight State.reset.std State.reset.list ∧ HeldWorked State.reset ∧ ReelsRight State.reset ∧
    SettingsRight State.reset.live ∧ OutputsRight State.reset

/-- Every step keeps the pending notices strictly in the taking order, and such a set has at most 29 entries (R190, section 11.3); and it keeps each poll countdown at or below the cadence that then applies (R62). -/
def Obligations.NoticesStayOrderedAndPollsStayShort : Prop :=
  (∀ s t : State, NoticesOrdered s → step s = .next t → NoticesOrdered t ∧ t.notices.length ≤ 29) ∧
  ∀ s t : State, PollsShort s → step s = .next t → PollsShort t

/-- While hardware reset is in progress every block stands as reset left it (R187, R195; that the commands of the other blocks have no effect meanwhile is log entry 6). -/
def Obligations.HardwareResetStaysStill : Prop :=
  ∀ s t : State, ResetStill s → step s = .next t → ResetStill t

/-- Every step keeps the sequencer record whole and in step with the claim table (R93, R134, R153). -/
def Obligations.SequencerAndClaimsStayInStep : Prop :=
  ∀ s t : State, SequencerWhole s → step s = .next t → SequencerWhole t

/-- Every step keeps each transport record in agreement with its line, and the command slots right (R57, R63, R75, R76, R78, R89, R91, R115; log entry 38). -/
def Obligations.TransportsStayInStepWithTheirLines : Prop :=
  ∀ s t : State, TransportsAgree s → CommandsRight s → step s = .next t → TransportsAgree t ∧ CommandsRight t

/-- Every step keeps every position the ES-6 holds on the day of the frame standard in force (R2, R9, R112; log entries 24 and 37 for the positions R2 does not name), so the labels of a notice are valid when it is taken (R7). -/
def Obligations.PositionsStayOnTheDay : Prop :=
  ∀ s t : State, ResetStill s → SequencerWhole s → PositionsOnDay s → step s = .next t → PositionsOnDay t

/-- Every step keeps the list right as it is seen in answers (R20, R23, R24, R25, R44, R50). -/
def Obligations.EditListStaysSortedExclusiveAndInRange : Prop :=
  ∀ s t : State, ResetStill s → ListRight s.std s.list → step s = .next t → ListRight t.std t.list

/-- While a key is held its event stays in the list and its fields other than status, fault class and previewed flag do not change (R55, R51). -/
def Obligations.HeldEventIsFrozen : Prop :=
  ∀ s t : State, ResetStill s → SequencerWhole s → ListRight s.std s.list → HeldWorked s → step s = .next t →
    HeldWorked t ∧ ∀ k, s.seq.heldKey = some k → t.seq.heldKey = some k →
      (findKey t.list k).map frozenFields = (findKey s.list k).map frozenFields

/-- Every step keeps the reel table whole (R22, R100, R101, R104, R105, R193). -/
def Obligations.ReelTableStaysWhole : Prop :=
  ∀ s t : State, ResetStill s → ReelsRight s → step s = .next t → ReelsRight t

/-- Every step keeps the live settings and the snapshot in their ranges (R72, R73, R193, R195), and the buses, the coefficient, the wipe pattern and the running pulses in theirs (R20, R171, R174, R179, R183). -/
def Obligations.SettingsAndOutputsStayInTheirRanges : Prop :=
  (∀ s t : State, SettingsRight s.live → (∀ x ∈ s.snapshot, SettingsRight x) → step s = .next t →
    SettingsRight t.live ∧ ∀ x ∈ t.snapshot, SettingsRight x) ∧
  ∀ s t : State, OutputsRight s → step s = .next t → OutputsRight t

/-- An ENGAGE appears among a port's pending commands only as R143 says: in a record mode, for the held event's tracks, to the recorder, inside the record window, with the recorder's servo and every player LOCKED. -/
def Obligations.EngageIsHandedOnlyByARecordingEditInItsWindow : Prop :=
  ∀ (s t : State) (p : Port) (tracks : TrackSet), SequencerWhole s → ResetStill s → step s = .next t →
    DeckCmd.engage tracks ∈ (t.port p).commands → (∀ other, DeckCmd.engage other ∉ (s.port p).commands) →
    ∃ x, liveEdit s = some x ∧ recordMode x.mode = true ∧ p = x.decks.recorder ∧ tracks = x.event.tracks ∧
      inWindow s x.event = true ∧ (s.transport p).condition.any Condition.servo = true ∧
      (∀ q ∈ players x.decks, ∃ c ∈ t.chase q, c.state = .locked) ∧ t.seq.engaged = true ∧
      t.seq.engageFrame = some t.frame

/-- A valid label becomes its frame number by the formulas of R6, and the number lies on the day. -/
def Obligations.LabelsBecomeFrameNumbersByR6 : Prop :=
  (∀ (l : Label),
    l.inRange .f25 = true →
    frameOf .f25 l = (3600 * l.hh + 60 * l.mm + l.ss) * 25 + l.ff ∧ frameOf .f25 l < 2160000) ∧
  (∀ (l : Label),
    l.inRange .f30N = true →
    frameOf .f30N l = (3600 * l.hh + 60 * l.mm + l.ss) * 30 + l.ff ∧ frameOf .f30N l < 2592000) ∧
  (∀ (l : Label),
    l.inRange .f30D = true →
    l.leftOut .f30D = false →
    frameOf .f30D l + 2 * ((60 * l.hh + l.mm) - (60 * l.hh + l.mm) / 10) = (3600 * l.hh + 60 * l.mm + l.ss) * 30 + l.ff ∧
      frameOf .f30D l < 2589408) ∧
  (∀ (std : FrameStd),
    frameOf std ⟨24, 0, 0, 0⟩ = fday std)

/-- Frame numbers become labels by the formulas of R7; R6 and R7 are inverse to each other over 0..Fday. -/
def Obligations.LabelsAndFrameNumbersAreInverse : Prop :=
  (∀ (std : FrameStd) (n : Nat),
    std ≠ .f30D →
    n ≤ fday std →
    labelOf std n = ⟨n / rate std / 3600, n / rate std / 60 % 60, n / rate std % 60, n % rate std⟩) ∧
  (∀ (n : Nat) (m : Nat),
    n ≤ 2589408 →
    m = (if 2 ≤ n % 17982 then n + 18 * (n / 17982) + 2 * ((n % 17982 - 2) / 1798) else n + 18 * (n / 17982)) →
    labelOf .f30D n = ⟨m / 30 / 3600, m / 30 / 60 % 60, m / 30 % 60, m % 30⟩) ∧
  (∀ (std : FrameStd) (n : Nat),
    n ≤ fday std →
    frameOf std (labelOf std n) = n ∧ (n < fday std → (labelOf std n).inRange std = true ∧ (labelOf std n).leftOut std = false)) ∧
  (∀ (std : FrameStd) (l : Label),
    l.inRange std = true →
    l.leftOut std = false →
    labelOf std (frameOf std l) = l) ∧
  (∀ (std : FrameStd),
    labelOf std (fday std) = ⟨24, 0, 0, 0⟩)

/-- A label from the console is refused exactly when R3 says, and moved exactly when R4 says, to a label that names a frame. The labels used of a request, as its answer holds them, are log entry 18. The difference of R10 is the shortest way round, and the sum of R9 stays on the day and undoes it. -/
def Obligations.ConsoleLabelsAndDifferencesOnTheDay : Prop :=
  (∀ (std : FrameStd) (l : Label),
    (readLabel std false l = none ↔ ¬(l.hh ≤ 23 ∧ l.mm ≤ 59 ∧ l.ss ≤ 59 ∧ l.ff < rate std))) ∧
  (∀ (std : FrameStd) (l : Label) (n : Nat) (moved : Bool),
    readLabel std false l = some (n, moved) →
    n < fday std ∧ (moved = true ↔ std = .f30D ∧ l.ss = 0 ∧ l.ff ≤ 1 ∧ l.mm % 10 ≠ 0) ∧
      labelOf std n = (if moved then { l with ff := 2 } else l)) ∧
  (∀ (std : FrameStd) (l : Label),
    l ≠ ⟨24, 0, 0, 0⟩ →
    readLabel std true l = readLabel std false l) ∧
  (∀ (std : FrameStd) (l : Label) (ls : List (Option Label)),
    bUsedLabels std (some l :: ls) = (if std = .f30D ∧ l.ss = 0 ∧ l.ff ≤ 1 ∧ l.mm % 10 ≠ 0 then
          [1, BitVec.ofNat 8 l.hh, BitVec.ofNat 8 l.mm, 0, 2] else [0, 0, 0, 0, 0]) ++ bUsedLabels std ls ∧
      bUsedLabels std (none :: ls) = [0, 0, 0, 0, 0] ++ bUsedLabels std ls ∧ bUsedLabels std [] = []) ∧
  (∀ (std : FrameStd),
    readLabel std true ⟨24, 0, 0, 0⟩ = some (fday std, false) ∧ readLabel std false ⟨24, 0, 0, 0⟩ = none) ∧
  (∀ (std : FrameStd) (a : Nat) (b : Nat),
    a < dayLength std →
    b < dayLength std →
    -(32 * fday std : Int) ≤ posDiff std a b ∧ posDiff std a b ≤ 32 * (fday std : Int) - 1 ∧ posAdd std b (posDiff std a b) = a ∧
      (0 < posDiff std a b ↔ 0 < (a + dayLength std - b) % dayLength std ∧ (a + dayLength std - b) % dayLength std < 32 * fday std) ∧
      ((a + dayLength std - b) % dayLength std = 32 * fday std → posDiff std a b = -(32 * fday std : Int) ∧ posDiff std b a = -(32 * fday std : Int))) ∧
  (∀ (std : FrameStd) (a : Nat) (d : Int),
    a < dayLength std →
    posAdd std a d < dayLength std ∧ ((posAdd std a d : Int) - ((a : Int) + d)) % (dayLength std : Int) = 0)

/-- FIELD_PULSE while PRESENT (R13): early pulses are discarded, others make one field event and, with field 1, one frame event (R12), and what these do to the blocks (R62, R86, R88, R91, R112, R171, R183). The order of the blocks in a frame is log entry 7. -/
def Obligations.FieldPulsesWhilePresent : Prop :=
  (∀ (s : State) (a : Nat) (time : Nat) (field1 : Bool) (stopFirst : Bool),
    s.inReset = false →
    PollsShort s →
    s.ref.state = .present →
    s.ref.lastAccepted = some a →
    20 * time < 20 * a + 19 * period s.std →
    exec (.fieldPulse time field1 stopFirst) s = .next s) ∧
  (∀ (s : State) (a : Nat) (time : Nat) (field1 : Bool) (stopFirst : Bool),
    s.inReset = false →
    s.ref.state = .present →
    s.ref.lastAccepted = some a →
    20 * a + 19 * period s.std ≤ 20 * time →
    time < a + 2 * period s.std →
    ∃ t, exec (.fieldPulse time field1 stopFirst) s = .next t ∧ t.ref = { s.ref with lastAccepted := some time, parity := if field1 then .field1 else .field2 } ∧
      t.mix.strobes = s.mix.strobes + 1 ∧ t.frame = s.frame + (if field1 then 1 else 0) ∧ EventWork field1 s t ∧
      (s.seq.phase = .idle → t.seq = s.seq ∧ t.holders = s.holders) ∧
      t.pending = s.pending ∧ t.list = s.list ∧ t.reels = s.reels ∧ t.live = s.live ∧ t.snapshot = s.snapshot ∧
      t.stored = s.stored ∧ t.link = s.link ∧ t.inReset = s.inReset) ∧
  (∀ (s : State) (a : Nat) (time : Nat) (u : State),
    s.inReset = false →
    s.ref.state = .present →
    s.ref.lastAccepted = some a →
    20 * a + 19 * period s.std ≤ 20 * time →
    time < a + 2 * period s.std →
    u = gpiField (mixField (indexField { s with ref := { s.ref with lastAccepted := some time, parity := .field1 } })) →
    exec (.fieldPulse time true false) s = .next (shortenPolls (seqFrame (chaseAndReport (transportFrame (trackerFrame { u with
          frame := u.frame + 1, ports := u.ports.mapAll (fun _ d => { d with countdown := d.countdown - 1 }) }))))))

/-- FIELD_PULSE while LOST, GOOD_FIELD_TIMEOUT (R16) and REFERENCE_RESTORED (R17). That the good-field run and the last pulse seen stay after the restoration is log entry 31, and that REFERENCE_RESTORED is a command of its own, without effect while PRESENT, is log entry 9. -/
def Obligations.TheLostReferenceIsMeasuredAndRestored : Prop :=
  (∀ (s : State) (time : Nat) (field1 : Bool) (stopFirst : Bool) (run : Nat),
    s.inReset = false →
    PollsShort s →
    s.ref.state = .lost →
    run = (if s.ref.lastSeen.any (fun u => 20 * u + 19 * period s.std ≤ 20 * time ∧ 20 * time ≤ 20 * u + 21 * period s.std)
      then min 8 (s.ref.goodRun + 1) else 0) →
    exec (.fieldPulse time field1 stopFirst) s = .next (if run = 8 then
          { s with
            ref := { s.ref with goodRun := 8, lastSeen := some time, state := .present, lastAccepted := some time }
            notices := putNotice (.reference true) s.notices }
        else { s with ref := { s.ref with goodRun := run, lastSeen := some time } })) ∧
  (∀ (s : State),
    s.inReset = false →
    PollsShort s →
    s.ref.state = .lost →
    exec .goodFieldTimeout s = .next { s with ref := { s.ref with goodRun := 0, lastSeen := none } }) ∧
  (∀ (s : State) (u : Nat),
    s.inReset = false →
    PollsShort s →
    s.ref.state = .lost →
    s.ref.goodRun = 8 →
    s.ref.lastSeen = some u →
    exec .referenceRestored s = .next { s with
          ref := { s.ref with state := .present, lastAccepted := some u }
          notices := putNotice (.reference true) s.notices }) ∧
  (∀ (s : State),
    PollsShort s →
    s.ref.state = .present →
    exec .goodFieldTimeout s = .next s ∧ exec .referenceRestored s = .next s)

/-- REFERENCE_LOSS (R14) and INTERNAL_FIELD (R15): each makes one field event of the opposite parity, with a frame event when that is field 1, and what the event does to the blocks. What the sequencer makes of the loss is R151; the two orders of R143 are the operand `lossFirst` (log entry 8). -/
def Obligations.LossTimerAndInternalTimebase : Prop :=
  (∀ (s : State) (a : Nat) (lossFirst : Bool) (stopFirst : Bool),
    s.inReset = false →
    s.ref.state = .present →
    s.ref.lastAccepted = some a →
    ∃ t, exec (.referenceLoss lossFirst stopFirst) s = .next t ∧ t.ref = { s.ref with
          state := .lost, goodRun := 0, lastSeen := none, lastField := a + 2 * period s.std, parity := otherParity s.ref.parity } ∧
      Notice.reference false ∈ t.notices ∧ t.mix.strobes = s.mix.strobes + 1 ∧
      t.frame = s.frame + (if s.ref.parity = .field2 then 1 else 0) ∧
      (s.seq.phase = .idle → t.seq = s.seq ∧ t.holders = s.holders ∧ EventWork (s.ref.parity = .field2) s t) ∧
      t.pending = s.pending ∧ t.list = s.list ∧ t.reels = s.reels ∧ t.live = s.live ∧ t.snapshot = s.snapshot ∧
      t.stored = s.stored ∧ t.link = s.link ∧ t.inReset = s.inReset) ∧
  (∀ (s : State) (stopFirst : Bool),
    s.inReset = false →
    s.ref.state = .lost →
    ∃ t, exec (.internalField stopFirst) s = .next t ∧ t.ref = { s.ref with
          lastField := s.ref.lastField + period s.std, parity := otherParity s.ref.parity } ∧
      t.mix.strobes = s.mix.strobes + 1 ∧ t.frame = s.frame + (if s.ref.parity = .field2 then 1 else 0) ∧
      EventWork (s.ref.parity = .field2) s t ∧ (s.seq.phase = .idle → t.seq = s.seq ∧ t.holders = s.holders) ∧
      t.pending = s.pending ∧ t.list = s.list ∧ t.reels = s.reels ∧ t.live = s.live ∧ t.snapshot = s.snapshot ∧
      t.stored = s.stored ∧ t.link = s.link ∧ t.inReset = s.inReset) ∧
  (∀ (s : State) (lossFirst : Bool) (stopFirst : Bool),
    PollsShort s →
    (s.ref.state = .lost → exec (.referenceLoss lossFirst stopFirst) s = .next s) ∧
      (s.ref.state = .present → exec (.internalField stopFirst) s = .next s)) ∧
  (∀ (s : State) (a : Nat) (lossFirst : Bool) (stopFirst : Bool) (x : Edit),
    s.inReset = false →
    s.ref.state = .present →
    s.ref.lastAccepted = some a →
    liveEdit s = some x →
    (lossFirst = true ∨ s.ref.parity = .field1) →
    recordMode x.mode = true →
    s.seq.phase ≠ .postroll →
    ∃ t, exec (.referenceLoss lossFirst stopFirst) s = .next t ∧ t.seq.closing = true ∧ t.seq.phase = s.seq.phase ∧
      t.seq.outcome = some {
        key := x.event.key, mode := x.mode, outcome := .fault .reference, phase := s.seq.phase, early := none
        slip := s.seq.slipped, written := some (if s.seq.engaged then .cut .reference else .failed .reference) } ∧
      t.seq.handed = some (.final {
        key := x.event.key, previewed := false
        status := some (if s.seq.engaged then .cut .reference else .failed .reference) }) ∧
      (s.seq.engaged = true → s.seq.released = false → (t.port x.decks.recorder).permission = false) ∧
      t.list = s.list ∧ t.holders = s.holders) ∧
  (∀ (s : State) (a : Nat) (lossFirst : Bool) (stopFirst : Bool) (x : Edit) (u : State),
    s.inReset = false →
    s.ref.state = .present →
    s.ref.lastAccepted = some a →
    liveEdit s = some x →
    (lossFirst = true ∨ s.ref.parity = .field1) →
    (recordMode x.mode = false ∨ s.seq.phase = .postroll) →
    u = { s with ref := { s.ref with
          state := .lost, goodRun := 0, lastSeen := none, lastField := a + 2 * period s.std } } →
    exec (.referenceLoss lossFirst stopFirst) s = .next (shortenPolls (raise (.reference false)
          (fieldEvent (otherParity s.ref.parity) stopFirst u)))) ∧
  (∀ (s : State) (a : Nat) (stopFirst : Bool) (u : State),
    s.inReset = false →
    s.ref.state = .present →
    s.ref.lastAccepted = some a →
    s.ref.parity = .field2 →
    u = raise (.reference false) (fieldEvent .field1 stopFirst
      { s with ref := { s.ref with
          state := .lost, goodRun := 0, lastSeen := none, lastField := a + 2 * period s.std } }) →
    exec (.referenceLoss false stopFirst) s = .next (shortenPolls (seqReferenceLost u)) ∧
      (∀ x ∈ liveEdit u, if recordMode x.mode = true ∧ u.seq.phase ≠ .postroll then
          (seqReferenceLost u).seq.closing = true ∧
            (seqReferenceLost u).seq.outcome.map EditEnd.outcome = some (.fault .reference) ∧
            (seqReferenceLost u).seq.handed = some (.final {
              key := x.event.key, previewed := false
              status := some (if u.seq.engaged then .cut .reference else .failed .reference) })
        else seqReferenceLost u = u) ∧
      (liveEdit u = none → seqReferenceLost u = u))

/-- SELECT_ASSERTED (R187) and FETCH (R189): the link byte and, when answer ready was set at the beginning, the answer frame of R197; the answer is consumed. A request transfer that begins with working set, or during hardware reset, is discarded whole (R187, R188); UNKNOWN_REQUEST and a body of the wrong length are refused BAD-FRAME (R188). -/
def Obligations.TransfersThatSelectFetchOrReachNoOwner : Prop :=
  (∀ (s : State) (n : Nat) (a : Answer),
    s.inReset = false →
    (transferByte s).ready = true →
    s.link.answer = some a →
    exec (.fetch n) s = .next { s with link := { s.link with
          answer := none, selected := none
          shifted := ((bLink (transferByte s) ++ ([a.code] ++ b1 (statusCode a.status) ++ b1 ((a.reason.map reasonCode).getD 0)
            ++ b2 a.body.length ++ a.body)) ++ List.replicate n 0).take n } }) ∧
  (∀ (s : State) (n : Nat),
    (transferByte s).ready = false →
    exec (.fetch n) s = .next { s with link := { s.link with
          selected := none, shifted := (bLink (transferByte s) ++ List.replicate n 0).take n } }) ∧
  (∀ (s : State),
    exec .selectAsserted s = .next { s with link := { s.link with selected := some (if s.inReset then
          { working := true, ready := false, notice := false }
        else { working := s.link.working, ready := s.link.answer.isSome, notice := !s.notices.isEmpty }) } }) ∧
  (∀ (s : State) (c : Instr) (k : Byte),
    requestCode c = some k →
    (s.inReset = true ∨ (transferByte s).working = true) →
    exec c s = .next { s with link := { s.link with
          selected := none, shifted := bLink (transferByte s) ++ List.replicate (requestBody c).length 0 } }) ∧
  (∀ (s : State) (code : Byte) (body : List Byte),
    Ready s →
    exec (.unknownRequest code body) s = .next { s with link := answered s body (deny code .badFrame) }) ∧
  (∀ (s : State) (c : Instr) (k : Byte) (n : Nat),
    Ready s →
    requestCode c = some k →
    bodyLength c = some n →
    (requestBody c).length ≠ n →
    exec c s = .next { s with link := answered s (requestBody c) (deny k .badFrame) })

/-- The transfer of every well-formed request reads back as that request, and 0x80 as FETCH (R187, R197). -/
def Obligations.EveryRequestTransferSpellsItsCommand : Prop :=
  (∀ (i : Instr) (bytes : List Byte), i.wf = true → transferOf i = some bytes → commandOfTransfer bytes = some i) ∧
    (∀ rest : List Byte, commandOfTransfer (0x80 :: rest) = some (.fetch (rest.length + 1)))

/-- TAKE_NOTICE (R191): NONE on an empty set, else the first entry in the taking order with the number of entries left. -/
def Obligations.TakeNoticeRemovesTheFirstInOrder : Prop :=
  (∀ (s : State),
    Ready s →
    PollsShort s →
    s.notices = [] →
    exec (.takeNotice []) s = .next { s with link := answered s [] (say 0x26 .none []) }) ∧
  (∀ (s : State) (n : Notice) (rest : List Notice),
    Ready s →
    PollsShort s →
    s.notices = n :: rest →
    NoticesOrdered s →
    exec (.takeNotice []) s = .next { s with
          notices := rest
          link := answered s [] (say 0x26 .done
            (b1 (noticeSlot n / 10) ++ b1 (noticeSlot n % 10) ++ bContent s.std n ++ b2 rest.length)) } ∧
        ∀ m ∈ rest, noticeSlot n < noticeSlot m)

/-- RESET (R192) with no ripple in flight: each block's part, and what the reset keeps; and with one (R54): the abort at once, the chunks that follow, and the reset after the last. That the DISENGAGE of R158 is handed before the HALTs of R98, and that the abort is made when RESET is taken, is log entry 27. -/
def Obligations.ConsoleResetDoesEachBlocksPart : Prop :=
  (∀ (s : State),
    Ready s →
    SequencerWhole s →
    TransportsAgree s →
    s.list.ripple = none →
    ∃ t, exec (.reset []) s = .next t ∧ t.seq = Sequencer.idle ∧ t.notices = [] ∧
      t.mix.out = { busA := 0, busB := 0, coef := 0, pattern := 0, reverse := false } ∧ t.mix.staged = none ∧ t.mix.ramp = none ∧
      (∀ l ∈ allLines, t.gpi.lines.get l = none) ∧ t.gpi.armed = none ∧
      (∀ p ∈ allPorts, t.holder p = .free ∧ t.chase p = none ∧ (t.port p).permission = false ∧
        (t.transport p).cue = none ∧ (t.transport p).motion = none ∧ (t.transport p).standbyTimer = 0 ∧
        (t.transport p).condition = (s.transport p).condition ∧
        (t.transport p).wakeCount = (s.transport p).wakeCount ∧ (t.transport p).wakeTaken = (s.transport p).wakeTaken ∧
        t.tracker p = { s.tracker p with
          settle := if movable (s.transport p).state = true ∧ ((s.transport p).lastKind ≠ some .halt ∨ (s.transport p).speed < 0)
            then (s.profile p).settle else (s.tracker p).settle } ∧
        (t.port p).countdown = min (s.port p).countdown (cadence t p) ∧ (t.port p).sent = (s.port p).sent ∧
        (t.port p).line = (s.port p).line ∧ (t.port p).misses = (s.port p).misses ∧
        (t.port p).exchange = (s.port p).exchange ∧ (t.port p).lastReply = (s.port p).lastReply ∧
        (t.transport p).state = (match (s.transport p).state with
          | .offline => .offline | .panel => .panel | .empty => .empty | .standby => .standby | .waking => .waking
          | _ => .idle) ∧
        (movable (s.transport p).state = true → (t.transport p).speed = 0 ∧ (t.transport p).lastKind = some .halt ∧
          DeckCmd.halt ∈ (t.port p).commands) ∧
        (movable (s.transport p).state = false → (t.transport p).speed = (s.transport p).speed ∧
          (t.transport p).lastKind = (s.transport p).lastKind) ∧
        (s.recorder = some p → (s.port p).line = .online → DeckCmd.disengage ∈ (t.port p).commands)) ∧
      t.list.events.map frozenFields = s.list.events.map frozenFields ∧ t.list.keyCounter = s.list.keyCounter ∧
      t.list.ripple = none ∧ (s.seq.phase = .idle → t.list = s.list) ∧
      t.reels = s.reels ∧ t.ref = s.ref ∧ t.frame = s.frame ∧ t.live = s.live ∧
      t.snapshot = s.snapshot ∧ t.stored = s.stored ∧ t.inReset = s.inReset ∧
      t.link = answered s [] (say 0x27 .done [])) ∧
  (∀ (s : State),
    Ready s →
    SequencerWhole s →
    TransportsAgree s →
    s.list.ripple = none →
    s.seq.phase = .idle →
    ∃ t, exec (.reset []) s = .next t ∧ ∀ p ∈ allPorts, (t.port p).commands =
        (if movable (s.transport p).state then enqueue .halt else id)
          ((if s.recorder = some p ∧ (s.port p).line = .online then enqueue .disengage else id) (s.port p).commands)) ∧
  (∀ (s : State),
    Ready s →
    s.list.ripple ≠ none →
    ∃ u, exec (.abort []) s = .next u ∧ exec (.reset []) s = .next { u with link := leftWaiting s 0x27 [] }) ∧
  (∀ (s : State) (r : Ripple) (first : Bool),
    s.inReset = false →
    PollsShort s →
    s.list.ripple = some r →
    s.link.waiting = some { code := 0x27, body := [] } →
    s.seq.handed = none →
    r.frontier + 16 < r.members.length →
    exec (.rippleChunkEnd first) s = .next { s with list := workChunk s.list }) ∧
  (∀ (s : State) (r : Ripple) (first : Bool) (run : Run) (n : RunEnd),
    s.inReset = false →
    PollsShort s →
    s.list.ripple = some r →
    r.members.Nodup →
    (s.list.events.map Event.key).Nodup →
    s.link.waiting = some { code := 0x27, body := [] } →
    s.seq.run = some run →
    some n = (match s.seq.handed, s.seq.outcome, s.seq.copy with
      | some (.final _), some o, some e =>
        some (runReport (.fault .abort) (some e.key) (finishEvent o.written e.recIn e.key run))
      | some (.skip k recIn c), _, _ =>
        some (runReport (.fault .abort) (some k) (finishEvent (some (.skipped c)) recIn k run))
      | _, _, _ => none) →
    r.frontier + 16 < r.members.length →
    ∃ u, exec .statusWrite { s with
          list := { s.list with events := viewEvents s.list, ripple := none }
          seq := { s.seq with run := none } } = .next u ∧
      ∃ t, exec (.rippleChunkEnd first) s = .next t ∧ { t with list := u.list } =
        { u with notices := putNotice (.runEnd n) u.notices } ∧
      t.seq = Sequencer.idle ∧ showsOneChunkOn r t.list u.list) ∧
  (∀ (s : State) (r : Ripple) (first : Bool),
    s.inReset = false →
    PollsShort s →
    SequencerWhole s →
    s.list.ripple = some r →
    s.link.waiting = some { code := 0x27, body := [] } →
    r.members.length ≤ r.frontier + 16 →
    ∃ u, exec (.reset []) { listDone r s with link := linkFreed s.link } = .next u ∧
      exec (.rippleChunkEnd first) s = .next { u with link := waitEnded s.link (some (say 0x27 .done [])) })

/-- SET_SYSTEM (R193) for a body that passes every test: the clamped block, the answer, and a change of standard (R2, R18, R133). That the last stopped frame of a cue, SEEK targets, last replies and the recorder's frame are reduced with the rest is log entry 24; that the frame numbers of pending notices are is log entry 37. -/
def Obligations.SetSystemClampsAndTakesTheBlock : Prop :=
  ∀ (s : State) (body : List Byte) (std : FrameStd) (start : Nat) (moved : Bool) (b : SystemBlock),
    Ready s →
    PollsShort s →
    body.length = 12 →
    stdOf (byteAt body 0) = some std →
    readLabel std false (labelAt body 3) = some (start, moved) →
    byteAt body 11 < 64 →
    recorderCount (byteAt body 11) ≤ 1 →
    b = ({
      std := std, preroll := max 1 (min 15 (byteAt body 1)), postroll := min 10 (byteAt body 2)
      windowStart := start, windowLength := min (fday std - start) (max 1 (long body 7))
      recorder := allPorts.find? (fun p => (byteAt body 11).testBit (portNum p - 1)) } : SystemBlock) →
    (std = s.std ∨ (s.list.events = [] ∧ s.seq.phase = .idle)) →
    (b.recorder = s.recorder ∨ s.seq.phase = .idle) →
    (b.recorder = s.recorder ∨ ((∀ p ∈ s.recorder, s.holder p = .free) ∧ ∀ p ∈ b.recorder, s.holder p = .free ∧ reelOn s p = none)) →
    ∃ t, exec (.setSystem body) s = .next t ∧ t.live = { s.live with system := b } ∧
      t.link = answered s body (say 0x28
        (if moved ∨ b.preroll ≠ byteAt body 1 ∨ b.postroll ≠ byteAt body 2 ∨ b.windowLength ≠ long body 7 then .adjusted else .done)
        (bSystem b)) ∧
      (std = s.std → { t with live := s.live, link := s.link } = s) ∧
      (std ≠ s.std → t.ref = (if s.ref.state = .lost then { s.ref with goodRun := 0, lastSeen := none } else s.ref) ∧
        t.recorderFrame = s.recorderFrame % fday std ∧
        t.notices = s.notices.map (fun n => match n with
          | .cueEnd p r => .cueEnd p { r with lastStop := r.lastStop.map (· % fday std) }
          | .runEnd r => .runEnd { r with start := r.start % fday std, stop := r.stop % fday std }
          | other => other) ∧
        ∀ p ∈ allPorts,
          t.tracker p = { s.tracker p with position := (s.tracker p).position % dayLength std } ∧
          t.chase p = (s.chase p).map (fun c => { c with
            masterAnchor := c.masterAnchor % dayLength std, chaserAnchor := c.chaserAnchor % dayLength std
            cuePoint := c.cuePoint.map (· % dayLength std), lastTarget := c.lastTarget.map (· % dayLength std) }) ∧
          t.transport p = { s.transport p with
            cue := (s.transport p).cue.map (fun c => { c with
              target := c.target % dayLength std, lastStop := c.lastStop.map (· % fday std) })
            motion := (s.transport p).motion.map (fun m => match m with
              | ⟨w, .cue x n⟩ => ⟨w, .cue (x % dayLength std) n⟩
              | other => other) } ∧
          t.port p = { s.port p with
            commands := (s.port p).commands.map (fun c => match c with
              | .seek x => .seek (x % dayLength std)
              | other => other)
            exchange := (s.port p).exchange.map (fun x => match x with
              | ⟨.seek y, n⟩ => ⟨.seek (y % dayLength std), n⟩
              | other => other)
            lastReply := (s.port p).lastReply.map (fun r => { r with position := r.position % dayLength std }) }) ∧
      { t with
        live := s.live, link := s.link, ref := s.ref, recorderFrame := s.recorderFrame, trackers := s.trackers
        chases := s.chases, transports := s.transports, ports := s.ports, notices := s.notices } = s

/-- SET_PROFILE (R73) and SET_GPI (R179, R194). -/
def Obligations.SetProfileAndSetGpiTakeTheirValues : Prop :=
  (∀ (s : State) (body : List Byte) (p : Port) (f : Profile),
    Ready s →
    PollsShort s →
    body.length = 23 →
    portOf (byteAt body 0) = some p →
    f = ({
      plausibility := max 1 (min 15 (byteAt body 1))
      settle := max 0 (min 15 (byteAt body 2)), gain := max 1 (min 255 (byteAt body 3))
      varispeed := max 0 (min 256 (half body 4))
      lockWindow := max 0 (min 32 (byteAt body 6))
      lockCount := max 1 (min 63 (byteAt body 7))
      unlockWindow := max (min 32 (byteAt body 6)) (max 16 (min 255 (byteAt body 8)))
      captureWindow := max 1 (min 60 (byteAt body 9))
      rollLead := max 0 (min 30 (byteAt body 10))
      cueTolerance := max 0 (min 5 (byteAt body 11))
      cueAttempts := max 1 (min 8 (byteAt body 12))
      cueTime := max 10 (min 255 (byteAt body 13))
      standbyDelay := max 0 (min 60 (byteAt body 14))
      wakeSettle := max 0 (min 255 (byteAt body 15))
      engageLead := max 0 (min 7 (byteAt body 16))
      releaseLead := max 0 (min 7 (byteAt body 17))
      motionMin := max 256 (min 1024 (half body 18))
      motionMax := max 1024 (min 2048 (half body 20)) } : Profile) →
    exec (.setProfile body) s = .next { s with
          live := { s.live with profiles := s.live.profiles.set p f }
          link := answered s body (say 0x29 (if f = profileAt body 1 then .done else .adjusted) (bProfile f)) } ∧
        ProfileRight f ∧ (ProfileRight (profileAt body 1) → f = profileAt body 1)) ∧
  (∀ (s : State) (body : List Byte) (l : Line),
    Ready s →
    PollsShort s →
    body.length = 2 →
    lineOf (byteAt body 0) = some l →
    byteAt body 1 < 64 →
    exec (.setGpi body) s = .next { s with
          live := { s.live with gpi := s.live.gpi.set l {
            enable := (byteAt body 1).testBit 0, level := (byteAt body 1).testBit 1, long := (byteAt body 1).testBit 2,
            activeHigh := (byteAt body 1).testBit 3, driven := (byteAt body 1).testBit 4, inPreview := (byteAt body 1).testBit 5 } }
          gpi := (if (byteAt body 1).testBit 0 then s.gpi else { s.gpi with lines := s.gpi.lines.set l none })
          link := answered s body (say 0x2A .done []) }) ∧
  (∀ (s : State) (body : List Byte),
    Ready s →
    PollsShort s →
    body.length = 2 →
    (lineOf (byteAt body 0) = none ∨ 64 ≤ byteAt body 1) →
    exec (.setGpi body) s = .next { s with link := answered s body (deny 0x2A .badField) }) ∧
  (∀ (s : State) (body : List Byte),
    Ready s →
    PollsShort s →
    body.length = 23 →
    portOf (byteAt body 0) = none →
    exec (.setProfile body) s = .next { s with link := answered s body (deny 0x29 .badField) })

/-- STORE_SETTINGS and STORE_END (R196); SETTINGS_LOAD_END (R195): the defaults or the corrected image, the SETTINGS notice, and the end of hardware reset. That an image shorter than 154 bytes counts as absent is log entry 23, that STORE_END does nothing without a store log entry 9. -/
def Obligations.StoresAndTheSettingsLoadEndWithANotice : Prop :=
  (∀ (s : State),
    Ready s →
    PollsShort s →
    s.snapshot = none →
    exec (.storeSettings []) s = .next { s with snapshot := some s.live, link := answered s [] (say 0x2C .started []) }) ∧
  (∀ (s : State),
    Ready s →
    PollsShort s →
    s.snapshot ≠ none →
    exec (.storeSettings []) s = .next { s with link := answered s [] (deny 0x2C .busy) }) ∧
  (∀ (s : State) (x : Settings),
    s.inReset = false →
    PollsShort s →
    s.snapshot = some x →
    exec (.storeEnd none) s = .next { s with
          snapshot := none, notices := putNotice (.settings .stored) s.notices
          stored := (0, 0) :: (addressed 1 (imageBody x) ++ [(0, 0x5C)]) }) ∧
  (∀ (s : State) (x : Settings) (stop : StoreStop),
    s.inReset = false →
    PollsShort s →
    s.snapshot = some x →
    ∃ t, exec (.storeEnd (some stop)) s = .next t ∧ { t with stored := s.stored } = { s with
          snapshot := none, notices := putNotice (.settings .storeFailed) s.notices } ∧
      ((0, 0x5C) ∈ t.stored ↔ stop = .signatureRead)) ∧
  (∀ (s : State) (stop : Option StoreStop),
    PollsShort s →
    s.snapshot = none →
    exec (.storeEnd stop) s = .next s) ∧
  (∀ (s : State) (read : Option (List Byte)) (time : Nat),
    s.inReset = true →
    (∀ image ∈ read, image.length = 154 ∧ ¬(image[0]? = some 0x5C ∧ image[1]? = some 1)) →
    exec (.settingsLoadEnd read time) s = .next { s with
          inReset := false, live := Settings.defaults, notices := putNotice (.settings .defaults) s.notices
          ref := { s.ref with lastField := time } }) ∧
  (∀ (s : State) (image : List Byte) (time : Nat),
    s.inReset = true →
    image.length = 154 →
    image[0]? = some 0x5C →
    image[1]? = some 1 →
    exec (.settingsLoadEnd (some image) time) s = .next { s with
          inReset := false, live := loadImage image, notices := putNotice (.settings .loaded) s.notices
          ref := { s.ref with lastField := time } } ∧ SettingsRight (loadImage image)) ∧
  (∀ (s : State) (read : Option (List Byte)) (time : Nat),
    s.inReset = false →
    exec (.settingsLoadEnd read time) s = .next s)

/-- The image a store writes from settings in their ranges is 154 bytes long and loads as those settings (R195 to R197). -/
def Obligations.AStoredImageLoadsTheSameSettings : Prop :=
  ∀ x : Settings, SettingsRight x →
    (0x5C :: imageBody x).length = 154 ∧ loadOutcome (some (0x5C :: imageBody x)) = (x, .loaded)

/-- READ_BY_POSITION (R29), READ_BY_KEY (R30), FIND (R4, R31) and LIST_STATUS (R25, R32) with no ripple in flight. Where the label used stands in the answer of FIND is log entry 18. Requests that reach the list unit while a chunk of a ripple is in progress wait for its end (R49): the answer ready flag stays clear and working set. -/
def Obligations.LookupsAnswerAndListRequestsWaitForAChunk : Prop :=
  (∀ (s : State) (body : List Byte) (e : Event),
    Ready s →
    PollsShort s →
    s.list.ripple = none →
    body.length = 2 →
    1 ≤ half body 0 →
    s.list.events[half body 0 - 1]? = some e →
    exec (.readByPosition body) s = .next { s with
          link := answered s body
            (say 0x01 .done (bEvent s.std e ++ b2 (half body 0) ++ b2 s.list.events.length)) }) ∧
  (∀ (s : State) (body : List Byte),
    Ready s →
    PollsShort s →
    s.list.ripple = none →
    body.length = 2 →
    (half body 0 = 0 ∨ s.list.events.length < half body 0) →
    exec (.readByPosition body) s = .next { s with link := answered s body {
          code := 0x01, status := .refused, reason := some .notFound
          body := List.replicate 33 0 ++ b2 s.list.events.length } }) ∧
  (∀ (s : State) (body : List Byte) (i : Nat) (e : Event),
    Ready s →
    PollsShort s →
    s.list.ripple = none →
    body.length = 2 →
    (s.list.events.map Event.key).Nodup →
    s.list.events[i]? = some e →
    e.key = half body 0 →
    exec (.readByKey body) s = .next { s with
          link := answered s body
            (say 0x02 .done (bEvent s.std e ++ b2 (i + 1) ++ b2 s.list.events.length)) }) ∧
  (∀ (s : State) (body : List Byte),
    Ready s →
    PollsShort s →
    s.list.ripple = none →
    body.length = 2 →
    (∀ e ∈ s.list.events, e.key ≠ half body 0) →
    exec (.readByKey body) s = .next { s with link := answered s body (deny 0x02 .notFound) }) ∧
  (∀ (s : State) (body : List Byte) (f : Nat) (moved : Bool) (k : TrackSet) (i : Nat) (e : Event),
    Ready s →
    PollsShort s →
    s.list.ripple = none →
    body.length = 5 →
    (s.list.events.map Event.key).Nodup →
    readLabel s.std false (labelAt body 0) = some (f, moved) →
    trackSetOf (byteAt body 4) = some k →
    s.list.events[i]? = some e →
    e.recIn ≤ f ∧ f < e.recOut ∧ e.tracks &&& k ≠ 0 →
    (∀ x ∈ s.list.events.take i, ¬(x.recIn ≤ f ∧ f < x.recOut ∧ x.tracks &&& k ≠ 0)) →
    exec (.find body) s = .next { s with
          link := answered s body
            (say 0x03 (if moved then .adjusted else .done)
              (bEvent s.std e ++ b2 (i + 1) ++ bOpt 4 bLabel (if moved then some { labelAt body 0 with ff := 2 } else none))) }) ∧
  (∀ (s : State) (body : List Byte) (x : Reason),
    Ready s →
    PollsShort s →
    s.list.ripple = none →
    body.length = 5 →
    some x = (match readLabel s.std false (labelAt body 0), trackSetOf (byteAt body 4) with
      | none, _ => some .badTime
      | some _, none => some .badField
      | some f, some k => if ∃ e ∈ s.list.events, e.recIn ≤ f.1 ∧ f.1 < e.recOut ∧ e.tracks &&& k ≠ 0 then none else some .notFound) →
    exec (.find body) s = .next { s with link := answered s body (deny 0x03 x) }) ∧
  (∀ (s : State) (j : Nat),
    Ready s →
    PollsShort s →
    s.list.ripple = none →
    j < 4095 →
    1 ≤ s.list.keyCounter ∧ s.list.keyCounter ≤ 4095 →
    (∀ m < j, keyUsed s.list ((s.list.keyCounter - 1 + m) % 4095 + 1) = true) →
    keyUsed s.list ((s.list.keyCounter - 1 + j) % 4095 + 1) = false →
    exec (.listStatus []) s = .next { s with
          link := answered s []
            (say 0x04 .done (b2 s.list.events.length ++ b2 ((s.list.keyCounter - 1 + j) % 4095 + 1) ++ [0])) }) ∧
  (∀ (s : State) (c : Instr) (k : Byte),
    Ready s →
    s.list.ripple ≠ none →
    requestCode c = some k →
    listRequestFits c = true →
    exec c s = .next { s with link := leftWaiting s k (requestBody c) }) ∧
  (∀ (s : State) (i : Nat) (r : Reel),
    Ready s →
    s.list.ripple ≠ none →
    i < 64 →
    s.reels[i]? = some (some r) →
    (∀ p ∈ r.mounted, s.holder p ≠ .sequencer) →
    exec (.retire (b1 (i + 1))) s = .next { s with link := leftWaiting s 0x15 (b1 (i + 1)) } ∧
      exec (.readReel (b1 (i + 1))) s = .next { s with link := leftWaiting s 0x18 (b1 (i + 1)) }) ∧
  (∀ (s : State) (body : List Byte),
    Ready s →
    s.list.ripple ≠ none →
    s.seq.phase = .idle →
    body.length = 2 →
    exec (.perform body) s = .next { s with link := leftWaiting s 0x1E body } ∧
      exec (.preview body) s = .next { s with link := leftWaiting s 0x1F body } ∧
      exec (.review body) s = .next { s with link := leftWaiting s 0x20 body })

/-- INSERT (R35), with or without its ripple flag (R47), for a record that passes the tests of R34 and R45 and a list with different keys. That presence bits 4 to 7 of a record and an absent from-source label are not tested is log entry 16; the layout of the labels used (R4) is log entry 18. -/
def Obligations.InsertAddsOneEventInItsPlace : Prop :=
  ∀ (s : State) (body : List Byte) (moved : Bool) (t : EventTimes) (e : Event) (ms : List Event) (rest : List Event),
    Ready s →
    PollsShort s →
    s.list.ripple = none →
    (s.list.events.map Event.key).Nodup →
    recordFits 0 1 body = true →
    ms = (if flagAt body (eventLength body 0) then s.list.events.filter (fun f => t.recIn ≤ f.recIn) else []) →
    rest = (if flagAt body (eventLength body 0) then s.list.events.filter (fun f => f.recIn < t.recIn) else s.list.events) →
    Accepted s (rawEventAt body 0) moved t e (rest ++ ms.map (shiftEvent ((t.recOut : Int) - t.recIn))) →
    ShiftAllowed s.std ((t.recOut : Int) - t.recIn) ms rest →
    (∀ k ∈ s.seq.heldKey, ∀ f ∈ ms, f.key ≠ k) →
    s.list.events.length < 511 →
    1 ≤ s.list.keyCounter ∧ s.list.keyCounter ≤ 4095 →
    ∃ u, exec (.insert body) s = .next u ∧ { u with list := s.list, link := s.link } = s ∧
      (viewEvents u.list).Perm ({ e with key := nextKey s.list } :: (rest ++ ms.map (shiftEvent ((t.recOut : Int) - t.recIn)))) ∧
      (viewEvents u.list).Pairwise (fun a b => comesBefore a b = true) ∧
      u.list.events.Perm ({ e with key := nextKey s.list } :: s.list.events) ∧
      u.list.keyCounter = nextKey s.list % 4095 + 1 ∧ u.list.ripple = rippleOf ((t.recOut : Int) - t.recIn) ms ∧
      (∀ n < (viewEvents u.list).length, (viewEvents u.list)[n]? = some { e with key := nextKey s.list } →
        u.link = answered s body (say 0x05 (if moved then .adjusted else .done)
          (b2 (nextKey s.list) ++ b2 (n + 1) ++ (if ms = [] then [] else b2 ms.length)
            ++ bUsedLabels s.std (rawEventAt body 0).labels)))

/-- REPLACE (R36) and TRIM (R37) with no ripple in flight, and what TRIM moves at each of the four points (R38, R39). That presence bits 4 to 7 of a record and an absent from-source label are not tested is log entry 16; the layout of the labels used is log entry 18. -/
def Obligations.ReplaceAndTrimChangeOneEvent : Prop :=
  (∀ (s : State) (body : List Byte) (moved : Bool) (t : EventTimes) (e : Event) (rest : List Event),
    Ready s →
    PollsShort s →
    s.list.ripple = none →
    (s.list.events.map Event.key).Nodup →
    recordFits 2 0 body = true →
    rest = s.list.events.filter (fun f => f.key ≠ half body 0) →
    keyUsed s.list (half body 0) = true →
    s.seq.heldKey ≠ some (half body 0) →
    Accepted s (rawEventAt body 2) moved t e rest →
    ∃ u, exec (.replace body) s = .next u ∧ { u with list := { u.list with events := s.list.events }, link := s.link } = s ∧
      u.list.events.Perm ({ e with key := half body 0 } :: rest) ∧ u.list.events.Pairwise (fun a b => comesBefore a b = true) ∧
      ∀ n < u.list.events.length, u.list.events[n]? = some { e with key := half body 0 } →
        u.link = answered s body (say 0x06 (if moved then .adjusted else .done) (b2 (half body 0) ++ b2 (n + 1)
          ++ bUsedLabels s.std (rawEventAt body 2).labels))) ∧
  (∀ (s : State) (body : List Byte) (e : Event) (e1 : Event) (rest : List Event),
    Ready s →
    PollsShort s →
    s.list.ripple = none →
    (s.list.events.map Event.key).Nodup →
    body.length = 7 →
    rest = s.list.events.filter (fun f => f.key ≠ half body 0) →
    findKey s.list (half body 0) = some e →
    s.seq.heldKey ≠ some (half body 0) →
    byteAt body 2 ≤ 3 ∧ -2591999 ≤ signedLong body 3 ∧ signedLong body 3 ≤ 2591999 →
    (byteAt body 2 = 3 → (fromSource e).isSome) →
    0 ≤ (trimRange (byteAt body 2) (signedLong body 3) e).1 ∧
      (trimRange (byteAt body 2) (signedLong body 3) e).1 < (trimRange (byteAt body 2) (signedLong body 3) e).2 ∧
      (trimRange (byteAt body 2) (signedLong body 3) e).2 ≤ fday s.std →
    e1 = renew (trimEvent s.std (byteAt body 2) (signedLong body 3) e) →
    (∀ d ∈ durationOf e1, d ≤ e1.recOut - e1.recIn) →
    (∀ f ∈ rest, conflicts e1 f = false) →
    ∃ u, exec (.trim body) s = .next u ∧ { u with list := { u.list with events := s.list.events }, link := s.link } = s ∧
      u.list.events.Perm (e1 :: rest) ∧ u.list.events.Pairwise (fun a b => comesBefore a b = true) ∧
      ∀ n < u.list.events.length, u.list.events[n]? = some e1 →
        u.link = answered s body (say 0x07 .done (bEvent s.std e1 ++ b2 (n + 1)))) ∧
  (∀ (std : FrameStd) (point : Nat) (d : Int) (e : Event),
    point ≤ 3 →
    trimRange point d e = (if point = 0 then (e.recIn + d, (e.recOut : Int))
        else if point = 1 then ((e.recIn : Int), e.recOut + d) else ((e.recIn : Int), (e.recOut : Int))) ∧
      trimEvent std point d e = { trimEvent std point d e with
        key := e.key, tracks := e.tracks, rate := e.rate, triggers := e.triggers, status := e.status
        previewed := e.previewed, recIn := (trimRange point d e).1.toNat, recOut := (trimRange point d e).2.toNat } ∧
      durationOf (trimEvent std point d e) = durationOf e ∧ wipeOf (trimEvent std point d e) = wipeOf e) ∧
  (∀ (std : FrameStd) (point : Nat) (d : Int) (e : Event),
    point ≤ 3 →
    (trimEvent std point d e).toSrc = { e.toSrc with start :=
        if point = 0 then ((e.toSrc.start + Int.tdiv (d * (e.rate.getD 1024 : Nat)) 1024) % (fday std : Int)).toNat
        else if point = 2 then ((e.toSrc.start + d) % (fday std : Int)).toNat else e.toSrc.start } ∧
      fromSource (trimEvent std point d e) = (fromSource e).map (fun f => { f with start :=
        if point = 0 ∨ point = 3 then ((f.start + d) % (fday std : Int)).toNat else f.start }))

/-- DELETE without (R40) and with its ripple flag (R48), CLEAR_LIST (R41) and RIPPLE (R46) with no ripple in flight. -/
def Obligations.DeleteClearListAndRippleChangeTheList : Prop :=
  (∀ (s : State) (body : List Byte),
    Ready s →
    PollsShort s →
    s.list.ripple = none →
    (s.list.events.map Event.key).Nodup →
    s.list.events.Pairwise (fun a b => comesBefore a b = true) →
    body.length = 3 →
    flagAt body 2 = false →
    keyUsed s.list (half body 0) = true →
    s.seq.heldKey ≠ some (half body 0) →
    exec (.delete body) s = .next { s with
          list := { s.list with events := s.list.events.filter (fun f => f.key ≠ half body 0) }
          link := answered s body (say 0x08 .done (b2 (half body 0) ++ b2 (s.list.events.length - 1))) }) ∧
  (∀ (s : State),
    Ready s →
    PollsShort s →
    s.list.ripple = none →
    s.seq.phase = .idle →
    s.seq.heldKey = none →
    exec (.clearList []) s = .next { s with
          list := { events := [], keyCounter := 1, ripple := none }
          link := answered s [] (say 0x09 .done []) }) ∧
  (∀ (s : State) (body : List Byte) (ms : List Event) (rest : List Event),
    Ready s →
    PollsShort s →
    s.list.ripple = none →
    (s.list.events.map Event.key).Nodup →
    s.list.events.Pairwise (fun a b => comesBefore a b = true) →
    body.length = 6 →
    1 ≤ half body 0 ∧ half body 0 ≤ s.list.events.length →
    ms = s.list.events.drop (half body 0 - 1) →
    rest = s.list.events.take (half body 0 - 1) →
    -2591999 ≤ signedLong body 2 ∧ signedLong body 2 ≤ 2591999 →
    (∀ k ∈ s.seq.heldKey, ∀ f ∈ ms, f.key ≠ k) →
    ShiftAllowed s.std (signedLong body 2) ms rest →
    ∃ u, exec (.ripple body) s = .next u ∧ { u with list := s.list, link := s.link } = s ∧ u.list.events.Perm s.list.events ∧
      u.list.keyCounter = s.list.keyCounter ∧ u.list.ripple = rippleOf (signedLong body 2) ms ∧
      (viewEvents u.list).Perm (rest ++ ms.map (shiftEvent (signedLong body 2))) ∧
      (viewEvents u.list).Pairwise (fun a b => comesBefore a b = true) ∧
      u.link = answered s body (say 0x0A .done
        (b2 (half body 0) ++ s4 (signedLong body 2) ++ b2 ms.length ++ b2 s.list.events.length))) ∧
  (∀ (s : State) (body : List Byte) (e : Event) (ms : List Event) (rest : List Event),
    Ready s →
    PollsShort s →
    s.list.ripple = none →
    (s.list.events.map Event.key).Nodup →
    s.list.events.Pairwise (fun a b => comesBefore a b = true) →
    body.length = 3 →
    flagAt body 2 = true →
    findKey s.list (half body 0) = some e →
    s.seq.heldKey ≠ some (half body 0) →
    ms = s.list.events.filter (fun f => comesBefore e f) →
    rest = s.list.events.filter (fun f => comesBefore f e) →
    (∀ k ∈ s.seq.heldKey, ∀ f ∈ ms, f.key ≠ k) →
    ShiftAllowed s.std ((e.recIn : Int) - e.recOut) ms rest →
    ∃ u, exec (.delete body) s = .next u ∧ { u with list := s.list, link := s.link } = s ∧
      u.list.events.Perm (s.list.events.filter (fun f => f.key ≠ half body 0)) ∧
      u.list.keyCounter = s.list.keyCounter ∧ u.list.ripple = rippleOf ((e.recIn : Int) - e.recOut) ms ∧
      (viewEvents u.list).Perm (rest ++ ms.map (shiftEvent ((e.recIn : Int) - e.recOut))) ∧
      (viewEvents u.list).Pairwise (fun a b => comesBefore a b = true) ∧
      u.link = answered s body (say 0x08 .done
        (b2 (half body 0) ++ b2 (s.list.events.length - 1) ++ b2 ms.length)))

/-- RIPPLE_CHUNK_END (R49, R53): the chunk worked, the view of R50 kept, a handed write and a waiting request taken (R51, R52, R104). That a chunk moves stored times and not places is log entry 32, the order of the two takings log entry 8, what a waiting RETIRE or RUN still tests log entry 34, and that the command has no effect without a ripple log entry 9. -/
def Obligations.RippleChunkEndWorksSixteenMembers : Prop :=
  (∀ (s : State) (r : Ripple) (first : Bool) (chunk : List Nat),
    s.inReset = false →
    PollsShort s →
    s.list.ripple = some r →
    s.link.waiting = none →
    s.seq.handed = none →
    chunk = (r.members.drop r.frontier).take 16 →
    exec (.rippleChunkEnd first) s = .next { s with
          list := { s.list with
            events := s.list.events.map (fun e => if e.key ∈ chunk ∧ e.key ∉ r.ahead then shiftEvent r.delta e else e)
            ripple := if r.members.length ≤ r.frontier + 16 then none
              else some { r with frontier := r.frontier + 16, ahead := r.ahead.filter (fun k => k ∉ chunk) } }
          notices := if r.members.length ≤ r.frontier + 16 then putNotice .rippleEnd s.notices else s.notices }) ∧
  (∀ (s : State) (r : Ripple) (first : Bool),
    s.inReset = false →
    s.list.ripple = some r →
    s.link.waiting = none →
    s.seq.handed = none →
    r.members.Nodup →
    ∃ t, exec (.rippleChunkEnd first) s = .next t ∧ viewEvents t.list = viewEvents s.list) ∧
  (∀ (s : State) (r : Ripple) (first : Bool) (body : List Byte) (e : Event),
    s.inReset = false →
    s.list.ripple = some r →
    s.link.waiting = some { code := 0x01, body := body } →
    s.seq.handed = none →
    r.members.Nodup →
    1 ≤ half body 0 →
    (viewEvents s.list)[half body 0 - 1]? = some e →
    ∃ t, exec (.rippleChunkEnd first) s = .next t ∧ t.link = { s.link with
          working := false, waiting := none
          answer := some (say 0x01 .done (bEvent s.std e ++ b2 (half body 0) ++ b2 s.list.events.length)) }) ∧
  (∀ (s : State) (r : Ripple) (first : Bool) (w : Waiting),
    s.inReset = false →
    PollsShort s →
    s.list.ripple = some r →
    s.link.waiting = some w →
    w.code ∈ [0x04, 0x05, 0x06, 0x07, 0x08, 0x09, 0x0A] →
    r.frontier + 16 < r.members.length →
    ∃ u, exec (.rippleChunkEnd first) { s with link := { s.link with waiting := none } } = .next u ∧
      exec (.rippleChunkEnd first) s = .next { u with
          link := waitEnded s.link
            (if w.code = 0x04 then some (say 0x04 .done (b2 s.list.events.length ++ b2 (nextKey s.list) ++ b1 1))
            else if w.code = 0x05 ∧ readTimes s.std (rawEventAt w.body 0) = none then some (deny 0x05 .badTime)
            else if w.code = 0x06 ∧ readTimes s.std (rawEventAt w.body 2) = none then some (deny 0x06 .badTime)
            else some (deny w.code .busy)) }) ∧
  (∀ (s : State) (r : Ripple) (first : Bool) (h : Handed),
    s.inReset = false →
    PollsShort s →
    s.list.ripple = some r →
    r.members.Nodup →
    (s.list.events.map Event.key).Nodup →
    s.seq.handed = some h →
    (s.link.waiting = none ∨
      ((∃ w ∈ s.link.waiting, w.code = 0x27) ∧ s.seq.run = none ∧ r.frontier + 16 < r.members.length)) →
    ∃ u, exec .statusWrite (listDone r s) = .next u ∧
      ∃ t, exec (.rippleChunkEnd first) s = .next t ∧ { t with list := u.list } = u ∧
      showsOneChunkOn r t.list u.list ∧
      (∀ q ∈ t.list.ripple, handedKey h ∈ q.members.drop q.frontier → handedKey h ∈ q.ahead)) ∧
  (∀ (s : State) (r : Ripple) (first : Bool) (w : Waiting) (c : Instr),
    s.inReset = false →
    PollsShort s →
    s.list.ripple = some r →
    r.members.Nodup →
    (s.list.events.map Event.key).Nodup →
    s.link.waiting = some w →
    requestCode c = some w.code →
    requestBody c = w.body →
    c.wf = true →
    w.code ∈ [0x01, 0x02, 0x03, 0x18, 0x19, 0x1E, 0x1F, 0x20, 0x23] →
    (bodyLength c = some w.body.length ∨ (w.code = 0x19 ∧ nameFits w.body 0 = true)) →
    (w.code = 0x23 → s.ref.state = .present ∧ s.recorder.isSome) →
    ∃ v, exec (if first then .statusWrite else c) { listDone r s with link := linkFreed s.link } = .next v ∧
      ∃ u, exec (if first then c else .statusWrite) v = .next u ∧
      ∃ t, exec (.rippleChunkEnd first) s = .next t ∧ { t with list := u.list, link := u.link } = u ∧
      t.link = waitEnded s.link u.link.answer ∧
      showsOneChunkOn r t.list u.list ∧
      (s.seq.heldKey = none → ∀ k ∈ t.seq.heldKey, ∀ q ∈ t.list.ripple, unworked q k = false)) ∧
  (∀ (s : State) (r : Ripple) (first : Bool) (w : Waiting) (c : Instr),
    s.inReset = false →
    PollsShort s →
    s.list.ripple = some r →
    s.link.waiting = some w →
    requestCode c = some w.code →
    requestBody c = w.body →
    listRequestFits c = true →
    r.members.length ≤ r.frontier + 16 →
    ∃ v, exec (if first then .statusWrite else c) { listDone r s with link := linkFreed s.link } = .next v ∧
      (v.list.ripple = none ∨ s.seq.handed = none →
      ∃ u, exec (if first then c else .statusWrite) v = .next u ∧
      exec (.rippleChunkEnd first) s = .next { u with link := waitEnded s.link u.link.answer })) ∧
  (∀ (s : State) (r : Ripple) (first : Bool) (w : Waiting) (i : Nat) (x : Reel),
    s.inReset = false →
    s.list.ripple = some r →
    s.link.waiting = some w →
    w = { code := 0x15, body := b1 (i + 1) } →
    i < 64 →
    s.reels[i]? = some (some x) →
    ∃ u, exec (.rippleChunkEnd first) { s with link := { s.link with waiting := none } } = .next u ∧
      exec (.rippleChunkEnd first) s = .next (
        if ∃ e ∈ s.list.events, e.toSrc.reel = i + 1 ∨ ∃ f ∈ fromSource e, f.reel = i + 1 then
          { u with link := waitEnded s.link (some (deny 0x15 .inUse)) }
        else { u with
          reels := s.reels.setIfInBounds i none
          link := waitEnded s.link (some (say 0x15 .done (b1 (i + 1) ++ bOpt 1 bPort x.mounted))) })) ∧
  (∀ (s : State) (first : Bool),
    PollsShort s →
    s.list.ripple = none →
    exec (.rippleChunkEnd first) s = .next s)

/-- STATUS_WRITE (R27, R153) for an edit outside a run; a run goes on by a statement of its own. That it changes nothing with no write handed is the model's own choice (log entry 9). -/
def Obligations.StatusWritesAreTakenByTheirRule : Prop :=
  (∀ (s : State) (w : StatusWrite) (o : EditEnd) (d : DeckSet),
    s.inReset = false →
    PollsShort s →
    s.list.ripple = none →
    s.seq.handed = some (.final w) →
    s.seq.outcome = some o →
    s.seq.decks = some d →
    s.seq.run = none →
    ∃ t, exec .statusWrite s = .next t ∧ t = shortenPolls { s with
          list := { s.list with events := s.list.events.map (fun e => if e.key ≠ w.key then e else { e with
            status := (match w.status with
              | some .done => if s.seq.heldKey = some w.key then .done else e.status
              | some .slipped => if s.seq.heldKey = some w.key then .slipped else e.status
              | some (.cut c) => .cut c
              | some (.failed c) => .failed c
              | some (.skipped c) => .skipped c
              | _ => e.status)
            previewed := e.previewed || (w.previewed && s.seq.heldKey = some w.key) }) }
          holders := s.holders.mapAll (fun p h => if p ∈ deckPorts d then .free else h)
          seq := Sequencer.idle
          notices := putNotice (.editEnd o) s.notices }) ∧
  (∀ (s : State),
    PollsShort s →
    s.seq.handed = none →
    exec .statusWrite s = .next s)

/-- DEFINE_REEL by the table of R102. -/
def Obligations.DefineReelTakesTheLowestFreeEntry : Prop :=
  (∀ (s : State) (name : List Byte) (i : Nat),
    Ready s →
    PollsShort s →
    nameValid name = true →
    (∀ x ∈ s.reels.toList.reduceOption, x.name ≠ name) →
    i < 64 →
    s.reels[i]? = some none →
    (∀ j < i, s.reels[j]? ≠ some none) →
    exec (.defineReel (b1 name.length ++ name)) s = .next { s with
          reels := s.reels.setIfInBounds i (some { name := name, mounted := none })
          link := answered s (b1 name.length ++ name) (say 0x13 .done (b1 (i + 1))) }) ∧
  (∀ (s : State) (name : List Byte) (x : Reason),
    Ready s →
    PollsShort s →
    name.length < 256 →
    some x = (if nameValid name = false then some .badField
      else if ∃ r ∈ s.reels.toList.reduceOption, r.name = name then some .inUse
      else if none ∈ s.reels.toList then none else some .full) →
    exec (.defineReel (b1 name.length ++ name)) s = .next { s with link := answered s (b1 name.length ++ name) (deny 0x13 x) })

/-- RENAME (R103), RETIRE (R104), MOUNT (R105) and UNMOUNT (R106). -/
def Obligations.RenameRetireMountAndUnmountChangeTheTable : Prop :=
  (∀ (s : State) (i : Nat) (r : Reel) (name : List Byte),
    Ready s →
    PollsShort s →
    i < 64 →
    s.reels[i]? = some (some r) →
    nameValid name = true →
    (∀ j ∈ List.range 64, j ≠ i → (s.reels[j]?.join).map Reel.name ≠ some name) →
    exec (.rename (b1 (i + 1) ++ (b1 name.length ++ name))) s = .next { s with
          reels := s.reels.setIfInBounds i (some { r with name := name })
          link := answered s (b1 (i + 1) ++ (b1 name.length ++ name))
            (say 0x14 .done (b1 (i + 1) ++ (b1 name.length ++ name) ++ bOpt 1 bPort r.mounted)) }) ∧
  (∀ (s : State) (i : Nat) (r : Reel),
    Ready s →
    PollsShort s →
    s.list.ripple = none →
    i < 64 →
    s.reels[i]? = some (some r) →
    (∀ p ∈ r.mounted, s.holder p ≠ .sequencer) →
    (∀ e ∈ s.list.events, e.toSrc.reel ≠ i + 1 ∧ ∀ f ∈ fromSource e, f.reel ≠ i + 1) →
    exec (.retire (b1 (i + 1))) s = .next { s with
          reels := s.reels.setIfInBounds i none
          link := answered s (b1 (i + 1)) (say 0x15 .done (b1 (i + 1) ++ bOpt 1 bPort r.mounted)) }) ∧
  (∀ (s : State) (i : Nat) (r : Reel),
    Ready s →
    PollsShort s →
    s.list.ripple = none →
    i < 64 →
    s.reels[i]? = some (some r) →
    (∀ p ∈ r.mounted, s.holder p ≠ .sequencer) →
    (∃ e ∈ s.list.events, e.toSrc.reel = i + 1 ∨ ∃ f ∈ fromSource e, f.reel = i + 1) →
    exec (.retire (b1 (i + 1))) s = .next { s with link := answered s (b1 (i + 1)) (deny 0x15 .inUse) }) ∧
  (∀ (s : State) (i : Nat) (r : Reel) (p : Port),
    Ready s →
    PollsShort s →
    i < 64 →
    s.reels[i]? = some (some r) →
    s.reels.toList.countP (fun x => x.any (fun y => y.mounted = some p)) ≤ 1 →
    s.recorder ≠ some p →
    s.holder p ≠ .sequencer →
    (∀ q ∈ r.mounted, s.holder q ≠ .sequencer) →
    exec (.mount (b1 (i + 1) ++ bPort p)) s = .next { s with
          reels := s.reels.mapIdx (fun k x => if k = i then some { r with mounted := some p }
            else x.map (fun y => if y.mounted = some p then { y with mounted := none } else y))
          link := answered s (b1 (i + 1) ++ bPort p) (say 0x16 .done (b1 (i + 1) ++ bPort p
            ++ bOpt 1 b1 (if r.mounted = some p then none else reelOn s p)
            ++ bOpt 1 bPort (if r.mounted = some p then none else r.mounted))) }) ∧
  (∀ (s : State) (p : Port),
    Ready s →
    PollsShort s →
    s.reels.toList.countP (fun x => x.any (fun y => y.mounted = some p)) ≤ 1 →
    s.holder p ≠ .sequencer →
    exec (.unmount (bPort p)) s = .next { s with
          reels := s.reels.map (fun x => x.map (fun y => if y.mounted = some p then { y with mounted := none } else y))
          link := answered s (bPort p) (say 0x17 .done (bOpt 1 b1 (reelOn s p))) }) ∧
  (∀ (s : State) (i : Nat) (p : Port),
    Ready s →
    PollsShort s →
    i < 64 →
    s.holder p = .sequencer →
    exec (.unmount (bPort p)) s = .next { s with link := answered s (bPort p) (deny 0x17 .held) })

/-- POLL_MOMENT (R61), and how a command handed to a port is kept (R63, R69). -/
def Obligations.PollMomentSendsTheOldestCommand : Prop :=
  (∀ (s : State) (p : Port) (c : DeckCmd),
    s.inReset = false →
    PollsShort s →
    (s.port p).countdown = 0 →
    (s.port p).exchange = none →
    c = ((s.port p).commands.head?).getD .status →
    exec (.pollMoment p) s = .next { s with ports := s.ports.set p { s.port p with
          exchange := some { cmd := c, frame := s.frame }, commands := (s.port p).commands.tail
          sent := b1 (kindCode (cmdKind c)) ++ cmdData s.std c
            ++ [(b1 (kindCode (cmdKind c)) ++ cmdData s.std c).foldl (· + ·) 0] } }) ∧
  (∀ (s : State) (p : Port),
    PollsShort s →
    ((s.port p).countdown ≠ 0 ∨ (s.port p).exchange ≠ none) →
    exec (.pollMoment p) s = .next s) ∧
  (∀ (s : State) (p : Port) (c : DeckCmd),
    (handCommand p c s).port p = { s.port p with
        commands := if (s.port p).line = .online then enqueue c (s.port p).commands else (s.port p).commands
        permission := match c with
          | .engage _ => true
          | .disengage => false
          | _ => (s.port p).permission }) ∧
  (∀ (c : DeckCmd) (d : DeckCmd) (a : List DeckCmd) (b : List DeckCmd),
    (∀ x ∈ a, recordClass x ≠ recordClass c) →
    enqueue c a = a ++ [c] ∧ (recordClass d = recordClass c → enqueue c (a ++ d :: b) = a ++ c :: b))

/-- The layout of a deck's reply (R60) and its tests: what a deck encodes is what the port reads, and a damaged reply is read as nothing; that it is then a miss is in the statement about misses. -/
def Obligations.RepliesReadBackWhatTheDeckSent : Prop :=
  (∀ (std : FrameStd) (k : CmdKind) (k2 : CmdKind) (c : Condition) (pos : Nat),
    pos < dayLength std →
    readReply std k (replyChars std k c pos) = some (c, pos) ∧ (k2 ≠ k → readReply std k2 (replyChars std k c pos) = none)) ∧
  (∀ (std : FrameStd) (k : CmdKind) (c : Condition) (pos : Nat) (n : Nat) (b : Byte),
    pos < dayLength std →
    n < 10 →
    ((replyChars std k c pos)[n]?).map LineChar.byte ≠ some b →
    readReply std k ((replyChars std k c pos).set n { byte := b, error := false }) = none) ∧
  (∀ (std : FrameStd) (k : CmdKind) (chars : List LineChar),
    (chars.length < 10 ∨ ∃ ch ∈ chars.take 10, ch.error = true) →
    readReply std k chars = none)

/-- DECK_REPLY with a reply that is not read (R60), REPLY_TIMEOUT (R60, R64, R65) and PORT_OFFLINE (R65). That they are commands of their own and do nothing where their condition does not stand is log entry 9; that an overridden RELEASE leaves no cue and no pending motion is log entry 35. -/
def Obligations.MissesReturnCommandsAndTheFourthTakesThePortOffline : Prop :=
  (∀ (s : State) (p : Port) (x : Exchange) (n : Nat),
    s.inReset = false →
    PollsShort s →
    (s.port p).exchange = some x →
    n = min 4 ((s.port p).misses + 1) →
    (n < 4 ∨ (s.port p).line = .offline) →
    (s.holder p = .free ∨ (x.cmd ≠ .release ∧ DeckCmd.release ∉ (s.port p).commands)) →
    ∃ t, exec (.replyTimeout p) s = .next t ∧ t.port p = { s.port p with
        misses := n, exchange := none, countdown := cadence t p
        commands := if (s.port p).line = .online ∧ cmdKind x.cmd ≠ .status ∧ cmdKind x.cmd ≠ .engage ∧
            (∀ d ∈ (s.port p).commands, recordClass d ≠ recordClass x.cmd) then x.cmd :: (s.port p).commands
          else (s.port p).commands } ∧
      (∀ q ∈ allPorts, q ≠ p → t.port q = s.port q ∧ t.transport q = s.transport q ∧ t.tracker q = s.tracker q) ∧ { t with ports := s.ports } = s) ∧
  (∀ (s : State) (p : Port) (x : Exchange),
    s.inReset = false →
    (s.port p).exchange = some x →
    (s.port p).line = .online →
    (s.port p).misses < 3 →
    s.holder p ≠ .free →
    x.cmd = .release →
    (∀ d ∈ (s.port p).commands, recordClass d = true) →
    ∃ t, exec (.replyTimeout p) s = .next t ∧ (t.port p).commands = .halt :: (s.port p).commands ∧ (t.transport p).state = .idle ∧
      (t.transport p).cue = none ∧ (t.transport p).motion = none) ∧
  (∀ (s : State) (p : Port) (x : Exchange),
    s.inReset = false →
    PollsShort s →
    (s.port p).exchange = some x →
    (s.port p).misses = 3 →
    (s.port p).line ≠ .offline →
    s.holder p ≠ .sequencer →
    ∃ t, exec (.replyTimeout p) s = .next t ∧ t.port p = { s.port p with
        line := .offline, misses := 4, commands := [], exchange := none, countdown := 25 } ∧
      (t.transport p = { s.transport p with
          state := .offline, speed := 0, cue := none, standbyTimer := 0, wakeCount := 0, wakeTaken := false, motion := none }) ∧
      t.tracker p = { s.tracker p with known := false } ∧
      (Notice.deck p {
          line := .offline, transport := .offline
          mode := (s.port p).lastReply.map (fun r => r.condition.mode)
          threaded := (s.port p).lastReply.map (fun r => r.condition.threaded)
          inhibit := (s.port p).lastReply.map (fun r => r.condition.inhibit) } ∈ t.notices) ∧
      (∀ q ∈ allPorts, q ≠ p → t.port q = s.port q ∧ t.transport q = s.transport q ∧ t.tracker q = s.tracker q) ∧ { t with ports := s.ports, transports := s.transports, trackers := s.trackers, notices := s.notices } = s) ∧
  (∀ (s : State) (p : Port),
    s.inReset = false →
    PollsShort s →
    (s.port p).misses = 4 →
    (s.port p).line ≠ .offline →
    s.holder p ≠ .sequencer →
    ∃ t, exec (.portOffline p) s = .next t ∧ t.port p = { s.port p with line := .offline, commands := [], countdown := 25 } ∧
      (t.transport p = { s.transport p with
          state := .offline, speed := 0, cue := none, standbyTimer := 0, wakeCount := 0, wakeTaken := false, motion := none }) ∧
      t.tracker p = { s.tracker p with known := false } ∧
      (Notice.deck p {
          line := .offline, transport := .offline
          mode := (s.port p).lastReply.map (fun r => r.condition.mode)
          threaded := (s.port p).lastReply.map (fun r => r.condition.threaded)
          inhibit := (s.port p).lastReply.map (fun r => r.condition.inhibit) } ∈ t.notices) ∧
      (∀ q ∈ allPorts, q ≠ p → t.port q = s.port q ∧ t.transport q = s.transport q ∧ t.tracker q = s.tracker q) ∧ { t with ports := s.ports, transports := s.transports, trackers := s.trackers, notices := s.notices } = s) ∧
  (∀ (s : State) (p : Port),
    PollsShort s →
    (s.port p).exchange = none →
    exec (.replyTimeout p) s = .next s) ∧
  (∀ (s : State) (p : Port),
    PollsShort s →
    ((s.port p).misses < 4 ∨ (s.port p).line = .offline) →
    exec (.portOffline p) s = .next s) ∧
  (∀ (s : State) (p : Port) (x : Exchange) (chars : List LineChar),
    (s.port p).exchange = some x →
    readReply s.std (cmdKind x.cmd) chars = none →
    exec (.deckReply p chars) s = exec (.replyTimeout p) s)

/-- DECK_REPLY (R60) with a good reply: the port (R66, R68, R69), the transport controller (R77, R78, R80), the tracker (R113, R115) and the reel table (R107). Replies of a CUEING deck, replies that change the line state or find the deck in STANDBY or WAKING, and replies of a deck held by SEQUENCER have statements of their own. -/
def Obligations.GoodRepliesAreTakenByEveryBlock : Prop :=
  (∀ (s : State) (p : Port) (x : Exchange) (c : Condition) (pos : Nat) (chars : List LineChar),
    s.inReset = false →
    PollsShort s →
    (s.port p).exchange = some x →
    readReply s.std (cmdKind x.cmd) chars = some (c, pos) →
    s.holder p ≠ .sequencer →
    (s.port p).line = .online →
    c.remote = true →
    c.mode ≠ .noTape ∧ c.mode ≠ .standby →
    (s.transport p).state ∈ [.idle, .parked, .rolling, .winding] →
    (∀ o ∈ (s.transport p).condition, o.threaded = c.threaded ∧ o.inhibit = c.inhibit) →
    (c.tracks = 0 ∨ (s.port p).permission = true) →
    (sampleTested (s.tracker p) (s.transport p) = false ∨ (posDiff s.std pos (s.tracker p).position).natAbs ≤ (s.profile p).plausibility * 64) →
    ∃ t, exec (.deckReply p chars) s = .next t ∧ (t.port p = { s.port p with
        line := .online, misses := 0, exchange := none, countdown := cadence t p
        lastReply := some { condition := c, position := pos, frame := x.frame } }) ∧
      t.transport p = { s.transport p with condition := some c } ∧
      t.tracker p = { s.tracker p with position := pos, remainder := 0, age := 0, glitch := 0, known := true } ∧
      (∀ q ∈ allPorts, q ≠ p → t.port q = s.port q ∧ t.transport q = s.transport q ∧ t.tracker q = s.tracker q) ∧ { t with ports := s.ports, transports := s.transports, trackers := s.trackers } = s) ∧
  (∀ (s : State) (p : Port) (x : Exchange) (c : Condition) (pos : Nat) (chars : List LineChar),
    s.inReset = false →
    PollsShort s →
    (s.port p).exchange = some x →
    readReply s.std (cmdKind x.cmd) chars = some (c, pos) →
    s.holder p ≠ .sequencer →
    (s.port p).line = .online →
    c.remote = true →
    c.mode ≠ .noTape →
    c.tracks ≠ 0 →
    (s.port p).permission = false →
    (s.transport p).state ∈ [.idle, .parked, .rolling, .winding] →
    DeckCmd.disengage ∉ (s.port p).commands →
    c.mode ≠ .standby →
    x.cmd ≠ .disengage →
    ∃ t, exec (.deckReply p chars) s = .next t ∧ (t.port p).commands = enqueue .disengage (s.port p).commands ∧ (t.port p).permission = false) ∧
  (∀ (s : State) (p : Port) (x : Exchange) (c : Condition) (pos : Nat) (chars : List LineChar),
    s.inReset = false →
    PollsShort s →
    (s.port p).exchange = some x →
    readReply s.std (cmdKind x.cmd) chars = some (c, pos) →
    s.holder p ≠ .sequencer →
    (s.port p).line = .online →
    c.remote = true →
    c.mode ≠ .noTape →
    c.tracks ≠ 0 →
    (s.port p).permission = false →
    (s.transport p).state ∈ [.idle, .parked, .rolling, .winding] →
    (DeckCmd.disengage ∈ (s.port p).commands ∨ x.cmd = .disengage) →
    c.mode ≠ .standby →
    ∃ t, exec (.deckReply p chars) s = .next t ∧ (t.port p).commands = (s.port p).commands ∧ (t.port p).permission = false) ∧
  (∀ (s : State) (p : Port) (x : Exchange) (c : Condition) (pos : Nat) (chars : List LineChar),
    s.inReset = false →
    PollsShort s →
    (s.port p).exchange = some x →
    readReply s.std (cmdKind x.cmd) chars = some (c, pos) →
    s.holder p ≠ .sequencer →
    (s.port p).line = .offline →
    TransportsAgree s →
    (s.port p).commands = [] →
    c.remote = true →
    (c.mode = .halted ∨ c.mode = .parked) →
    c.tracks = 0 →
    ∃ t, exec (.deckReply p chars) s = .next t ∧ (t.port p = { s.port p with
        line := .online, misses := 0, exchange := none, countdown := cadence t p
        lastReply := some { condition := c, position := pos, frame := x.frame } }) ∧
      t.transport p = { s.transport p with state := .idle, speed := 0, standbyTimer := 0, condition := some c } ∧
      t.tracker p = { s.tracker p with position := pos, remainder := 0, age := 0, glitch := 0, known := true } ∧
      t.notices = putNotice (.deck p {
        line := .online, transport := .idle, mode := some c.mode, threaded := some c.threaded, inhibit := some c.inhibit })
        s.notices ∧
      (∀ q ∈ allPorts, q ≠ p → t.port q = s.port q ∧ t.transport q = s.transport q ∧ t.tracker q = s.tracker q) ∧
      { t with ports := s.ports, transports := s.transports, trackers := s.trackers, notices := s.notices } = s) ∧
  (∀ (s : State) (p : Port) (x : Exchange) (c : Condition) (pos : Nat) (chars : List LineChar),
    s.inReset = false →
    PollsShort s →
    (s.port p).exchange = some x →
    readReply s.std (cmdKind x.cmd) chars = some (c, pos) →
    s.holder p ≠ .sequencer →
    (s.port p).line = .online →
    c.remote = true →
    c.mode = .noTape →
    (s.transport p).state ∈ [.standby, .waking, .idle, .cueing, .parked, .rolling, .winding] →
    s.reels.toList.countP (fun x => x.any (fun y => y.mounted = some p)) ≤ 1 →
    (c.tracks = 0 ∨ (s.port p).permission = true) →
    ∃ t, exec (.deckReply p chars) s = .next t ∧ (t.port p = { s.port p with
        line := .online, misses := 0, exchange := none, countdown := cadence t p
        lastReply := some { condition := c, position := pos, frame := x.frame } }) ∧
      ((t.transport p).state = .empty ∧ (t.transport p).speed = 0 ∧ (t.transport p).cue = none ∧ (t.transport p).motion = none) ∧
      t.tracker p = { s.tracker p with known := false } ∧ t.chase p = none ∧
      t.reels = s.reels.map (fun y => y.map (fun y => if y.mounted = some p then { y with mounted := none } else y)) ∧
      (∀ i ∈ List.range 64, ∀ r ∈ (s.reels[i]?).join, r.mounted = some p → Notice.reel p (i + 1) r.name ∈ t.notices) ∧
      t.notices.any (fun n => match n with
        | .deck q r => q = p && r.transport = .empty && r.mode = some .noTape
        | _ => false) = true ∧
      (∀ q ∈ allPorts, q ≠ p → t.port q = s.port q ∧ t.transport q = s.transport q ∧ t.tracker q = s.tracker q) ∧ t.list = s.list ∧ t.seq = s.seq ∧ t.holders = s.holders ∧ t.mix = s.mix ∧ t.gpi = s.gpi ∧ t.live = s.live) ∧
  (∀ (s : State) (p : Port) (chars : List LineChar),
    PollsShort s →
    (s.port p).exchange = none →
    exec (.deckReply p chars) s = .next s)

/-- TRANSPORT (R81, R82) and CUE (R83, R84) from the console: what they do to the deck, that nobody else's deck is moved, and their refusals. The layout of a pending motion in an answer is log entry 14. -/
def Obligations.TransportAndCueMoveAConsoleHeldDeck : Prop :=
  (∀ (s : State) (p : Port) (a : Action) (body : List Byte),
    Ready s →
    PollsShort s →
    s.holder p = .console →
    s.chase p = none →
    ActionLegal a →
    body = bPort p ++ actionBytes a →
    movable (s.transport p).state = true →
    ∃ t, exec (.transport body) s = .next t ∧ t.transport p = { s.transport p with
        state := actionState a, speed := commandSpeed (actionCmd a), lastKind := some (cmdKind (actionCmd a))
        cue := none, standbyTimer := 0 } ∧
      (t.port p = { s.port p with
        countdown := min (s.port p).countdown (cadence t p)
        commands := if (s.port p).line = .online then enqueue (actionCmd a) (s.port p).commands else (s.port p).commands }) ∧
      t.tracker p = (if changeMark (s.transport p) (actionCmd a) then { s.tracker p with settle := (s.profile p).settle }
        else s.tracker p) ∧
      (∀ q ∈ allPorts, q ≠ p → t.port q = s.port q ∧ t.transport q = s.transport q ∧ t.tracker q = s.tracker q) ∧
      t.link = answered s body (say 0x0C .done (b1 (transportCode (actionState a)) ++ List.replicate 16 0)) ∧ { t with ports := s.ports, transports := s.transports, trackers := s.trackers, link := s.link } = s) ∧
  (∀ (s : State) (p : Port) (a : Action) (body : List Byte) (m : PendingMotion),
    Ready s →
    PollsShort s →
    s.holder p = .console →
    s.chase p = none →
    ActionLegal a →
    body = bPort p ++ actionBytes a →
    (s.transport p).state = .standby →
    actionMotion .console a = some m →
    ∃ t, exec (.transport body) s = .next t ∧ t.transport p = { s.transport p with
        state := .waking, speed := 0, lastKind := some .wake, standbyTimer := 0, wakeCount := (s.profile p).wakeSettle
        wakeTaken := false, motion := some m } ∧
      (t.port p = { s.port p with
        countdown := min (s.port p).countdown (cadence t p)
        commands := if (s.port p).line = .online then enqueue (.wake) (s.port p).commands else (s.port p).commands }) ∧
      t.tracker p = (if changeMark (s.transport p) (.wake) then { s.tracker p with settle := (s.profile p).settle }
        else s.tracker p) ∧
      (∀ q ∈ allPorts, q ≠ p → t.port q = s.port q ∧ t.transport q = s.transport q ∧ t.tracker q = s.tracker q) ∧
      t.link = answered s body (say 0x0C .done (b1 4 ++ (b1 1 ++ bMotion s.std m))) ∧ { t with ports := s.ports, transports := s.transports, trackers := s.trackers, link := s.link } = s) ∧
  (∀ (s : State) (p : Port),
    Ready s →
    PollsShort s →
    s.holder p = .console →
    s.chase p = none →
    (s.transport p).state = .standby →
    exec (.transport (bPort p ++ [0])) s = .next { s with link := answered s (bPort p ++ [0]) (say 0x0C .done (3 :: List.replicate 16 0)) }) ∧
  (∀ (s : State) (p : Port) (a : Action) (body : List Byte),
    Ready s →
    PollsShort s →
    s.holder p = .console →
    s.chase p = none →
    ActionLegal a →
    body = bPort p ++ actionBytes a →
    (s.transport p).state = .waking →
    exec (.transport body) s = .next { s with
          transports := s.transports.set p { s.transport p with motion := actionMotion .console a }
          link := answered s body (say 0x0C .done (b1 4 ++ bOpt 15 (bMotion s.std) (actionMotion .console a))) }) ∧
  (∀ (s : State) (p : Port) (body : List Byte) (n : Nat) (moved : Bool),
    Ready s →
    PollsShort s →
    s.holder p = .console →
    s.chase p = none →
    body.length = 5 →
    body.head? = some (BitVec.ofNat 8 (portNum p)) →
    readLabel s.std false (labelAt body 1) = some (n, moved) →
    movable (s.transport p).state = true →
    ∃ t, exec (.cue body) s = .next t ∧ t.transport p = { s.transport p with
        state := .cueing, speed := 0, lastKind := some .seek, standbyTimer := 0
        cue := some {
          requester := .console, target := n * 64, attempts := 1, acked := false, elapsed := 0, lastStop := none } } ∧
      (t.port p = { s.port p with
        countdown := min (s.port p).countdown (cadence t p)
        commands := if (s.port p).line = .online then enqueue (.seek (n * 64)) (s.port p).commands else (s.port p).commands }) ∧
      t.tracker p = (if changeMark (s.transport p) (.seek (n * 64)) then { s.tracker p with settle := (s.profile p).settle }
        else s.tracker p) ∧
      (∀ q ∈ allPorts, q ≠ p → t.port q = s.port q ∧ t.transport q = s.transport q ∧ t.tracker q = s.tracker q) ∧
      t.link = answered s body (say 0x0D (if moved then .adjusted else .started) (bFrame s.std n ++ b1 6)) ∧ { t with ports := s.ports, transports := s.transports, trackers := s.trackers, link := s.link } = s) ∧
  (∀ (s : State) (p : Port) (body : List Byte) (n : Nat) (moved : Bool),
    Ready s →
    PollsShort s →
    s.holder p = .console →
    s.chase p = none →
    body.length = 5 →
    body.head? = some (BitVec.ofNat 8 (portNum p)) →
    readLabel s.std false (labelAt body 1) = some (n, moved) →
    (s.transport p).state = .standby →
    ∃ t, exec (.cue body) s = .next t ∧ t.transport p = { s.transport p with
        state := .waking, speed := 0, lastKind := some .wake, standbyTimer := 0, wakeCount := (s.profile p).wakeSettle
        wakeTaken := false, motion := some ⟨.console, .cue (n * 64) 0⟩ } ∧
      (t.port p = { s.port p with
        countdown := min (s.port p).countdown (cadence t p)
        commands := if (s.port p).line = .online then enqueue (.wake) (s.port p).commands else (s.port p).commands }) ∧
      t.tracker p = (if changeMark (s.transport p) (.wake) then { s.tracker p with settle := (s.profile p).settle }
        else s.tracker p) ∧
      (∀ q ∈ allPorts, q ≠ p → t.port q = s.port q ∧ t.transport q = s.transport q ∧ t.tracker q = s.tracker q) ∧
      t.link = answered s body (say 0x0D (if moved then .adjusted else .started) (bFrame s.std n ++ b1 4)) ∧ { t with ports := s.ports, transports := s.transports, trackers := s.trackers, link := s.link } = s) ∧
  (∀ (s : State) (p : Port) (body : List Byte) (n : Nat) (moved : Bool),
    Ready s →
    PollsShort s →
    s.holder p = .console →
    s.chase p = none →
    body.length = 5 →
    body.head? = some (BitVec.ofNat 8 (portNum p)) →
    readLabel s.std false (labelAt body 1) = some (n, moved) →
    (s.transport p).state = .waking →
    exec (.cue body) s = .next { s with
          transports := s.transports.set p { s.transport p with motion := some ⟨.console, .cue (n * 64) 0⟩ }
          link := answered s body (say 0x0D (if moved then .adjusted else .started) (bFrame s.std n ++ b1 4)) }) ∧
  (∀ (s : State) (p : Port) (a : Action) (body : List Byte) (x : Reason),
    Ready s →
    PollsShort s →
    ActionLegal a →
    body = bPort p ++ actionBytes a →
    some x = (if s.holder p = .sequencer then some .held
      else if s.holder p = .free then some .notHeld
      else if (s.transport p).state ∈ [.offline, .panel, .empty] then some .deckDown
      else if s.chase p ≠ none then some .state else none) →
    exec (.transport body) s = .next { s with link := answered s body (deny 0x0C x) }) ∧
  (∀ (s : State) (p : Port) (l : Label) (body : List Byte) (x : Reason),
    Ready s →
    PollsShort s →
    body.length = 5 →
    labelAt body 1 = l →
    (portOf (byteAt body 0) = some p ∨ portOf (byteAt body 0) = none) →
    some x = (if ¬(l.hh ≤ 23 ∧ l.mm ≤ 59 ∧ l.ss ≤ 59 ∧ l.ff < rate s.std) then some .badTime
      else if portOf (byteAt body 0) = none then some .badField
      else if s.holder p = .sequencer then some .held
      else if s.holder p = .free then some .notHeld
      else if (s.transport p).state ∈ [.offline, .panel, .empty] then some .deckDown
      else if s.chase p ≠ none then some .state else none) →
    exec (.cue body) s = .next { s with link := answered s body (deny 0x0D x) })

/-- CLAIM_SET and CLAIM_EXCLUSIVE (R94), TEST_SET and RELEASE_SET (R95). That the deck of an overridden RELEASE has no cue is log entry 35; that TEST SET answers a counted list of holders is log entry 14. -/
def Obligations.ClaimsAreGrantedWholeOrNotAtAll : Prop :=
  (∀ (s : State) (body : List Byte) (ps : List Port),
    Ready s →
    PollsShort s →
    body.length = 1 →
    portSetOf (byteAt body 0) = some ps →
    (∀ p ∈ ps, s.holder p = .free) →
    (∀ p ∈ ps, DeckCmd.release ∉ (s.port p).commands) →
    exec (.claimSet body) s = .next (shortenPolls { s with
          holders := s.holders.mapAll (fun p h => if p ∈ ps then .console else h)
          transports := s.transports.mapAll (fun p t => if p ∈ ps then { t with standbyTimer := 0 } else t)
          link := answered s body (say 0x0F .done
            (allPorts.flatMap (fun p => b1 (if p ∈ ps then 1 else holderCode (s.holder p))))) })) ∧
  (∀ (s : State) (body : List Byte) (ps : List Port),
    Ready s →
    PollsShort s →
    body.length = 1 →
    portSetOf (byteAt body 0) = some ps →
    (∀ p ∈ allPorts, s.holder p = .free) →
    (∀ p ∈ ps, DeckCmd.release ∉ (s.port p).commands) →
    exec (.claimExclusive body) s = .next (shortenPolls { s with
          holders := s.holders.mapAll (fun p h => if p ∈ ps then .console else h)
          transports := s.transports.mapAll (fun p t => if p ∈ ps then { t with standbyTimer := 0 } else t)
          link := answered s body (say 0x10 .done
            (allPorts.flatMap (fun p => b1 (if p ∈ ps then 1 else holderCode (s.holder p))))) })) ∧
  (∀ (s : State) (body : List Byte) (ps : List Port),
    Ready s →
    PollsShort s →
    body.length = 1 →
    portSetOf (byteAt body 0) = some ps →
    (∃ p ∈ ps, s.holder p ≠ .free) →
    exec (.claimSet body) s = .next { s with link := answered s body {
          code := 0x0F, status := .refused, reason := some .held
          body := allPorts.flatMap (fun p => b1 (holderCode (s.holder p))) } }) ∧
  (∀ (s : State) (body : List Byte) (ps : List Port),
    Ready s →
    PollsShort s →
    body.length = 1 →
    portSetOf (byteAt body 0) = some ps →
    (∃ p ∈ allPorts, s.holder p ≠ .free) →
    exec (.claimExclusive body) s = .next { s with link := answered s body {
          code := 0x10, status := .refused, reason := some .held
          body := allPorts.flatMap (fun p => b1 (holderCode (s.holder p))) } }) ∧
  (∀ (s : State) (body : List Byte) (ps : List Port) (p : Port),
    Ready s →
    body.length = 1 →
    portSetOf (byteAt body 0) = some ps →
    (∀ q ∈ ps, s.holder q = .free) →
    p ∈ ps →
    SlotsRight (s.port p) →
    DeckCmd.release ∈ (s.port p).commands →
    ∃ t, exec (.claimSet body) s = .next t ∧ t.holder p = .console ∧ (t.transport p).state = .idle ∧ (t.transport p).cue = none ∧
      (t.port p).commands = (s.port p).commands.map (fun c => if c = .release then .halt else c)) ∧
  (∀ (s : State) (body : List Byte) (ps : List Port),
    Ready s →
    PollsShort s →
    body.length = 1 →
    portSetOf (byteAt body 0) = some ps →
    exec (.testSet body) s = .next { s with 
          link := answered s body (say 0x11 .done (b1 ps.length ++ ps.flatMap (fun p => b1 (holderCode (s.holder p))))) }) ∧
  (∀ (s : State) (body : List Byte) (ps : List Port),
    Ready s →
    PollsShort s →
    body.length = 1 →
    portSetOf (byteAt body 0) = some ps →
    exec (.releaseSet body) s = .next { s with
          holders := s.holders.mapAll (fun p h => if p ∈ ps ∧ h = .console then .free else h)
          chases := s.chases.mapAll (fun p c => if p ∈ ps ∧ s.holder p = .console ∧ c.any (fun r => r.kind = .manual) then none
            else c)
          link := answered s body (say 0x12 .done (bPortSet (ps.filter (fun p => s.holder p = .console))
            ++ allPorts.flatMap (fun p =>
              b1 (if p ∈ ps ∧ s.holder p = .console then 0 else holderCode (s.holder p))))) }) ∧
  (∀ (s : State) (body : List Byte),
    Ready s →
    PollsShort s →
    body.length = 1 →
    portSetOf (byteAt body 0) = none →
    exec (.claimSet body) s = .next { s with link := answered s body (deny 0x0F .badField) } ∧
      exec (.claimExclusive body) s = .next { s with link := answered s body (deny 0x10 .badField) } ∧
      exec (.testSet body) s = .next { s with link := answered s body (deny 0x11 .badField) } ∧
      exec (.releaseSet body) s = .next { s with link := answered s body (deny 0x12 .badField) })

/-- CUE_TIMEOUT (R86), WAKE_END (R91) and STANDBY_TIMEOUT (R89). That they do nothing where their condition does not stand is log entry 9; that a cue still pending has attempt count 0 and no last stop is log entry 17. -/
def Obligations.TransportLimitsActWhenTheyAreReached : Prop :=
  (∀ (s : State) (p : Port) (c : Cue),
    s.inReset = false →
    PollsShort s →
    (s.transport p).state = .cueing →
    (s.transport p).cue = some c →
    c.requester ≠ .sequencer →
    (s.profile p).cueTime * rate s.std ≤ c.elapsed →
    ∃ t, exec (.cueTimeout p) s = .next t ∧ t.transport p = { s.transport p with
        state := .idle, speed := 0, lastKind := some .halt, standbyTimer := 0, cue := none } ∧
      (t.port p = { s.port p with
        countdown := min (s.port p).countdown (cadence t p)
        commands := if (s.port p).line = .online then enqueue (.halt) (s.port p).commands else (s.port p).commands }) ∧
      t.tracker p = (if changeMark (s.transport p) (.halt) then { s.tracker p with settle := (s.profile p).settle }
        else s.tracker p) ∧
      (∀ q ∈ allPorts, q ≠ p → t.port q = s.port q ∧ t.transport q = s.transport q ∧ t.tracker q = s.tracker q) ∧
      t.notices = putNotice (.cueEnd p {
        outcome := .failed .time, requester := c.requester, attempts := c.attempts
        lastStop := c.lastStop }) s.notices ∧
      t.chases = (if c.requester = .chase then s.chases.set p ((s.chase p).filter (fun r =>
        !(r.kind = .manual && (r.state = .seeking || r.state = .parked)))) else s.chases) ∧
      { t with ports := s.ports, transports := s.transports, trackers := s.trackers, notices := s.notices, chases := s.chases } = s) ∧
  (∀ (s : State) (p : Port) (x : Nat) (n : Nat) (w : Requester),
    s.inReset = false →
    PollsShort s →
    (s.transport p).state = .waking →
    (s.transport p).motion = some ⟨w, .cue x n⟩ →
    w ≠ .sequencer →
    (s.profile p).cueTime * rate s.std ≤ n →
    exec (.cueTimeout p) s = .next (shortenPolls { s with
          transports := s.transports.set p { s.transport p with motion := none }
          notices := putNotice (.cueEnd p { outcome := .failed .time, requester := w, attempts := 0, lastStop := none }) s.notices
          chases := if w = .chase then s.chases.set p ((s.chase p).filter (fun r =>
            !(r.kind = .manual && (r.state = .seeking || r.state = .parked)))) else s.chases })) ∧
  (∀ (s : State) (p : Port),
    s.inReset = false →
    PollsShort s →
    (s.transport p).state = .waking →
    (s.transport p).wakeTaken = true →
    (s.transport p).wakeCount = 0 →
    (s.transport p).motion = none →
    exec (.wakeEnd p) s = .next { s with transports := s.transports.set p { s.transport p with state := .idle, standbyTimer := 0 } }) ∧
  (∀ (s : State) (p : Port) (a : Action) (w : Requester),
    s.inReset = false →
    PollsShort s →
    (s.transport p).state = .waking →
    (s.transport p).wakeTaken = true →
    (s.transport p).wakeCount = 0 →
    (s.transport p).motion = actionMotion w a →
    a ≠ .halt →
    (s.transport p).cue = none →
    ∃ t, exec (.wakeEnd p) s = .next t ∧ t.transport p = { s.transport p with
        state := actionState a, speed := commandSpeed (actionCmd a), lastKind := some (cmdKind (actionCmd a))
        motion := none, standbyTimer := 0 } ∧
      (t.port p = { s.port p with
        countdown := min (s.port p).countdown (cadence t p)
        commands := if (s.port p).line = .online then enqueue (actionCmd a) (s.port p).commands else (s.port p).commands }) ∧
      t.tracker p = (if changeMark (s.transport p) (actionCmd a) then { s.tracker p with settle := (s.profile p).settle }
        else s.tracker p) ∧
      (∀ q ∈ allPorts, q ≠ p → t.port q = s.port q ∧ t.transport q = s.transport q ∧ t.tracker q = s.tracker q) ∧
      { t with ports := s.ports, transports := s.transports, trackers := s.trackers } = s) ∧
  (∀ (s : State) (p : Port) (x : Nat) (n : Nat) (w : Requester),
    s.inReset = false →
    PollsShort s →
    (s.transport p).state = .waking →
    (s.transport p).wakeTaken = true →
    (s.transport p).wakeCount = 0 →
    (s.transport p).motion = some ⟨w, .cue x n⟩ →
    ∃ t, exec (.wakeEnd p) s = .next t ∧ t.transport p = { s.transport p with
        state := .cueing, speed := 0, lastKind := some .seek, motion := none, standbyTimer := 0
        cue := some { requester := w, target := x, attempts := 1, acked := false, elapsed := n, lastStop := none } } ∧
      (t.port p = { s.port p with
        countdown := min (s.port p).countdown (cadence t p)
        commands := if (s.port p).line = .online then enqueue (.seek x) (s.port p).commands else (s.port p).commands }) ∧
      t.tracker p = (if changeMark (s.transport p) (.seek x) then { s.tracker p with settle := (s.profile p).settle }
        else s.tracker p) ∧
      (∀ q ∈ allPorts, q ≠ p → t.port q = s.port q ∧ t.transport q = s.transport q ∧ t.tracker q = s.tracker q) ∧
      { t with ports := s.ports, transports := s.transports, trackers := s.trackers } = s) ∧
  (∀ (s : State) (p : Port),
    s.inReset = false →
    PollsShort s →
    ((s.transport p).state = .idle ∨ (s.transport p).state = .parked) →
    s.holder p = .free →
    (s.profile p).standbyDelay ≠ 0 →
    (s.profile p).standbyDelay * 60 * rate s.std ≤ (s.transport p).standbyTimer →
    ∃ t, exec (.standbyTimeout p) s = .next t ∧ t.transport p = { s.transport p with
        state := .standby, speed := 0, lastKind := some .release, standbyTimer := 0 } ∧
      (t.port p = { s.port p with
        countdown := min (s.port p).countdown (cadence t p)
        commands := if (s.port p).line = .online then enqueue (.release) (s.port p).commands else (s.port p).commands }) ∧
      t.tracker p = (if changeMark (s.transport p) (.release) then { s.tracker p with settle := (s.profile p).settle }
        else s.tracker p) ∧
      (∀ q ∈ allPorts, q ≠ p → t.port q = s.port q ∧ t.transport q = s.transport q ∧ t.tracker q = s.tracker q) ∧
      t.notices = putNotice (.deck p {
        line := (s.port p).line, transport := .standby, mode := (s.transport p).condition.map Condition.mode
        threaded := (s.transport p).condition.map Condition.threaded
        inhibit := (s.transport p).condition.map Condition.inhibit }) s.notices ∧
      { t with ports := s.ports, transports := s.transports, trackers := s.trackers, notices := s.notices } = s) ∧
  (∀ (s : State) (p : Port),
    PollsShort s →
    (∀ c ∈ (s.transport p).cue, c.elapsed < (s.profile p).cueTime * rate s.std) →
    (s.transport p).motion = none →
    exec (.cueTimeout p) s = .next s) ∧
  (∀ (s : State) (p : Port),
    PollsShort s →
    ((s.transport p).state ≠ .waking ∨ (s.transport p).wakeTaken = false ∨ (s.transport p).wakeCount ≠ 0) →
    exec (.wakeEnd p) s = .next s) ∧
  (∀ (s : State) (p : Port),
    PollsShort s →
    (s.holder p ≠ .free ∨ (s.profile p).standbyDelay = 0 ∨ (s.transport p).standbyTimer < (s.profile p).standbyDelay * 60 * rate s.std) →
    exec (.standbyTimeout p) s = .next s)

/-- The status requests (R71, R97, R109, R132, R157, R170, R186, R194). Field sizes and codes that R197 leaves open are log entry 14. -/
def Obligations.StatusRequestsReportAndChangeNothing : Prop :=
  (∀ (s : State) (p : Port),
    Ready s →
    PollsShort s →
    exec (.portStatus (bPort p)) s = .next { s with
          link := answered s (bPort p) (say 0x0B .done
            (b1 (lineCode (s.port p).line) ++ b2 (s.port p).misses ++ b2 (cadence s p)
          ++ b1 (s.port p).commands.length ++ (s.port p).commands.flatMap (fun c => b1 (kindCode (cmdKind c)))
          ++ b1 (((s.port p).exchange.map (fun x => kindCode (cmdKind x.cmd))).getD 0)
          ++ bFlag (s.port p).permission ++ bOpt 13 (bStoredReply s) (s.port p).lastReply)) } ∧
      exec (.transportStatus (bPort p)) s = .next { s with
          link := answered s (bPort p) (say 0x0E .done
            (b1 (holderCode (s.holder p)) ++ b1 (lineCode (s.port p).line)
          ++ b1 (transportCode (s.transport p).state) ++ s2 (s.transport p).speed
          ++ b1 (((s.transport p).lastKind.map kindCode).getD 0) ++ bOpt 6 bCondition (s.transport p).condition
          ++ bOpt 16 (bCue s.std) (s.transport p).cue ++ b4 (s.transport p).standbyTimer
          ++ b4 ((s.profile p).standbyDelay * 60 * rate s.std) ++ b2 (s.transport p).wakeCount
          ++ bFlag (s.transport p).wakeTaken ++ bOpt 15 (bMotion s.std) (s.transport p).motion)) } ∧
      exec (.trackStatus (bPort p)) s = .next { s with
          link := answered s (bPort p) (say 0x1D .done
            (bPos s.std (s.tracker p).position ++ b2 (s.tracker p).remainder
          ++ bFlag (s.tracker p).known ++ b2 (s.tracker p).age ++ b2 (s.tracker p).glitch ++ b2 (s.tracker p).settle
          ++ s2 (s.tracker p).advance ++ b1 (((s.chase p).map (fun c => chaseStateCode c.state)).getD 0)
          ++ bOpt 34 (bChase s.std) (s.chase p)
          ++ bPortSet (allPorts.filter (fun q => (s.chase q).any (fun c => c.master = p))))) }) ∧
  (∀ (s : State),
    Ready s →
    PollsShort s →
    exec (.sequencerStatus []) s = .next { s with
          link := answered s [] (say 0x22 .done
            (b1 (phaseCode s.seq.phase) ++ bOpt 1 (fun m => b1 (seqModeCode m)) s.seq.mode
          ++ bFlag s.seq.closing ++ bOpt 2 b2 s.seq.heldKey ++ bOpt 5 bDecks s.seq.decks ++ b2 s.seq.preroll
          ++ bOpt 17 (bCuePoints s.std) s.seq.cuePoints
          ++ bOpt 1 bPortSet (if s.seq.phase = .idle then none else some s.seq.parked)
          ++ bOpt 4 b4 s.seq.rollFrame ++ bOpt 4 b4 s.seq.engageFrame ++ bOpt 4 b4 s.seq.postrollEnd
          ++ bFlag s.seq.engaged ++ bFlag s.seq.released ++ bFlag s.seq.confirmed ++ bFlag s.seq.slipped
          ++ bOpt 2 b2 s.seq.fieldIndex ++ bFrame s.std s.recorderFrame ++ bFlag s.seq.run.isSome)) } ∧
      exec (.runStatus []) s = .next { s with
          link := answered s [] (say 0x24 .done
            (bOpt 27 (bRun s.std s.seq) s.seq.run)) } ∧
      exec (.outputStatus []) s = .next { s with
          link := answered s [] (say 0x25 .done
            (bMixOut s.mix.out ++ bOpt 6 bMixOut s.mix.staged
          ++ bOpt 4 (fun r => b2 r.duration ++ b2 r.last) s.mix.ramp ++ allLines.flatMap (bLine s)
          ++ bOpt 1 (fun a => b1 a.triggers.length ++ a.triggers.flatMap (bArmedTrigger s.std)) s.gpi.armed)) } ∧
      exec (.mountTable []) s = .next { s with
          link := answered s [] (say 0x1A .done
            (allPorts.flatMap (bMount s) ++ b2 (s.reels.toList.countP Option.isSome))) }) ∧
  (∀ (s : State) (i : Nat) (r : Reel),
    Ready s →
    PollsShort s →
    s.list.ripple = none →
    i < 64 →
    s.reels[i]? = some (some r) →
    (∀ j ∈ List.range i, ((s.reels[j]?).join).map Reel.name ≠ some r.name) →
    nameValid r.name = true →
    exec (.readReel (b1 (i + 1))) s = .next { s with
          link := answered s (b1 (i + 1)) (say 0x18 .done
            (b1 1 ++ bName r.name ++ bOpt 1 bPort r.mounted ++ bFlag (referenced s (i + 1)))) } ∧
      exec (.findReel (bName r.name)) s = .next { s with
          link := answered s (bName r.name) (say 0x19 .done
            (b1 (i + 1) ++ bOpt 1 bPort r.mounted ++ bFlag (referenced s (i + 1)))) }) ∧
  (∀ (s : State) (i : Nat),
    Ready s →
    PollsShort s →
    i < 64 →
    s.reels[i]? = some none →
    exec (.readReel (b1 (i + 1))) s = .next { s with
          link := answered s (b1 (i + 1)) (say 0x18 .done
            (List.replicate 5 0)) }) ∧
  (∀ (s : State) (p : Port) (l : Line),
    Ready s →
    PollsShort s →
    exec (.readSettings [0]) s = .next { s with
          link := answered s [0] (say 0x2B .done
            (bSystem s.live.system ++ bFlag s.snapshot.isSome)) } ∧
      exec (.readSettings (1 :: bPort p)) s = .next { s with
          link := answered s (1 :: bPort p) (say 0x2B .done
            (bProfile (s.profile p) ++ bFlag s.snapshot.isSome)) } ∧
      exec (.readSettings (2 :: b1 (lineNum l))) s = .next { s with
          link := answered s (2 :: b1 (lineNum l)) (say 0x2B .done
            (bGpi (s.live.gpi.get l) ++ bFlag s.snapshot.isSome)) })

/-- The advance of R112 over any number of frames, the sample test of R113 and R114, and SAMPLE_JUMP. That SAMPLE_JUMP does nothing where its condition does not stand is log entry 9. -/
def Obligations.TheAdvanceIsExactOnAverageAndSamplesReplaceIt : Prop :=
  (∀ (std : FrameStd) (v : Int) (a : Nat) (r : Nat) (n : Nat),
    a < dayLength std →
    r < 16 →
    v ≠ 0 →
    (fun x : Nat × Nat => advanceBy std v x.1 x.2)^[n] (a, r) =
        (posAdd std a (Int.sign v * (((n * v.natAbs + r) / 16 : Nat) : Int)), (n * v.natAbs + r) % 16)) ∧
  (∀ (std : FrameStd) (v : Int) (k : Tracker),
    predict std v k = { k with
        position := (if v = 0 then k.position else (advanceBy std v k.position k.remainder).1)
        remainder := (if v = 0 then k.remainder else (advanceBy std v k.position k.remainder).2)
        age := min 255 (k.age + 1), settle := k.settle - 1, advance := v }) ∧
  (∀ (s : State) (p : Port) (tested : Bool) (x : Nat) (far : Bool),
    far = (tested && decide ((s.profile p).plausibility * 64 < (posDiff s.std x (s.tracker p).position).natAbs)) →
    (takeSample p tested x s).tracker p = (if far = true ∧ (s.tracker p).glitch < 2 then
          { s.tracker p with glitch := (s.tracker p).glitch + 1 }
        else { s.tracker p with position := x, remainder := 0, age := 0, glitch := 0, known := true }) ∧
      (takeSample p tested x s).chase p = (if far = true ∧ 2 ≤ (s.tracker p).glitch then
          (s.chase p).map (fun c => { c with lockRun := 0 })
        else s.chase p)) ∧
  (∀ (s : State) (p : Port) (x : Nat),
    s.inReset = false →
    PollsShort s →
    x < dayLength s.std →
    2 ≤ (s.tracker p).glitch →
    sampleTested (s.tracker p) (s.transport p) = true →
    (s.profile p).plausibility * 64 < (posDiff s.std x (s.tracker p).position).natAbs →
    exec (.sampleJump p x) s = .next { s with
          trackers := s.trackers.set p { s.tracker p with position := x, remainder := 0, age := 0, glitch := 0, known := true }
          chases := s.chases.set p ((s.chase p).map (fun c => { c with lockRun := 0 })) }) ∧
  (∀ (s : State) (p : Port) (x : Nat),
    PollsShort s →
    x < dayLength s.std →
    ((s.tracker p).glitch < 2 ∨ sampleTested (s.tracker p) (s.transport p) = false ∨ (posDiff s.std x (s.tracker p).position).natAbs ≤ (s.profile p).plausibility * 64) →
    exec (.sampleJump p x) s = .next s)

/-- CHASE (R123) and CHASE_STOP (R131). That a pending CUE of a WAKING deck counts as a CONSOLE cue in progress is log entry 30. -/
def Obligations.ChaseAndChaseStopMakeAndRemoveAManualRecord : Prop :=
  (∀ (s : State) (p : Port) (m : Port) (o : Int) (body : List Byte),
    Ready s →
    PollsShort s →
    -2147483648 ≤ o ∧ o ≤ 2147483647 →
    body = bPort p ++ bPort m ++ s4 o →
    p ≠ m →
    s.holder p = .console →
    s.recorder ≠ some p →
    (s.transport p).state ∉ [.offline, .panel, .empty] →
    s.chase m = none →
    (∀ q ∈ allPorts, ∀ c ∈ s.chase q, c.master ≠ p) →
    exec (.chase body) s = .next { s with
          chases := s.chases.set p (some {
            kind := .manual, master := m, masterAnchor := 0
            chaserAnchor := (max (-86399) (min 86399 o) * 64 % (dayLength s.std : Int)).toNat, rate := 1024
            state := .parked, lockRun := 0, outOfCapture := false, cuePoint := none, lastTarget := none, lastError := none })
          link := answered s body (say 0x1B (if -86399 ≤ o ∧ o ≤ 86399 then .done else .adjusted)
            (bPort p ++ bPort m ++ s4 (max (-86399) (min 86399 o)) ++ bFlag (consoleCue (s.transport p)))) }) ∧
  (∀ (s : State) (p : Port) (m : Port) (o : Int) (body : List Byte) (x : Reason),
    Ready s →
    PollsShort s →
    -2147483648 ≤ o ∧ o ≤ 2147483647 →
    body = bPort p ++ bPort m ++ s4 o →
    some x = (if p = m then some .badField
      else if s.holder p = .sequencer then some .held
      else if s.holder p = .free then some .notHeld
      else if s.recorder = some p then some .role
      else if (s.transport p).state ∈ [.offline, .panel, .empty] then some .deckDown
      else if s.chase m ≠ none ∨ ∃ q ∈ allPorts, ∃ c ∈ s.chase q, c.master = p then some .chain else none) →
    exec (.chase body) s = .next { s with link := answered s body (deny 0x1B x) }) ∧
  (∀ (s : State) (p : Port) (c : Chase),
    Ready s →
    PollsShort s →
    s.holder p = .console →
    s.chase p = some c →
    c.kind = .manual →
    movable (s.transport p).state = true →
    ∃ t, exec (.chaseStop (bPort p)) s = .next t ∧ t.chases = s.chases.set p none ∧ t.transport p = { s.transport p with
        state := .idle, speed := 0, lastKind := some .halt, cue := none, standbyTimer := 0 } ∧
      (t.port p = { s.port p with
        countdown := min (s.port p).countdown (cadence t p)
        commands := if (s.port p).line = .online then enqueue (.halt) (s.port p).commands else (s.port p).commands }) ∧
      t.tracker p = (if changeMark (s.transport p) (.halt) then { s.tracker p with settle := (s.profile p).settle }
        else s.tracker p) ∧
      (∀ q ∈ allPorts, q ≠ p → t.port q = s.port q ∧ t.transport q = s.transport q ∧ t.tracker q = s.tracker q) ∧
      t.link = answered s (bPort p) (say 0x1C .done []) ∧
      { t with ports := s.ports, transports := s.transports, trackers := s.trackers, link := s.link, chases := s.chases } = s) ∧
  (∀ (s : State) (p : Port) (c : Chase),
    Ready s →
    PollsShort s →
    s.holder p = .console →
    s.chase p = some c →
    c.kind = .manual →
    (s.transport p).state = .standby →
    exec (.chaseStop (bPort p)) s = .next { s with
          chases := s.chases.set p none, link := answered s (bPort p) (say 0x1C .done []) }) ∧
  (∀ (s : State) (p : Port) (c : Chase),
    Ready s →
    s.holder p = .console →
    s.chase p = some c →
    c.kind = .manual →
    (s.transport p).state = .waking →
    exec (.chaseStop (bPort p)) s = .next (shortenPolls { s with
          transports := s.transports.set p { s.transport p with motion := none }
          chases := s.chases.set p none, link := answered s (bPort p) (say 0x1C .done []) })) ∧
  (∀ (s : State) (p : Port),
    Ready s →
    PollsShort s →
    s.holder p = .console →
    (∀ c ∈ s.chase p, c.kind = .sequencer) →
    exec (.chaseStop (bPort p)) s = .next { s with link := answered s (bPort p) (deny 0x1C .state) })

/-- The chase servo's target (R117), worked frames (R118), correction (R119), lock tests and what an error beyond the capture window does (R120, R121). That the lock run of a record that stays LOCKED is kept is log entry 31. -/
def Obligations.ChaseServoFollowsItsMasterWithinItsLimits : Prop :=
  (∀ (std : FrameStd) (c : Chase) (m : Nat),
    (posDiff std m c.masterAnchor * c.rate) / 1024 * 1024 ≤ posDiff std m c.masterAnchor * c.rate ∧
      chaseTarget std c m =
        ((c.chaserAnchor + (posDiff std m c.masterAnchor * c.rate) / 1024) % (dayLength std : Int)).toNat) ∧
  (∀ (f : Profile) (rate : Nat) (e : Int) (e2 : Int),
    (chaseSpeed f rate e : Int) =
          max 0 (min 2304 (rate + max (-(f.varispeed : Int)) (min f.varispeed (Int.tdiv (e * f.gain) 64)))) ∧
      chaseSpeed f rate e ≤ 2304 ∧ (e ≤ e2 → chaseSpeed f rate e ≤ chaseSpeed f rate e2) ∧
      (256 ≤ rate → rate ≤ 2048 → f.varispeed ≤ 256 →
        -(f.varispeed : Int) ≤ (chaseSpeed f rate e : Int) - rate ∧ (chaseSpeed f rate e : Int) - rate ≤ f.varispeed)) ∧
  (∀ (s : State) (p : Port) (c : Chase) (target : Nat) (e : Int) (run : Nat),
    (s.transport p).state = .rolling →
    (s.tracker p).settle = 0 →
    (s.tracker p).age < 8 ∧ (s.tracker c.master).age < 8 →
    e = posDiff s.std target (s.tracker p).position →
    e.natAbs ≤ (s.profile p).captureWindow * 64 →
    c.state = .capturing →
    run = (if e.natAbs ≤ (s.profile p).lockWindow then min 63 (c.lockRun + 1) else 0) →
    (workChase p c target s).1.chase p = some { c with
        lastError := some e, lockRun := run, outOfCapture := false
        state := if (s.profile p).lockCount ≤ run then .locked else .capturing } ∧
      ((workChase p c target s).1.transport p).speed = chaseSpeed (s.profile p) c.rate e ∧
      ((workChase p c target s).1.transport p).state = .rolling ∧
      (workChase p c target s).1.notices =
        (if (s.profile p).lockCount ≤ run then putNotice (.lock p true) s.notices else s.notices)) ∧
  (∀ (s : State) (p : Port) (c : Chase) (target : Nat) (e : Int),
    (s.transport p).state = .rolling →
    (s.tracker p).settle = 0 →
    (s.tracker p).age < 8 ∧ (s.tracker c.master).age < 8 →
    e = posDiff s.std target (s.tracker p).position →
    e.natAbs ≤ (s.profile p).captureWindow * 64 →
    c.state = .locked →
    (workChase p c target s).1.chase p = some (if (s.profile p).unlockWindow < e.natAbs then
          { c with state := .capturing, lockRun := 0, lastError := some e, outOfCapture := false }
        else { c with lastError := some e, outOfCapture := false }) ∧
      ((workChase p c target s).1.transport p).speed = chaseSpeed (s.profile p) c.rate e ∧
      (workChase p c target s).1.notices =
        (if (s.profile p).unlockWindow < e.natAbs then putNotice (.lock p false) s.notices else s.notices)) ∧
  (∀ (s : State) (p : Port) (c : Chase) (target : Nat) (e : Int),
    (s.transport p).state = .rolling →
    (s.tracker p).settle = 0 →
    (s.tracker p).age < 8 ∧ (s.tracker c.master).age < 8 →
    e = posDiff s.std target (s.tracker p).position →
    (s.profile p).captureWindow * 64 < e.natAbs →
    c.kind = .sequencer →
    (c.state = .capturing ∨ (c.state = .locked ∧ (s.profile p).unlockWindow < e.natAbs)) →
    (s.profile p).lockWindow < e.natAbs ∧ 1 ≤ (s.profile p).lockCount →
    (workChase p c target s).1.chase p = some { c with
        state := .capturing, lockRun := 0, lastError := some e, outOfCapture := true } ∧
      ((workChase p c target s).1.transport p).speed = chaseSpeed (s.profile p) c.rate e ∧
      (workChase p c target s).2 = (if c.state = .locked then [.lost] else []) ++ (if c.outOfCapture then [] else [.outOfCapture]) ∧
      (workChase p c target s).1.notices = (if c.state = .locked then putNotice (.lock p false) s.notices else s.notices)) ∧
  (∀ (s : State) (p : Port) (c : Chase) (target : Nat) (e : Int) (point : Nat),
    (s.transport p).state = .rolling →
    (s.tracker p).settle = 0 →
    (s.tracker p).age < 8 ∧ (s.tracker c.master).age < 8 →
    e = posDiff s.std target (s.tracker p).position →
    (s.profile p).captureWindow * 64 < e.natAbs →
    c.kind = .manual →
    (c.state = .capturing ∨ (c.state = .locked ∧ (s.profile p).unlockWindow < e.natAbs)) →
    (s.profile p).lockWindow < e.natAbs ∧ 1 ≤ (s.profile p).lockCount →
    point = posAdd s.std target (2 * rate s.std * 64 : Nat) →
    (workChase p c target s).1.chase p = some { c with
        state := .seeking, lockRun := 0, lastError := some e, cuePoint := some point } ∧
      (workChase p c target s).2 = [] ∧ (c.state = .locked → Notice.lock p false ∈ (workChase p c target s).1.notices) ∧
      (s.holder p = .console →
        ((workChase p c target s).1.transport p).state = .cueing ∧ ((workChase p c target s).1.transport p).speed = 0 ∧
        ((workChase p c target s).1.transport p).cue = some {
          requester := .chase, target := point, attempts := 1, acked := false, elapsed := 0, lastStop := none })) ∧
  (∀ (s : State) (p : Port) (c : Chase) (target : Nat),
    ((s.transport p).state ≠ .rolling ∨ (s.tracker p).settle ≠ 0 ∨ 8 ≤ (s.tracker p).age ∨ 8 ≤ (s.tracker c.master).age) →
    (c.state = .capturing ∨ c.state = .locked) →
    (workChase p c target s).1 = { s with
        chases := s.chases.set p (some { c with lockRun := if c.state = .capturing then 0 else c.lockRun }) })

/-- PERFORM, PREVIEW and REVIEW (R135): the arm of R139 after the checks of R136 to R138, and the conditions of those checks. That a deck without a reported condition fails the threaded and inhibit tests is log entry 25. -/
def Obligations.ASingleEditArmsAndCuesItsDecks : Prop :=
  (∀ (s : State) (m : Mode) (body : List Byte) (e : Event) (d : DeckSet) (r : Nat),
    Ready s →
    PollsShort s →
    s.list.ripple = none →
    m ≠ .run →
    s.seq.phase = .idle →
    body.length = 2 →
    findKey s.list (half body 0) = some e →
    armChecks m e [] s = .ok d →
    r = min (s.live.system.preroll * rate s.std) e.recIn →
    ∃ t, exec (editRequest m body) s = .next t ∧ t.seq = { Sequencer.idle with
        phase := .cueing, mode := some m, heldKey := some e.key, copy := some e, decks := some d, preroll := r
        cuePoints := some {
          recorder := (((e.recIn : Int) - r) * 64 % (dayLength s.std : Int)).toNat
          toPos := d.toPort.map (fun _ => (((e.toSrc.start : Int) - (r * e.rate.getD 1024 / 1024 : Nat)) * 64 %
            (dayLength s.std : Int)).toNat)
          fromPos := if d.fromPort.isSome then
              (fromSource e).map (fun f => (((f.start : Int) - r) * 64 % (dayLength s.std : Int)).toNat)
            else none } } ∧
      t.holders = s.holders.mapAll (fun p h => if p ∈ deckPorts d then .sequencer else h) ∧
      t.link = answered s body (say (BitVec.ofNat 8 (editCode m))
        (if e.recIn < s.live.system.preroll * rate s.std then .adjusted else .started)
        (b2 e.key ++ b1 (seqModeCode m) ++ bDecks d ++ b2 r)) ∧
      (∀ q ∈ allPorts, q ∉ deckPorts d → t.port q = s.port q ∧ t.transport q = s.transport q ∧ t.tracker q = s.tracker q) ∧
      ((∀ p ∈ deckPorts d, (s.transport p).cue = none ∧ (s.transport p).motion = none) → t.notices = s.notices) ∧
      { t with
        seq := s.seq, holders := s.holders, link := s.link, ports := s.ports, transports := s.transports
        trackers := s.trackers, notices := s.notices } = s) ∧
  (∀ (s : State) (m : Mode) (body : List Byte) (e : Event) (d : DeckSet) (p : Port),
    Ready s →
    s.list.ripple = none →
    m ≠ .run →
    s.seq.phase = .idle →
    body.length = 2 →
    findKey s.list (half body 0) = some e →
    armChecks m e [] s = .ok d →
    (deckPorts d).Nodup →
    p ∈ deckPorts d →
    movable (s.transport p).state = true →
    ∃ t, exec (editRequest m body) s = .next t ∧ (t.transport p).state = .cueing ∧ ∃ c ∈ t.seq.cuePoints, ∃ y ∈ [some c.recorder, c.toPos, c.fromPos],
        ∃ q ∈ y, (t.transport p).cue = some {
          requester := .sequencer, target := q, attempts := 1, acked := false, elapsed := 0, lastStop := none } ∧
        (p = d.recorder → some q = some c.recorder) ∧ (some p = d.toPort → some q = c.toPos) ∧
        (some p = d.fromPort → some q = c.fromPos)) ∧
  (∀ (s : State) (m : Mode) (e : Event) (ours : List Port) (d : DeckSet),
    armChecks m e ours s = .ok d ↔
      (recordMode m = true → s.ref.state = .present) ∧ s.recorder = some d.recorder ∧
      (if m = .review then d.toPort = none ∧ d.fromPort = none
        else d.toPort.isSome ∧ d.toPort = mountedPort s e.toSrc.reel ∧ d.fromPort = (fromSource e).bind (fun f => mountedPort s f.reel) ∧
          ((fromSource e).isSome → d.fromPort.isSome ∧ d.fromPort ≠ d.toPort)) ∧
      (∀ p ∈ deckPorts d, (s.port p).line = .online ∧ (s.transport p).state ≠ .empty ∧
        ((s.transport p).state = .standby ∨ (s.transport p).state = .waking ∨ ∃ c ∈ (s.transport p).condition, c.threaded = true)) ∧
      (recordMode m = true → s.live.system.windowStart ≤ e.recIn ∧
        e.recOut ≤ s.live.system.windowStart + s.live.system.windowLength ∧
        ∃ c ∈ (s.transport d.recorder).condition, c.inhibit = false) ∧
      (∀ p ∈ d.toPort, (s.profile p).motionMin ≤ e.rate.getD 1024 ∧ e.rate.getD 1024 ≤ (s.profile p).motionMax) ∧
      (∀ p ∈ d.toPort.toList ++ d.fromPort.toList, 0 < (s.profile p).varispeed) ∧
      ∀ p ∈ deckPorts d, s.holder p = .free ∨ p ∈ ours) ∧
  (∀ (s : State) (m : Mode) (body : List Byte),
    Ready s →
    PollsShort s →
    m ≠ .run →
    s.seq.phase ≠ .idle →
    body.length = 2 →
    exec (editRequest m body) s = .next { s with link := answered s body (deny (BitVec.ofNat 8 (editCode m)) .state) }) ∧
  (∀ (s : State) (m : Mode) (body : List Byte),
    Ready s →
    PollsShort s →
    s.list.ripple = none →
    m ≠ .run →
    s.seq.phase = .idle →
    body.length = 2 →
    keyUsed s.list (half body 0) = false →
    exec (editRequest m body) s = .next { s with link := answered s body (deny (BitVec.ofNat 8 (editCode m)) .notFound) })

/-- SEQUENCER_ROLL (R140, R141) in the modes that drive the outputs and in REVIEW. That the set of parked decks stays in the record through the roll is log entry 31; that it does nothing with a deck not parked is log entry 9. -/
def Obligations.TheRollStartsEveryDeckAndStagesTheOutputs : Prop :=
  (∀ (s : State) (x : Edit),
    s.inReset = false →
    PollsShort s →
    liveEdit s = some x →
    s.seq.phase = .cueing →
    (∀ p ∈ deckPorts x.decks, p ∈ s.seq.parked) →
    (deckPorts x.decks).Nodup →
    (∀ p ∈ deckPorts x.decks, s.holder p = .sequencer ∧ movable (s.transport p).state = true) →
    x.mode ≠ .review →
    x.decks.toPort.isSome →
    ∃ t, exec .sequencerRoll s = .next t ∧ t.seq = { s.seq with phase := .preroll, rollFrame := some s.frame } ∧
      (∀ p ∈ allPorts,
        if p ∈ deckPorts x.decks then
          t.transport p = { s.transport p with
            state := .rolling, speed := rollSpeed x p, lastKind := some .play, cue := none, standbyTimer := 0 } ∧
          t.tracker p = { s.tracker p with
            settle := if changeMark (s.transport p) (.play (rollSpeed x p)) then (s.profile p).settle
              else (s.tracker p).settle } ∧
          t.port p = { s.port p with
            commands := if (s.port p).line = .online then enqueue (.play (rollSpeed x p)) (s.port p).commands
              else (s.port p).commands
            countdown := min (s.port p).countdown (cadence t p) }
        else t.transport p = s.transport p ∧ t.tracker p = s.tracker p ∧ t.port p = s.port p) ∧
      ((∀ p ∈ deckPorts x.decks, ∀ q ∈ (s.transport p).cue, q.requester = .sequencer) → t.notices = s.notices) ∧
      (∀ p ∈ x.decks.toPort, t.chase p = some {
        kind := .sequencer, master := x.decks.recorder
        masterAnchor := x.event.recIn * 64 % dayLength s.std, chaserAnchor := x.event.toSrc.start * 64 % dayLength s.std
        rate := x.event.rate.getD 1024, state := .capturing, lockRun := 0, outOfCapture := false, cuePoint := none
        lastTarget := none, lastError := none }) ∧
      (∀ p ∈ x.decks.fromPort, ∀ f ∈ fromSource x.event, t.chase p = some {
        kind := .sequencer, master := x.decks.recorder
        masterAnchor := x.event.recIn * 64 % dayLength s.std, chaserAnchor := f.start * 64 % dayLength s.std
        rate := 1024, state := .capturing, lockRun := 0, outOfCapture := false, cuePoint := none
        lastTarget := none, lastError := none }) ∧
      t.mix = { s.mix with
        ramp := none
        staged := some {
          busA := ((if (fromSource x.event).isSome then x.decks.fromPort else x.decks.toPort).map portNum).getD 0
          busB := if (fromSource x.event).isSome then (x.decks.toPort.map portNum).getD 0 else 0
          coef := 0, pattern := ((wipeOf x.event).getD (s.mix.out.pattern, s.mix.out.reverse)).1
          reverse := ((wipeOf x.event).getD (s.mix.out.pattern, s.mix.out.reverse)).2 } } ∧
      t.gpi.armed = some {
        mode := x.mode, recIn := x.event.recIn
        triggers := x.event.triggers.map (fun g => {
          line := g.line, point := (((x.event.recIn : Int) + g.offset) % (fday s.std : Int)).toNat
          fired := reached x s ((((x.event.recIn : Int) + g.offset) % (fday s.std : Int)).toNat : Nat) }) } ∧
      (∀ l ∈ allLines, t.gpi.lines.get l =
        if s.gpi.lines.get l = none ∧ (s.live.gpi.get l).enable = true ∧
            (x.mode = .preview → (s.live.gpi.get l).inPreview = true) ∧
            ∃ g ∈ x.event.triggers, g.line = l ∧ reached x s ((((x.event.recIn : Int) + g.offset) % (fday s.std : Int)).toNat : Nat) = true
          then some (if (s.live.gpi.get l).level then .level false else .pulse 0)
        else s.gpi.lines.get l) ∧
      (∀ p ∈ allPorts, p ∉ deckPorts x.decks → t.chase p = s.chase p) ∧
      t.recorderFrame = (s.tracker x.decks.recorder).position / 64 ∧
      { t with
        seq := s.seq, ports := s.ports, transports := s.transports, trackers := s.trackers, chases := s.chases, mix := s.mix
        gpi := s.gpi, notices := s.notices, recorderFrame := s.recorderFrame } = s) ∧
  (∀ (s : State) (x : Edit),
    s.inReset = false →
    PollsShort s →
    liveEdit s = some x →
    s.seq.phase = .cueing →
    (∀ p ∈ deckPorts x.decks, p ∈ s.seq.parked) →
    x.decks = ⟨x.decks.recorder, none, none⟩ →
    (∀ p ∈ deckPorts x.decks, s.holder p = .sequencer ∧ movable (s.transport p).state = true) →
    x.mode = .review →
    ∃ t, exec .sequencerRoll s = .next t ∧ t.seq = { s.seq with phase := .preroll, rollFrame := some s.frame } ∧
      (∀ p ∈ allPorts,
        if p ∈ deckPorts x.decks then
          t.transport p = { s.transport p with
            state := .rolling, speed := rollSpeed x p, lastKind := some .play, cue := none, standbyTimer := 0 } ∧
          t.tracker p = { s.tracker p with
            settle := if changeMark (s.transport p) (.play (rollSpeed x p)) then (s.profile p).settle
              else (s.tracker p).settle } ∧
          t.port p = { s.port p with
            commands := if (s.port p).line = .online then enqueue (.play (rollSpeed x p)) (s.port p).commands
              else (s.port p).commands
            countdown := min (s.port p).countdown (cadence t p) }
        else t.transport p = s.transport p ∧ t.tracker p = s.tracker p ∧ t.port p = s.port p) ∧
      ((∀ p ∈ deckPorts x.decks, ∀ q ∈ (s.transport p).cue, q.requester = .sequencer) → t.notices = s.notices) ∧
      t.recorderFrame = (s.tracker x.decks.recorder).position / 64 ∧
      { t with
        seq := s.seq, ports := s.ports, transports := s.transports, trackers := s.trackers, notices := s.notices
        recorderFrame := s.recorderFrame } = s) ∧
  (∀ (s : State),
    PollsShort s →
    (∀ y ∈ liveEdit s, s.seq.phase ≠ .cueing ∨ ∃ p ∈ deckPorts y.decks, p ∉ s.seq.parked) →
    exec .sequencerRoll s = .next s)

/-- ABORT (R156), ENGAGE_TIMEOUT and RELEASE_TIMEOUT (R148) and POSTROLL_END (R147) of an edit in each mode (R149), with all that an ending does (R153 to R155, R184), and the deck faults and cue failures that end a PREVIEW or REVIEW (R150, R152). The early mark of an ABORT in POSTROLL is log entry 28; that the timed commands do nothing without their condition, and that CUE_TIMEOUT is a command of its own, is log entry 9. -/
def Obligations.HowARecordingEditEnds : Prop :=
  (∀ (s : State) (x : Edit) (c : Instr) (fc : FaultClass),
    s.inReset = false →
    PollsShort s →
    liveEdit s = some x →
    recordMode x.mode = true →
    ((c = .abort [] ∧ Ready s ∧ s.seq.phase ≠ .postroll ∧ fc = .abort) ∨
      ((c = .engageTimeout ∨ c = .releaseTimeout) ∧ endMoment x s c = true ∧ fc = .recorder)) →
    ∃ t, exec c s = .next t ∧ t.seq = { s.seq with
        closing := true, released := s.seq.released || s.seq.engaged
        outcome := some {
        key := x.event.key, mode := x.mode, outcome := .fault fc, phase := s.seq.phase, early := none
        slip := s.seq.slipped, written := some (if s.seq.engaged then .cut fc else .failed fc) }
        handed := some (.final { key := x.event.key, status := some (if s.seq.engaged then .cut fc else .failed fc), previewed := false }) } ∧
      t.holders = s.holders ∧
      (∀ p ∈ deckPorts x.decks, s.holder p = .sequencer →
        (movable (s.transport p).state = true → (t.transport p).state = .idle ∧ (t.transport p).speed = 0 ∧
          ((s.port p).line = .online → DeckCmd.halt ∈ (t.port p).commands)) ∧
        ((s.transport p).state = .waking → (t.transport p).motion = none)) ∧
      (∀ p ∈ allPorts, p ∉ deckPorts x.decks → t.port p = s.port p ∧ t.transport p = s.transport p ∧
        t.tracker p = s.tracker p) ∧
      (s.seq.engaged = true → s.seq.released = false → (t.port x.decks.recorder).permission = false ∧
        ((s.port x.decks.recorder).line = .online → DeckCmd.disengage ∈ (t.port x.decks.recorder).commands)) ∧
      t.chases = s.chases.mapAll (fun p r =>
        if p ∈ players x.decks ∧ ∃ y ∈ r, y.kind = .sequencer then none else r) ∧
      t.mix = { s.mix with ramp := none } ∧
      t.gpi.armed = none ∧
      (∀ l ∈ allLines, t.gpi.lines.get l = match s.gpi.lines.get l with
        | some (.level _) => some (.level true)
        | other => other) ∧
      ((∀ p ∈ deckPorts x.decks, (∀ q ∈ (s.transport p).cue, q.requester = .sequencer) ∧
        ∀ m ∈ (s.transport p).motion, m.requester = .sequencer) →
        t.notices = s.notices) ∧
      t.link = (if c = .abort [] then answered s [] (say 0x21 .done []) else s.link) ∧
      { t with
        seq := s.seq, holders := s.holders, ports := s.ports, transports := s.transports, trackers := s.trackers
        chases := s.chases, mix := s.mix, gpi := s.gpi, notices := s.notices, link := s.link } = s) ∧
  (∀ (s : State) (x : Edit) (c : Instr) (early : Option FaultClass) (st : Option EventStatus),
    s.inReset = false →
    PollsShort s →
    liveEdit s = some x →
    x.mode ≠ .review →
    ((c = .abort [] ∧ Ready s ∧ s.seq.phase = .postroll ∧ early = some .abort) ∨
      (c = .postrollEnd ∧ endMoment x s c = true ∧ early = none)) →
    (st = if x.mode = .preview then none else some (if s.seq.slipped then EventStatus.slipped else .done)) →
    ∃ t, exec c s = .next t ∧ t.seq = { s.seq with
        closing := true, released := s.seq.released || s.seq.engaged
        outcome := some {
        key := x.event.key, mode := x.mode, outcome := .complete, phase := s.seq.phase, early := early
        slip := s.seq.slipped, written := st }
        handed := some (.final { key := x.event.key, status := st, previewed := x.mode = .preview }) } ∧
      t.holders = s.holders ∧
      (∀ p ∈ deckPorts x.decks, s.holder p = .sequencer →
        (movable (s.transport p).state = true → (t.transport p).state = .idle ∧ (t.transport p).speed = 0 ∧
          ((s.port p).line = .online → DeckCmd.halt ∈ (t.port p).commands)) ∧
        ((s.transport p).state = .waking → (t.transport p).motion = none)) ∧
      (∀ p ∈ allPorts, p ∉ deckPorts x.decks → t.port p = s.port p ∧ t.transport p = s.transport p ∧
        t.tracker p = s.tracker p) ∧
      (s.seq.engaged = true → s.seq.released = false → (t.port x.decks.recorder).permission = false ∧
        ((s.port x.decks.recorder).line = .online → DeckCmd.disengage ∈ (t.port x.decks.recorder).commands)) ∧
      t.chases = s.chases.mapAll (fun p r =>
        if p ∈ players x.decks ∧ ∃ y ∈ r, y.kind = .sequencer then none else r) ∧
      t.mix = { s.mix with ramp := none } ∧
      t.gpi.armed = none ∧
      (∀ l ∈ allLines, t.gpi.lines.get l = match (if early = none then testTriggers (fun _ => true) s else s).gpi.lines.get l with
        | some (.level _) => some (.level true)
        | other => other) ∧
      ((∀ p ∈ deckPorts x.decks, (∀ q ∈ (s.transport p).cue, q.requester = .sequencer) ∧
        ∀ m ∈ (s.transport p).motion, m.requester = .sequencer) →
        t.notices = s.notices) ∧
      t.link = (if c = .abort [] then answered s [] (say 0x21 .done []) else s.link) ∧
      { t with
        seq := s.seq, holders := s.holders, ports := s.ports, transports := s.transports, trackers := s.trackers
        chases := s.chases, mix := s.mix, gpi := s.gpi, notices := s.notices, link := s.link } = s) ∧
  (∀ (s : State) (x : Edit) (c : Instr) (fc : FaultClass),
    s.inReset = false →
    PollsShort s →
    liveEdit s = some x →
    x.mode = .preview →
    ((c = .abort [] ∧ Ready s ∧ s.seq.phase ≠ .postroll ∧ fc = .abort) ∨
      ((c = .engageTimeout ∨ c = .releaseTimeout) ∧ endMoment x s c = true ∧ fc = .recorder)) →
    ∃ t, exec c s = .next t ∧ t.seq = Sequencer.idle ∧
      t.holders = s.holders.mapAll (fun p h => if p ∈ deckPorts x.decks then .free else h) ∧
      Notice.editEnd {
        key := x.event.key, mode := x.mode, outcome := .fault fc, phase := s.seq.phase, early := none
        slip := s.seq.slipped, written := none } ∈ t.notices ∧
      ((∀ p ∈ deckPorts x.decks, (∀ q ∈ (s.transport p).cue, q.requester = .sequencer) ∧
        ∀ m ∈ (s.transport p).motion, m.requester = .sequencer) →
        t.notices = putNotice (.editEnd {
        key := x.event.key, mode := x.mode, outcome := .fault fc, phase := s.seq.phase, early := none
        slip := s.seq.slipped, written := none }) s.notices) ∧
      (∀ p ∈ deckPorts x.decks, s.holder p = .sequencer →
        (movable (s.transport p).state = true → (t.transport p).state = .idle ∧ (t.transport p).speed = 0 ∧
          ((s.port p).line = .online → DeckCmd.halt ∈ (t.port p).commands)) ∧
        ((s.transport p).state = .waking → (t.transport p).motion = none)) ∧
      (∀ p ∈ allPorts, p ∉ deckPorts x.decks → t.port p = s.port p ∧ t.transport p = s.transport p ∧
        t.tracker p = s.tracker p) ∧
      (s.seq.engaged = true → s.seq.released = false → (t.port x.decks.recorder).permission = false ∧
        ((s.port x.decks.recorder).line = .online → DeckCmd.disengage ∈ (t.port x.decks.recorder).commands)) ∧
      t.chases = s.chases.mapAll (fun p r =>
        if p ∈ players x.decks ∧ ∃ y ∈ r, y.kind = .sequencer then none else r) ∧
      t.mix = { s.mix with ramp := none } ∧
      t.gpi.armed = none ∧
      (∀ l ∈ allLines, t.gpi.lines.get l = match s.gpi.lines.get l with
        | some (.level _) => some (.level true)
        | other => other) ∧
      t.link = (if c = .abort [] then answered s [] (say 0x21 .done []) else s.link) ∧
      { t with
        seq := s.seq, holders := s.holders, ports := s.ports, transports := s.transports, trackers := s.trackers
        chases := s.chases, mix := s.mix, gpi := s.gpi, notices := s.notices, link := s.link } = s) ∧
  (∀ (s : State) (x : Edit) (c : Instr) (fc : FaultClass),
    s.inReset = false →
    PollsShort s →
    liveEdit s = some x →
    x.mode = .review →
    ((c = .abort [] ∧ Ready s ∧ s.seq.phase ≠ .postroll ∧ fc = .abort) ∨
      ((c = .engageTimeout ∨ c = .releaseTimeout) ∧ endMoment x s c = true ∧ fc = .recorder)) →
    ∃ t, exec c s = .next t ∧ t.seq = Sequencer.idle ∧
      t.holders = s.holders.mapAll (fun p h => if p ∈ deckPorts x.decks then .free else h) ∧
      Notice.editEnd {
        key := x.event.key, mode := x.mode, outcome := .fault fc, phase := s.seq.phase, early := none
        slip := s.seq.slipped, written := none } ∈ t.notices ∧
      ((∀ p ∈ deckPorts x.decks, (∀ q ∈ (s.transport p).cue, q.requester = .sequencer) ∧
        ∀ m ∈ (s.transport p).motion, m.requester = .sequencer) →
        t.notices = putNotice (.editEnd {
        key := x.event.key, mode := x.mode, outcome := .fault fc, phase := s.seq.phase, early := none
        slip := s.seq.slipped, written := none }) s.notices) ∧
      (∀ p ∈ deckPorts x.decks, s.holder p = .sequencer →
        (movable (s.transport p).state = true → (t.transport p).state = .idle ∧ (t.transport p).speed = 0 ∧
          ((s.port p).line = .online → DeckCmd.halt ∈ (t.port p).commands)) ∧
        ((s.transport p).state = .waking → (t.transport p).motion = none)) ∧
      (∀ p ∈ allPorts, p ∉ deckPorts x.decks → t.port p = s.port p ∧ t.transport p = s.transport p ∧
        t.tracker p = s.tracker p) ∧
      (s.seq.engaged = true → s.seq.released = false → (t.port x.decks.recorder).permission = false ∧
        ((s.port x.decks.recorder).line = .online → DeckCmd.disengage ∈ (t.port x.decks.recorder).commands)) ∧
      t.chases = s.chases.mapAll (fun p r =>
        if p ∈ players x.decks ∧ ∃ y ∈ r, y.kind = .sequencer then none else r) ∧
      t.mix = s.mix ∧ t.gpi = s.gpi ∧
      t.link = (if c = .abort [] then answered s [] (say 0x21 .done []) else s.link) ∧
      { t with
        seq := s.seq, holders := s.holders, ports := s.ports, transports := s.transports, trackers := s.trackers
        chases := s.chases, mix := s.mix, gpi := s.gpi, notices := s.notices, link := s.link } = s) ∧
  (∀ (s : State) (x : Edit) (c : Instr) (early : Option FaultClass),
    s.inReset = false →
    PollsShort s →
    liveEdit s = some x →
    x.mode = .review →
    ((c = .abort [] ∧ Ready s ∧ s.seq.phase = .postroll ∧ early = some .abort) ∨
      (c = .postrollEnd ∧ endMoment x s c = true ∧ early = none)) →
    ∃ t, exec c s = .next t ∧ t.seq = Sequencer.idle ∧
      t.holders = s.holders.mapAll (fun p h => if p ∈ deckPorts x.decks then .free else h) ∧
      Notice.editEnd {
        key := x.event.key, mode := x.mode, outcome := .complete, phase := s.seq.phase, early := early
        slip := s.seq.slipped, written := none } ∈ t.notices ∧
      ((∀ p ∈ deckPorts x.decks, (∀ q ∈ (s.transport p).cue, q.requester = .sequencer) ∧
        ∀ m ∈ (s.transport p).motion, m.requester = .sequencer) →
        t.notices = putNotice (.editEnd {
        key := x.event.key, mode := x.mode, outcome := .complete, phase := s.seq.phase, early := early
        slip := s.seq.slipped, written := none }) s.notices) ∧
      (∀ p ∈ deckPorts x.decks, s.holder p = .sequencer →
        (movable (s.transport p).state = true → (t.transport p).state = .idle ∧ (t.transport p).speed = 0 ∧
          ((s.port p).line = .online → DeckCmd.halt ∈ (t.port p).commands)) ∧
        ((s.transport p).state = .waking → (t.transport p).motion = none)) ∧
      (∀ p ∈ allPorts, p ∉ deckPorts x.decks → t.port p = s.port p ∧ t.transport p = s.transport p ∧
        t.tracker p = s.tracker p) ∧
      (s.seq.engaged = true → s.seq.released = false → (t.port x.decks.recorder).permission = false ∧
        ((s.port x.decks.recorder).line = .online → DeckCmd.disengage ∈ (t.port x.decks.recorder).commands)) ∧
      t.chases = s.chases.mapAll (fun p r =>
        if p ∈ players x.decks ∧ ∃ y ∈ r, y.kind = .sequencer then none else r) ∧
      t.mix = s.mix ∧ t.gpi = s.gpi ∧
      t.link = (if c = .abort [] then answered s [] (say 0x21 .done []) else s.link) ∧
      { t with
        seq := s.seq, holders := s.holders, ports := s.ports, transports := s.transports, trackers := s.trackers
        chases := s.chases, mix := s.mix, gpi := s.gpi, notices := s.notices, link := s.link } = s) ∧
  (∀ (s : State),
    Ready s →
    PollsShort s →
    (s.seq.phase = .idle ∨ s.seq.closing = true) →
    exec (.abort []) s = .next { s with link := answered s [] (if s.seq.phase = .idle then deny 0x21 .state else say 0x21 .done []) }) ∧
  (∀ (s : State) (c : Instr),
    PollsShort s →
    (c = .engageTimeout ∨ c = .releaseTimeout ∨ c = .postrollEnd) →
    (∀ x ∈ liveEdit s, endMoment x s c = false) →
    exec c s = .next s) ∧
  (∀ (s : State) (x : Edit) (p : Port) (fc : FaultClass) (y : Exchange),
    s.inReset = false →
    liveEdit s = some x →
    p ∈ deckPorts x.decks →
    s.holder p = .sequencer →
    recordMode x.mode = false →
    (s.port p).exchange = some y →
    (s.port p).misses = 3 →
    (s.port p).line ≠ .offline →
    fc = (if p = x.decks.recorder then FaultClass.recorder else .player) →
    ∃ t, exec (.replyTimeout p) s = .next t ∧ (if x.mode = .preview ∧ s.seq.phase = .postroll then
        t.seq = { s.seq with
          closing := true, released := s.seq.released || s.seq.engaged
          outcome := some {
          key := x.event.key, mode := x.mode
          outcome := if s.seq.phase = .postroll then .complete else .fault fc, phase := s.seq.phase
          early := if s.seq.phase = .postroll then some fc else none, slip := s.seq.slipped, written := none }
          handed := some (.final { key := x.event.key, status := none, previewed := true }) } ∧ t.holders = s.holders
      else t.seq = Sequencer.idle ∧
        t.holders = s.holders.mapAll (fun q h => if q ∈ deckPorts x.decks then .free else h) ∧
        Notice.editEnd {
          key := x.event.key, mode := x.mode
          outcome := if s.seq.phase = .postroll then .complete else .fault fc, phase := s.seq.phase
          early := if s.seq.phase = .postroll then some fc else none, slip := s.seq.slipped, written := none } ∈ t.notices) ∧
      (∀ q ∈ deckPorts x.decks, q ≠ p → s.holder q = .sequencer → movable (s.transport q).state = true →
        (t.transport q).state = .idle ∧ (t.transport q).speed = 0) ∧
      (x.mode = .preview → t.mix = { s.mix with ramp := none } ∧ t.gpi.armed = none) ∧
      (x.mode = .review → t.mix = s.mix ∧ t.gpi = s.gpi) ∧
      t.list = s.list ∧ t.ref = s.ref ∧ t.live = s.live ∧ t.link = s.link) ∧
  (∀ (s : State) (x : Edit) (p : Port) (fc : FaultClass) (y : Exchange) (pos : Nat) (c : Condition) (chars : List LineChar),
    s.inReset = false →
    liveEdit s = some x →
    p ∈ deckPorts x.decks →
    s.holder p = .sequencer →
    recordMode x.mode = false →
    (s.port p).exchange = some y →
    readReply s.std (cmdKind y.cmd) chars = some (c, pos) →
    (s.port p).line = .online →
    movable (s.transport p).state = true →
    (s.transport p).motion = none →
    (c.remote = false ∨ c.mode = .noTape ∨ c.mode = .standby ∨
      (c.threaded = false ∧ (s.transport p).state ≠ .cueing ∧ ∃ o ∈ (s.transport p).condition, o.threaded = true)) →
    fc = (if p = x.decks.recorder then FaultClass.recorder else .player) →
    ∃ t, exec (.deckReply p chars) s = .next t ∧ (if x.mode = .preview ∧ s.seq.phase = .postroll then
        t.seq = { s.seq with
          closing := true, released := s.seq.released || s.seq.engaged
          outcome := some {
          key := x.event.key, mode := x.mode
          outcome := if s.seq.phase = .postroll then .complete else .fault fc, phase := s.seq.phase
          early := if s.seq.phase = .postroll then some fc else none, slip := s.seq.slipped, written := none }
          handed := some (.final { key := x.event.key, status := none, previewed := true }) } ∧ t.holders = s.holders
      else t.seq = Sequencer.idle ∧
        t.holders = s.holders.mapAll (fun q h => if q ∈ deckPorts x.decks then .free else h) ∧
        Notice.editEnd {
          key := x.event.key, mode := x.mode
          outcome := if s.seq.phase = .postroll then .complete else .fault fc, phase := s.seq.phase
          early := if s.seq.phase = .postroll then some fc else none, slip := s.seq.slipped, written := none } ∈ t.notices) ∧
      (∀ q ∈ deckPorts x.decks, q ≠ p → s.holder q = .sequencer → movable (s.transport q).state = true →
        (t.transport q).state = .idle ∧ (t.transport q).speed = 0) ∧
      (x.mode = .preview → t.mix = { s.mix with ramp := none } ∧ t.gpi.armed = none) ∧
      (x.mode = .review → t.mix = s.mix ∧ t.gpi = s.gpi) ∧
      t.list = s.list ∧ t.ref = s.ref ∧ t.live = s.live ∧ t.link = s.link) ∧
  (∀ (s : State) (x : Edit) (p : Port) (fc : FaultClass) (q : Cue),
    s.inReset = false →
    liveEdit s = some x →
    p ∈ deckPorts x.decks →
    s.holder p = .sequencer →
    recordMode x.mode = false →
    (s.transport p).state = .cueing →
    (s.transport p).cue = some q →
    q.requester = .sequencer →
    (s.profile p).cueTime * rate s.std ≤ q.elapsed →
    s.seq.phase ≠ .postroll →
    fc = .cue →
    ∃ t, exec (.cueTimeout p) s = .next t ∧ (if x.mode = .preview ∧ s.seq.phase = .postroll then
        t.seq = { s.seq with
          closing := true, released := s.seq.released || s.seq.engaged
          outcome := some {
          key := x.event.key, mode := x.mode
          outcome := if s.seq.phase = .postroll then .complete else .fault fc, phase := s.seq.phase
          early := if s.seq.phase = .postroll then some fc else none, slip := s.seq.slipped, written := none }
          handed := some (.final { key := x.event.key, status := none, previewed := true }) } ∧ t.holders = s.holders
      else t.seq = Sequencer.idle ∧
        t.holders = s.holders.mapAll (fun q h => if q ∈ deckPorts x.decks then .free else h) ∧
        Notice.editEnd {
          key := x.event.key, mode := x.mode
          outcome := if s.seq.phase = .postroll then .complete else .fault fc, phase := s.seq.phase
          early := if s.seq.phase = .postroll then some fc else none, slip := s.seq.slipped, written := none } ∈ t.notices) ∧
      (∀ q ∈ deckPorts x.decks, q ≠ p → s.holder q = .sequencer → movable (s.transport q).state = true →
        (t.transport q).state = .idle ∧ (t.transport q).speed = 0) ∧
      (x.mode = .preview → t.mix = { s.mix with ramp := none } ∧ t.gpi.armed = none) ∧
      (x.mode = .review → t.mix = s.mix ∧ t.gpi = s.gpi) ∧
      t.list = s.list ∧ t.ref = s.ref ∧ t.live = s.live ∧ t.link = s.link)

/-- RUN (R160, R161, R164) and the responses of a run (R165, R166). The labels used in the answer of an armed run are log entry 18, the range of a RUN END as labels log entry 14. -/
def Obligations.RunTakesTheFirstEligibleEventAndAnswersItsResponses : Prop :=
  (∀ (s : State) (body : List Byte) (a : Nat) (ma : Bool) (b : Nat) (mb : Bool) (fm : FaultMode) (run : Run),
    Ready s →
    PollsShort s →
    s.list.ripple = none →
    body.length = 10 →
    s.seq.phase = .idle →
    s.ref.state = .present →
    s.recorder.isSome →
    readLabel s.std false (labelAt body 0) = some (a, ma) →
    readLabel s.std false (labelAt body 4) = some (b, mb) →
    faultModeOf (byteAt body 8) = some fm →
    byteAt body 9 ≤ 1 →
    a < b →
    run = {
      start := a, stop := b, faultMode := fm, redo := byteAt body 9 = 1, lastPair := none, done := 0, failed := 0
      skipped := 0 } →
    s.list.events.find? (fun e => decide (a ≤ e.recIn ∧ e.recIn < b ∧ (run.redo = true ∨ (e.status ≠ .done ∧ e.status ≠ .slipped)))) = none →
    exec (.run body) s = .next { s with link := answered s body (deny 0x23 .notFound) }) ∧
  (∀ (s : State) (body : List Byte) (a : Nat) (ma : Bool) (b : Nat) (mb : Bool) (fm : FaultMode) (run : Run) (e : Event) (d : DeckSet) (r : Nat),
    Ready s →
    PollsShort s →
    s.list.ripple = none →
    body.length = 10 →
    s.seq.phase = .idle →
    s.ref.state = .present →
    s.recorder.isSome →
    readLabel s.std false (labelAt body 0) = some (a, ma) →
    readLabel s.std false (labelAt body 4) = some (b, mb) →
    faultModeOf (byteAt body 8) = some fm →
    byteAt body 9 ≤ 1 →
    a < b →
    run = {
      start := a, stop := b, faultMode := fm, redo := byteAt body 9 = 1, lastPair := none, done := 0, failed := 0
      skipped := 0 } →
    (s.list.events.map Event.key).Nodup →
    s.list.events.find? (fun e => decide (a ≤ e.recIn ∧ e.recIn < b ∧ (run.redo = true ∨ (e.status ≠ .done ∧ e.status ≠ .slipped)))) = some e →
    armChecks .run e [] s = .ok d →
    r = min (s.live.system.preroll * rate s.std) e.recIn →
    ∃ t, exec (.run body) s = .next t ∧ t.seq = { Sequencer.idle with
        phase := .cueing, mode := some .run, heldKey := some e.key, copy := some e, decks := some d, preroll := r
        cuePoints := some (cuePointsFor s.std d e r), run := some run } ∧
      t.holders = s.holders.mapAll (fun p h => if p ∈ deckPorts d then .sequencer else h) ∧
      t.link = answered s body (say 0x23 (if ma = true ∨ mb = true ∨ r < s.live.system.preroll * rate s.std then .adjusted else .started)
        (b2 e.key ++ bDecks d ++ b2 r ++ b2 0 ++ bOpt 4 bLabel (if ma then some { labelAt body 0 with ff := 2 } else none)
          ++ bOpt 4 bLabel (if mb then some { labelAt body 4 with ff := 2 } else none))) ∧
      (∀ q ∈ allPorts, q ∉ deckPorts d → t.port q = s.port q ∧ t.transport q = s.transport q ∧ t.tracker q = s.tracker q) ∧
      { t with
        seq := s.seq, holders := s.holders, link := s.link, ports := s.ports, transports := s.transports
        trackers := s.trackers, notices := s.notices } = s) ∧
  (∀ (s : State) (body : List Byte) (a : Nat) (ma : Bool) (b : Nat) (mb : Bool) (fm : FaultMode) (run : Run) (e : Event) (why : Reason) (c : FaultClass) (u : RunEnd),
    Ready s →
    PollsShort s →
    s.list.ripple = none →
    body.length = 10 →
    s.seq.phase = .idle →
    s.ref.state = .present →
    s.recorder.isSome →
    readLabel s.std false (labelAt body 0) = some (a, ma) →
    readLabel s.std false (labelAt body 4) = some (b, mb) →
    faultModeOf (byteAt body 8) = some fm →
    byteAt body 9 ≤ 1 →
    a < b →
    run = {
      start := a, stop := b, faultMode := fm, redo := byteAt body 9 = 1, lastPair := none, done := 0, failed := 0
      skipped := 0 } →
    (s.list.events.map Event.key).Nodup →
    fm = .stop →
    s.list.events.find? (fun e => decide (a ≤ e.recIn ∧ e.recIn < b ∧ (run.redo = true ∨ (e.status ≠ .done ∧ e.status ≠ .slipped)))) = some e →
    armChecks .run e [] s = .error why →
    c = (if why = .noReference then .reference else if why = .inhibit then .recorder else if why = .held then .claim else .check) →
    u = {
      reason := .fault c, key := some e.key, done := 0, failed := 0, skipped := 1, start := a
      stop := b, faultMode := fm, redo := run.redo } →
    exec (.run body) s = .next { s with
          list := { s.list with events := s.list.events.map (fun y =>
            if y.key = e.key then { y with status := .skipped c } else y) }
          notices := putNotice (.runEnd u) s.notices
          link := answered s body (say 0x23 (if ma = true ∨ mb = true then .adjusted else .done) (bRunEnd s.std u)) }) ∧
  (∀ (fm : FaultMode) (c : FaultClass) (o : EditEnd),
    classResponse fm c = (if fm = .stop ∨ c ∈ [.abort, .reference, .recorder, .claim] then some (.fault c) else none) ∧
      editResponse fm o = (match o.outcome, o.early with
        | .fault c, _ => classResponse fm c
        | .complete, some c => if (classResponse fm c).isSome then classResponse fm c
            else if o.slip = true ∧ fm = .stop then some .slip else none
        | .complete, none => if o.slip = true ∧ fm = .stop then some .slip else none))

/-- STATUS_WRITE for the final write of a run's edit (R163): counts (R167), the response (R165), the next event (R161, R162) or the end (R168). That the range of a RUN END is sent as two labels is log entry 14. -/
def Obligations.ARunGoesOnOrEndsWhenItsWriteIsTaken : Prop :=
  (∀ (s : State) (w : StatusWrite) (run : Run) (o : EditEnd) (e : Event) (d : DeckSet) (run1 : Run) (why : RunReason),
    s.inReset = false →
    PollsShort s →
    s.list.ripple = none →
    s.seq.handed = some (.final w) →
    s.seq.run = some run →
    s.seq.outcome = some o →
    s.seq.copy = some e →
    s.seq.decks = some d →
    run1 = finishEvent o.written e.recIn e.key run →
    (editResponse run.faultMode o = some why ∨ (editResponse run.faultMode o = none ∧ why = .complete ∧
      ∀ x ∈ (takeWrite s.seq.heldKey w s.list).events, ¬(eligible run1 x = true ∧ afterLast run1 x = true))) →
    ∃ t, exec .statusWrite s = .next t ∧ t = shortenPolls { s with
        list := takeWrite s.seq.heldKey w s.list, seq := Sequencer.idle
        holders := s.holders.mapAll (fun p h => if p ∈ deckPorts d then .free else h)
        notices := putNotice (.runEnd {
            reason := why, key := if editResponse run.faultMode o = none then none else some e.key
            done := run1.done, failed := run1.failed, skipped := run1.skipped, start := run.start
            stop := run.stop, faultMode := run.faultMode, redo := run.redo })
          (putNotice (.editEnd o) s.notices) }) ∧
  (∀ (s : State) (w : StatusWrite) (run : Run) (o : EditEnd) (e : Event) (d : DeckSet) (run1 : Run) (x : Event) (d2 : DeckSet),
    s.inReset = false →
    s.list.ripple = none →
    (s.list.events.map Event.key).Nodup →
    s.seq.handed = some (.final w) →
    s.seq.run = some run →
    s.seq.outcome = some o →
    s.seq.copy = some e →
    s.seq.decks = some d →
    run1 = finishEvent o.written e.recIn e.key run →
    editResponse run.faultMode o = none →
    (takeWrite s.seq.heldKey w s.list).events.find? (fun x => eligible run1 x && afterLast run1 x) = some x →
    armChecks .run x (deckPorts d) s = .ok d2 →
    ∃ t, exec .statusWrite s = .next t ∧ t.list = takeWrite s.seq.heldKey w s.list ∧ t.seq.phase = .cueing ∧ t.seq.mode = some .run ∧
      t.seq.heldKey = some x.key ∧ t.seq.copy = some x ∧ t.seq.decks = some d2 ∧ t.seq.run = some run1 ∧
      t.seq.closing = false ∧
      t.holders = s.holders.mapAll (fun p h => if p ∈ deckPorts d2 then .sequencer else if p ∈ deckPorts d then .free else h) ∧
      Notice.editEnd o ∈ t.notices ∧
      { t with
        list := s.list, seq := s.seq, holders := s.holders, ports := s.ports, transports := s.transports
        trackers := s.trackers, notices := s.notices } = s) ∧
  (∀ (run : Run) (w : Option EventStatus) (i : Nat) (k : Nat) (e : Event),
    finishEvent w i k run = { run with
        lastPair := some (i, k)
        done := if w = some .done ∨ w = some .slipped then min 65535 (run.done + 1) else run.done
        failed := (match w with
          | some (.cut _) => min 65535 (run.failed + 1)
          | some (.failed _) => min 65535 (run.failed + 1)
          | _ => run.failed)
        skipped := (match w with
          | some (.skipped _) => min 65535 (run.skipped + 1)
          | _ => run.skipped) } ∧
      (eligible run e = true ↔ run.start ≤ e.recIn ∧ e.recIn < run.stop ∧
        (run.redo = true ∨ (e.status ≠ .done ∧ e.status ≠ .slipped))) ∧
      (afterLast run e = true ↔ ∀ q ∈ run.lastPair, q.1 < e.recIn ∨ (q.1 = e.recIn ∧ q.2 < e.key)))

/-- The ramp of R174, the presentation of a field event (R171, R173, R175) and FLIP_FLOP (R175). That FLIP_FLOP does nothing without its condition is log entry 9. -/
def Obligations.TheRampRisesToFullAndFlipFlops : Prop :=
  (∀ (d : Nat) (j : Nat) (k : Nat),
    1 ≤ d →
    j ≤ k →
    rampCoef d j = (1023 * j + d) / (2 * d) ∧ rampCoef d 0 = 0 ∧ rampCoef d (2 * d) = 1023 ∧
      rampCoef d j ≤ rampCoef d k ∧ (j ≤ 2 * d → rampCoef d j ≤ 1023) ∧
      2 * (2 * d) * rampCoef d j ≤ 2 * (1023 * j) + 2 * d ∧ 2 * (1023 * j) < 2 * (2 * d) * rampCoef d j + 2 * d) ∧
  (∀ (s : State),
    mixField s = { s with mix := (match s.mix.staged, s.mix.ramp with
          | some o, _ => { s.mix with out := o, staged := none, strobes := s.mix.strobes + 1 }
          | none, some r => if s.seq.fieldIndex.getD (r.last + 1) ≤ 2 * r.duration then { s.mix with
                out := { s.mix.out with coef := rampCoef r.duration (s.seq.fieldIndex.getD (r.last + 1)) }
                ramp := some { r with last := s.seq.fieldIndex.getD (r.last + 1) }, strobes := s.mix.strobes + 1 }
              else { s.mix with
                out := { s.mix.out with busA := s.mix.out.busB, busB := 0, coef := 0 }, ramp := none
                strobes := s.mix.strobes + 1 }
          | none, none => { s.mix with strobes := s.mix.strobes + 1 }) }) ∧
  (∀ (s : State) (r : Ramp),
    s.inReset = false →
    PollsShort s →
    s.mix.ramp = some r →
    s.seq.fieldIndex = some (2 * r.duration + 1) →
    exec .flipFlop s = .next { s with mix := { s.mix with
          out := { s.mix.out with busA := s.mix.out.busB, busB := 0, coef := 0 }, ramp := none } }) ∧
  (∀ (s : State),
    PollsShort s →
    (∀ r ∈ s.mix.ramp, s.seq.fieldIndex ≠ some (2 * r.duration + 1)) →
    exec .flipFlop s = .next s)

/-- The table of R180, and the release of every pin until the settings load has ended. -/
def Obligations.EachGpiPinShowsItsLine : Prop :=
  ∀ (s : State) (l : Line),
    gpiPin s l = (if s.inReset then .released else
        match (s.live.gpi.get l).driven, (s.live.gpi.get l).activeHigh, (s.gpi.lines.get l).isSome with
        | true, true, true => .high
        | true, true, false => .low
        | true, false, true => .low
        | true, false, false => .high
        | false, true, true => .released
        | false, true, false => .low
        | false, false, true => .low
        | false, false, false => .released)

/-- The firing of a trigger (R182), the pulse and the drop of a level over field events (R183, R184) and GPI_PULSE_END (R183). That it does nothing without its condition is log entry 9. -/
def Obligations.GpiLinesFireAndRunTheirPulses : Prop :=
  (∀ (s : State) (l : Line) (m : Mode),
    fireLine m l s = (if (s.live.gpi.get l).enable = true ∧ (m = .preview → (s.live.gpi.get l).inPreview = true) ∧
          s.gpi.lines.get l = none then { s with gpi := { s.gpi with
            lines := s.gpi.lines.set l (some (if (s.live.gpi.get l).level then .level false else .pulse 0)) } }
        else s)) ∧
  (∀ (c : GpiConfig) (n : Nat),
    (lineField c)^[n] (some (.pulse 0)) = (if n < (if c.long then 30 else 1) then some (.pulse n) else none) ∧
      (lineField c)^[n + 1] (some (.level true)) = none ∧ (lineField c)^[n] (some (.level false)) = some (.level false) ∧
      (lineField c)^[n] none = none) ∧
  (∀ (s : State) (l : Line) (n : Nat),
    s.inReset = false →
    PollsShort s →
    s.gpi.lines.get l = some (.pulse n) →
    (if (s.live.gpi.get l).long then 30 else 1) ≤ n →
    exec (.gpiPulseEnd l) s = .next { s with gpi := { s.gpi with lines := s.gpi.lines.set l none } }) ∧
  (∀ (s : State) (l : Line),
    PollsShort s →
    (match s.gpi.lines.get l with
      | some (.pulse n) => decide (n < (if (s.live.gpi.get l).long then 30 else 1))
      | _ => true) = true →
    exec (.gpiPulseEnd l) s = .next s)

/-- Good replies of a CUEING deck (R85), how its cue ends (R86), and what the chase servo makes of that (R128, R131). -/
def Obligations.RepliesOfACueingDeckAreVerified : Prop :=
  (∀ (s : State) (p : Port) (x : Exchange) (c : Condition) (pos : Nat) (chars : List LineChar) (q : Cue),
    s.inReset = false →
    PollsShort s →
    (s.port p).exchange = some x →
    readReply s.std (cmdKind x.cmd) chars = some (c, pos) →
    s.holder p ≠ .sequencer →
    (s.port p).line = .online →
    c.remote = true →
    (s.transport p).state = .cueing →
    (s.transport p).cue = some q →
    c.mode ≠ .noTape ∧ c.mode ≠ .standby →
    (∀ o ∈ (s.transport p).condition, o.threaded = c.threaded ∧ o.inhibit = c.inhibit) →
    (c.tracks = 0 ∨ (s.port p).permission = true) →
    (q.acked = false ∨ (c.mode ≠ .parked ∧ c.mode ≠ .halted)) →
    ∃ t, exec (.deckReply p chars) s = .next t ∧ (t.port p = { s.port p with
        line := .online, misses := 0, exchange := none, countdown := cadence t p
        lastReply := some { condition := c, position := pos, frame := x.frame } }) ∧
      t.transport p = { s.transport p with
        condition := some c, cue := some { q with acked := q.acked || cmdKind x.cmd = .seek } } ∧
      t.tracker p = { s.tracker p with position := pos, remainder := 0, age := 0, glitch := 0, known := true } ∧ (∀ q ∈ allPorts, q ≠ p → t.port q = s.port q ∧ t.transport q = s.transport q ∧ t.tracker q = s.tracker q) ∧ { t with ports := s.ports, transports := s.transports, trackers := s.trackers } = s) ∧
  (∀ (s : State) (p : Port) (x : Exchange) (c : Condition) (pos : Nat) (chars : List LineChar) (q : Cue) (off : Nat),
    s.inReset = false →
    PollsShort s →
    (s.port p).exchange = some x →
    readReply s.std (cmdKind x.cmd) chars = some (c, pos) →
    s.holder p ≠ .sequencer →
    (s.port p).line = .online →
    c.remote = true →
    (s.transport p).state = .cueing →
    (s.transport p).cue = some q →
    c.mode ≠ .noTape ∧ c.mode ≠ .standby →
    (∀ o ∈ (s.transport p).condition, o.threaded = c.threaded ∧ o.inhibit = c.inhibit) →
    (c.tracks = 0 ∨ (s.port p).permission = true) →
    q.acked = true →
    (c.mode = .parked ∨ c.mode = .halted) →
    off = (Int.tdiv (posDiff s.std pos q.target) 64).natAbs →
    off ≤ (s.profile p).cueTolerance →
    ∃ t, exec (.deckReply p chars) s = .next t ∧ (t.port p = { s.port p with
        line := .online, misses := 0, exchange := none, countdown := cadence t p
        lastReply := some { condition := c, position := pos, frame := x.frame } }) ∧
      t.transport p = { s.transport p with state := .parked, condition := some c, cue := none, standbyTimer := 0 } ∧
      t.tracker p = { s.tracker p with position := pos, remainder := 0, age := 0, glitch := 0, known := true } ∧ (∀ q ∈ allPorts, q ≠ p → t.port q = s.port q ∧ t.transport q = s.transport q ∧ t.tracker q = s.tracker q) ∧
      t.notices = putNotice (.cueEnd p {
        outcome := .parked, requester := q.requester, attempts := q.attempts, lastStop := some (pos / 64) })
        s.notices ∧
      t.chases = (if q.requester = .chase then s.chases.set p ((s.chase p).map (fun r =>
          if r.kind = .manual ∧ r.state = .seeking then { r with state := .waiting } else r)) else s.chases) ∧
      (q.requester ≠ .sequencer → t.seq = s.seq) ∧
      (q.requester = .sequencer → t.seq = { s.seq with parked :=
        if (∃ x ∈ liveEdit s, p ∈ deckPorts x.decks) ∧ s.seq.phase = .cueing ∧ p ∉ s.seq.parked then s.seq.parked ++ [p]
        else s.seq.parked }) ∧
      { t with
        ports := s.ports, transports := s.transports, trackers := s.trackers, notices := s.notices, chases := s.chases
        seq := s.seq } = s) ∧
  (∀ (s : State) (p : Port) (x : Exchange) (c : Condition) (pos : Nat) (chars : List LineChar) (q : Cue) (off : Nat),
    s.inReset = false →
    PollsShort s →
    (s.port p).exchange = some x →
    readReply s.std (cmdKind x.cmd) chars = some (c, pos) →
    s.holder p ≠ .sequencer →
    (s.port p).line = .online →
    c.remote = true →
    (s.transport p).state = .cueing →
    (s.transport p).cue = some q →
    c.mode ≠ .noTape ∧ c.mode ≠ .standby →
    (∀ o ∈ (s.transport p).condition, o.threaded = c.threaded ∧ o.inhibit = c.inhibit) →
    (c.tracks = 0 ∨ (s.port p).permission = true) →
    q.acked = true →
    (c.mode = .parked ∨ c.mode = .halted) →
    off = (Int.tdiv (posDiff s.std pos q.target) 64).natAbs →
    (s.profile p).cueTolerance < off →
    q.attempts < (s.profile p).cueAttempts →
    ∃ t, exec (.deckReply p chars) s = .next t ∧ t.port p = { s.port p with
        misses := 0, exchange := none, countdown := cadence t p, commands := enqueue (.seek q.target) (s.port p).commands
        lastReply := some { condition := c, position := pos, frame := x.frame } } ∧
      t.transport p = { s.transport p with
        speed := 0, lastKind := some .seek, condition := some c, standbyTimer := 0
        cue := some { q with attempts := q.attempts + 1, acked := false, lastStop := some (pos / 64) } } ∧
      t.tracker p = { s.tracker p with
          position := pos, remainder := 0, age := 0, glitch := 0, known := true
          settle := if changeMark (s.transport p) (.seek q.target) then (s.profile p).settle else (s.tracker p).settle } ∧ (∀ q ∈ allPorts, q ≠ p → t.port q = s.port q ∧ t.transport q = s.transport q ∧ t.tracker q = s.tracker q) ∧ { t with ports := s.ports, transports := s.transports, trackers := s.trackers } = s) ∧
  (∀ (s : State) (p : Port) (x : Exchange) (c : Condition) (pos : Nat) (chars : List LineChar) (q : Cue) (off : Nat),
    s.inReset = false →
    PollsShort s →
    (s.port p).exchange = some x →
    readReply s.std (cmdKind x.cmd) chars = some (c, pos) →
    s.holder p ≠ .sequencer →
    (s.port p).line = .online →
    c.remote = true →
    (s.transport p).state = .cueing →
    (s.transport p).cue = some q →
    c.mode ≠ .noTape ∧ c.mode ≠ .standby →
    (∀ o ∈ (s.transport p).condition, o.threaded = c.threaded ∧ o.inhibit = c.inhibit) →
    (c.tracks = 0 ∨ (s.port p).permission = true) →
    q.acked = true →
    (c.mode = .parked ∨ c.mode = .halted) →
    off = (Int.tdiv (posDiff s.std pos q.target) 64).natAbs →
    (s.profile p).cueTolerance < off →
    (s.profile p).cueAttempts ≤ q.attempts →
    q.requester ≠ .sequencer →
    ∃ t, exec (.deckReply p chars) s = .next t ∧ t.port p = { s.port p with
        misses := 0, exchange := none, countdown := cadence t p, commands := enqueue .halt (s.port p).commands
        lastReply := some { condition := c, position := pos, frame := x.frame } } ∧
      t.transport p = { s.transport p with
        state := .idle, speed := 0, lastKind := some .halt, condition := some c, cue := none, standbyTimer := 0 } ∧
      t.tracker p = { s.tracker p with
          position := pos, remainder := 0, age := 0, glitch := 0, known := true
          settle := if changeMark (s.transport p) (.halt) then (s.profile p).settle else (s.tracker p).settle } ∧ (∀ q ∈ allPorts, q ≠ p → t.port q = s.port q ∧ t.transport q = s.transport q ∧ t.tracker q = s.tracker q) ∧
      t.notices = putNotice (.cueEnd p {
        outcome := .failed .attempts, requester := q.requester, attempts := q.attempts
        lastStop := some (pos / 64) }) s.notices ∧
      t.chases = (if q.requester = .chase then s.chases.set p ((s.chase p).filter (fun r =>
        !(r.kind = .manual && (r.state = .seeking || r.state = .parked)))) else s.chases) ∧
      { t with
        ports := s.ports, transports := s.transports, trackers := s.trackers, notices := s.notices, chases := s.chases } = s)

/-- Good replies that change the line state (R66, R67, R76, R77), load a tape (R78), find the deck in STANDBY unasked (R79, R125), or come in STANDBY or WAKING (R79, R91). The motion that waited for a deck now in STANDBY is log entry 38. -/
def Obligations.RepliesThatChangeTheLineOrFindStandby : Prop :=
  (∀ (s : State) (p : Port) (x : Exchange) (c : Condition) (pos : Nat) (chars : List LineChar),
    s.inReset = false →
    PollsShort s →
    (s.port p).exchange = some x →
    readReply s.std (cmdKind x.cmd) chars = some (c, pos) →
    s.holder p ≠ .sequencer →
    (s.port p).line = .online →
    c.remote = false →
    c.mode ≠ .noTape →
    (s.transport p).state ≠ .offline →
    (∀ q ∈ (s.transport p).cue, q.requester ≠ .sequencer) →
    (∀ m ∈ (s.transport p).motion, (motionCue m.motion).isNone) →
    ∃ t, exec (.deckReply p chars) s = .next t ∧ t.port p = { s.port p with
        line := .panel, misses := 0, exchange := none, countdown := cadence t p, commands := []
        lastReply := some { condition := c, position := pos, frame := x.frame } } ∧
      t.transport p = { s.transport p with
        state := .panel, speed := 0, condition := some c, cue := none, motion := none, standbyTimer := 0, wakeCount := 0
        wakeTaken := false } ∧
      t.tracker p = { s.tracker p with position := pos, remainder := 0, age := 0, glitch := 0, known := true } ∧ (∀ q ∈ allPorts, q ≠ p → t.port q = s.port q ∧ t.transport q = s.transport q ∧ t.tracker q = s.tracker q) ∧ t.chases = s.chases.set p none ∧
      (∀ q ∈ (s.transport p).cue, Notice.cueEnd p {
          outcome := .failed .line, requester := q.requester, attempts := q.attempts
          lastStop := q.lastStop } ∈ t.notices) ∧
      Notice.deck p {
          line := .panel, transport := .panel, mode := some c.mode, threaded := some c.threaded
          inhibit := some c.inhibit } ∈ t.notices ∧
      { t with
        ports := s.ports, transports := s.transports, trackers := s.trackers, notices := s.notices, chases := s.chases } = s) ∧
  (∀ (s : State) (p : Port) (x : Exchange) (c : Condition) (pos : Nat) (chars : List LineChar),
    s.inReset = false →
    PollsShort s →
    (s.port p).exchange = some x →
    readReply s.std (cmdKind x.cmd) chars = some (c, pos) →
    s.holder p ≠ .sequencer →
    (s.port p).line = .panel →
    (s.transport p).state = .panel →
    (s.port p).commands = [] →
    c.remote = true →
    c.mode ≠ .noTape →
    (∀ o ∈ (s.transport p).condition, o.threaded = c.threaded ∧ o.inhibit = c.inhibit) →
    c.tracks = 0 →
    (c.mode = .standby ∨ (s.tracker p).known = false ∨ (s.tracker p).settle ≠ 0 ∨
      (posDiff s.std pos (s.tracker p).position).natAbs ≤ (s.profile p).plausibility * 64) →
    (s.transport p).cue = none →
    ∃ t, exec (.deckReply p chars) s = .next t ∧ t.port p = { s.port p with
        line := .online, misses := 0, exchange := none, countdown := cadence t p
        commands := if c.mode ∈ [.moving, .winding, .seeking] then [.halt] else []
        lastReply := some { condition := c, position := pos, frame := x.frame } } ∧
      t.transport p = { s.transport p with
        state := if c.mode = .standby then .standby else .idle, speed := 0, condition := some c, standbyTimer := 0
        lastKind := if c.mode ∈ [.moving, .winding, .seeking] then some .halt else (s.transport p).lastKind } ∧
      t.tracker p = { s.tracker p with
        position := pos, remainder := 0, age := 0, glitch := 0, known := true
        settle := if c.mode ∈ [.moving, .winding, .seeking] ∧ changeMark (s.transport p) .halt then (s.profile p).settle else (s.tracker p).settle } ∧
      (∀ q ∈ allPorts, q ≠ p → t.port q = s.port q ∧ t.transport q = s.transport q ∧ t.tracker q = s.tracker q) ∧
      Notice.deck p {
          line := .online, transport := (if c.mode = .standby then .standby else .idle), mode := some c.mode, threaded := some c.threaded
          inhibit := some c.inhibit } ∈ t.notices ∧
      { t with ports := s.ports, transports := s.transports, trackers := s.trackers, notices := s.notices } = s) ∧
  (∀ (s : State) (p : Port) (x : Exchange) (c : Condition) (pos : Nat) (chars : List LineChar),
    s.inReset = false →
    PollsShort s →
    (s.port p).exchange = some x →
    readReply s.std (cmdKind x.cmd) chars = some (c, pos) →
    s.holder p ≠ .sequencer →
    (s.port p).line = .online →
    c.remote = true →
    (s.transport p).state = .empty →
    SlotsRight (s.port p) →
    c.mode ≠ .noTape →
    (c.tracks = 0 ∨ (s.port p).permission = true) →
    (s.transport p).cue = none →
    ∃ t, exec (.deckReply p chars) s = .next t ∧ (t.transport p = { s.transport p with
        state := if c.mode = .standby then .standby else .idle, speed := 0, condition := some c, standbyTimer := 0
        lastKind := if c.mode ∈ [.moving, .winding, .seeking] then some .halt else (s.transport p).lastKind }) ∧
      ((t.port p).commands = if c.mode = .standby then (s.port p).commands.filter (fun d => !motionCmd d)
        else if c.mode ∈ [.moving, .winding, .seeking] then enqueue .halt (s.port p).commands else (s.port p).commands) ∧
      ((t.tracker p).position = pos ∧ (t.tracker p).known = true) ∧ (∀ q ∈ allPorts, q ≠ p → t.port q = s.port q ∧ t.transport q = s.transport q ∧ t.tracker q = s.tracker q) ∧
      Notice.deck p {
          line := .online, transport := (if c.mode = .standby then .standby else .idle), mode := some c.mode, threaded := some c.threaded
          inhibit := some c.inhibit } ∈ t.notices ∧
      { t with ports := s.ports, transports := s.transports, trackers := s.trackers, notices := s.notices } = s) ∧
  (∀ (s : State) (p : Port) (x : Exchange) (c : Condition) (pos : Nat) (chars : List LineChar),
    s.inReset = false →
    PollsShort s →
    (s.port p).exchange = some x →
    readReply s.std (cmdKind x.cmd) chars = some (c, pos) →
    s.holder p ≠ .sequencer →
    (s.port p).line = .online →
    c.remote = true →
    c.mode = .standby →
    movable (s.transport p).state = true →
    (c.tracks = 0 ∨ (s.port p).permission = true) →
    (sampleTested (s.tracker p) (s.transport p) = false ∨ (posDiff s.std pos (s.tracker p).position).natAbs ≤ (s.profile p).plausibility * 64) →
    (∀ q ∈ (s.transport p).cue, q.requester ≠ .sequencer) →
    (s.transport p).motion = none →
    ∃ t, exec (.deckReply p chars) s = .next t ∧ t.port p = { s.port p with
        misses := 0, exchange := none, countdown := cadence t p, commands := (s.port p).commands.filter (fun d => !motionCmd d)
        lastReply := some { condition := c, position := pos, frame := x.frame } } ∧
      t.transport p = { s.transport p with
        state := .standby, speed := 0, condition := some c, cue := none, standbyTimer := 0 } ∧
      t.tracker p = { s.tracker p with position := pos, remainder := 0, age := 0, glitch := 0, known := true } ∧ (∀ q ∈ allPorts, q ≠ p → t.port q = s.port q ∧ t.transport q = s.transport q ∧ t.tracker q = s.tracker q) ∧
      t.chases = s.chases.set p ((s.chase p).map (fun r =>
        if r.kind = .manual then { r with state := .parked, cuePoint := none } else r)) ∧
      (∀ q ∈ (s.transport p).cue, Notice.cueEnd p {
          outcome := .failed .standby, requester := q.requester, attempts := q.attempts
          lastStop := q.lastStop } ∈ t.notices) ∧
      (∀ r ∈ s.chase p, r.kind = .manual → r.state = .locked → Notice.lock p false ∈ t.notices) ∧
      Notice.deck p {
          line := .online, transport := .standby, mode := some c.mode, threaded := some c.threaded
          inhibit := some c.inhibit } ∈ t.notices ∧
      { t with
        ports := s.ports, transports := s.transports, trackers := s.trackers, notices := s.notices, chases := s.chases } = s) ∧
  (∀ (s : State) (p : Port) (x : Exchange) (c : Condition) (pos : Nat) (chars : List LineChar),
    s.inReset = false →
    PollsShort s →
    (s.port p).exchange = some x →
    readReply s.std (cmdKind x.cmd) chars = some (c, pos) →
    s.holder p ≠ .sequencer →
    (s.port p).line = .online →
    c.remote = true →
    ((s.transport p).state = .waking ∨ (s.transport p).state = .standby) →
    c.mode ≠ .noTape →
    (∀ o ∈ (s.transport p).condition, o.threaded = c.threaded ∧ o.inhibit = c.inhibit) →
    (c.tracks = 0 ∨ (s.port p).permission = true) →
    ∃ t, exec (.deckReply p chars) s = .next t ∧ (t.port p = { s.port p with
        line := .online, misses := 0, exchange := none, countdown := cadence t p
        lastReply := some { condition := c, position := pos, frame := x.frame } }) ∧
      t.transport p = { s.transport p with
        condition := some c
        wakeTaken := (s.transport p).wakeTaken || ((s.transport p).state = .waking && cmdKind x.cmd = .wake) } ∧
      t.tracker p = { s.tracker p with position := pos, remainder := 0, age := 0, glitch := 0, known := true } ∧ (∀ q ∈ allPorts, q ≠ p → t.port q = s.port q ∧ t.transport q = s.transport q ∧ t.tracker q = s.tracker q) ∧ { t with ports := s.ports, transports := s.transports, trackers := s.trackers } = s)

/-- What the sequencer makes of the reports about its decks in a record mode (R140, R145, R150, R152), and the ending that follows (R153 to R155). CUE_TIMEOUT as a command of its own is log entry 9. -/
def Obligations.TheSequencerFollowsTheRepliesOfItsDecks : Prop :=
  (∀ (s : State) (x : Edit) (p : Port) (y : Exchange) (c : Condition) (q : Cue) (pos2 : Nat) (chars : List LineChar),
    s.inReset = false →
    liveEdit s = some x →
    p ∈ deckPorts x.decks →
    s.holder p = .sequencer →
    (s.port p).exchange = some y →
    readReply s.std (cmdKind y.cmd) chars = some (c, pos2) →
    (s.port p).line = .online →
    c.remote = true →
    (s.transport p).state = .cueing →
    (s.transport p).cue = some q →
    q.requester = .sequencer →
    q.acked = true →
    (c.mode = .parked ∨ c.mode = .halted) →
    (Int.tdiv (posDiff s.std pos2 q.target) 64).natAbs ≤ (s.profile p).cueTolerance →
    (∀ o ∈ (s.transport p).condition, o.threaded = c.threaded ∧ o.inhibit = c.inhibit) →
    c.tracks = 0 →
    s.seq.phase = .cueing →
    (∀ o ∈ (s.transport p).condition, o.tracks = c.tracks) →
    ∃ t, exec (.deckReply p chars) s = .next t ∧ t.seq = { s.seq with
        parked := if p ∈ s.seq.parked then s.seq.parked else s.seq.parked ++ [p] } ∧
      (t.transport p).state = .parked ∧ (t.transport p).cue = none ∧
      Notice.cueEnd p {
        outcome := .parked, requester := .sequencer, attempts := q.attempts, lastStop := some (pos2 / 64) }
        ∈ t.notices) ∧
  (∀ (s : State) (x : Edit) (p : Port) (y : Exchange) (q : Cue) (pos : Nat) (c : Condition) (chars : List LineChar) (st : EventStatus),
    s.inReset = false →
    liveEdit s = some x →
    p ∈ deckPorts x.decks →
    s.holder p = .sequencer →
    (s.port p).exchange = some y →
    readReply s.std (cmdKind y.cmd) chars = some (c, pos) →
    (s.port p).line = .online →
    c.remote = true →
    (s.transport p).state = .cueing →
    (s.transport p).cue = some q →
    q.requester = .sequencer →
    q.acked = true →
    (c.mode = .parked ∨ c.mode = .halted) →
    (s.profile p).cueTolerance < (Int.tdiv (posDiff s.std pos q.target) 64).natAbs →
    (s.profile p).cueAttempts ≤ q.attempts →
    (∀ o ∈ (s.transport p).condition, o.threaded = c.threaded ∧ o.inhibit = c.inhibit) →
    (∀ o ∈ (s.transport p).condition, o.tracks = c.tracks) →
    (c.tracks = 0 ∨ (s.port p).permission = true) →
    recordMode x.mode = true →
    s.seq.phase ≠ .postroll →
    st = (if s.seq.phase = .postroll then (if s.seq.slipped then EventStatus.slipped else .done) else if s.seq.engaged then .cut .cue else .failed .cue) →
    ∃ t, exec (.deckReply p chars) s = .next t ∧ t.seq.closing = true ∧ t.seq.heldKey = s.seq.heldKey ∧ t.seq.decks = s.seq.decks ∧ t.seq.phase = s.seq.phase ∧
      t.seq.handed = some (.final { key := x.event.key, status := some st, previewed := false }) ∧
      t.seq.outcome = some {
        key := x.event.key, mode := x.mode, outcome := if s.seq.phase = .postroll then .complete else .fault .cue
        phase := s.seq.phase, early := if s.seq.phase = .postroll then some .cue else none, slip := s.seq.slipped, written := some st } ∧
      (∀ q ∈ deckPorts x.decks, q ≠ p → s.holder q = .sequencer → movable (s.transport q).state = true →
        (t.transport q).state = .idle ∧ (t.transport q).speed = 0) ∧
      (s.seq.engaged = true → s.seq.released = false → (t.port x.decks.recorder).permission = false) ∧
      t.mix.ramp = none ∧ t.mix.out = s.mix.out ∧ t.gpi.armed = none ∧
      t.list = s.list ∧ t.holders = s.holders ∧ t.ref = s.ref ∧ t.live = s.live ∧ t.link = s.link) ∧
  (∀ (s : State) (x : Edit) (p : Port) (q : Cue) (st : EventStatus),
    s.inReset = false →
    liveEdit s = some x →
    p ∈ deckPorts x.decks →
    s.holder p = .sequencer →
    (s.transport p).state = .cueing →
    (s.transport p).cue = some q →
    q.requester = .sequencer →
    (s.profile p).cueTime * rate s.std ≤ q.elapsed →
    recordMode x.mode = true →
    s.seq.phase ≠ .postroll →
    st = (if s.seq.phase = .postroll then (if s.seq.slipped then EventStatus.slipped else .done) else if s.seq.engaged then .cut .cue else .failed .cue) →
    ∃ t, exec (.cueTimeout p) s = .next t ∧ t.seq.closing = true ∧ t.seq.heldKey = s.seq.heldKey ∧ t.seq.decks = s.seq.decks ∧ t.seq.phase = s.seq.phase ∧
      t.seq.handed = some (.final { key := x.event.key, status := some st, previewed := false }) ∧
      t.seq.outcome = some {
        key := x.event.key, mode := x.mode, outcome := if s.seq.phase = .postroll then .complete else .fault .cue
        phase := s.seq.phase, early := if s.seq.phase = .postroll then some .cue else none, slip := s.seq.slipped, written := some st } ∧
      (∀ q ∈ deckPorts x.decks, q ≠ p → s.holder q = .sequencer → movable (s.transport q).state = true →
        (t.transport q).state = .idle ∧ (t.transport q).speed = 0) ∧
      (s.seq.engaged = true → s.seq.released = false → (t.port x.decks.recorder).permission = false) ∧
      t.mix.ramp = none ∧ t.mix.out = s.mix.out ∧ t.gpi.armed = none ∧
      t.list = s.list ∧ t.holders = s.holders ∧ t.ref = s.ref ∧ t.live = s.live ∧ t.link = s.link) ∧
  (∀ (s : State) (x : Edit) (p : Port) (y : Exchange) (st : EventStatus),
    s.inReset = false →
    liveEdit s = some x →
    p ∈ deckPorts x.decks →
    s.holder p = .sequencer →
    (s.port p).exchange = some y →
    (s.port p).misses = 3 →
    (s.port p).line ≠ .offline →
    recordMode x.mode = true →
    st = (if s.seq.phase = .postroll then (if s.seq.slipped then EventStatus.slipped else .done) else if s.seq.engaged then .cut (if p = x.decks.recorder then FaultClass.recorder else .player) else .failed (if p = x.decks.recorder then FaultClass.recorder else .player)) →
    ∃ t, exec (.replyTimeout p) s = .next t ∧ t.seq.closing = true ∧ t.seq.heldKey = s.seq.heldKey ∧ t.seq.decks = s.seq.decks ∧ t.seq.phase = s.seq.phase ∧
      t.seq.handed = some (.final { key := x.event.key, status := some st, previewed := false }) ∧
      t.seq.outcome = some {
        key := x.event.key, mode := x.mode, outcome := if s.seq.phase = .postroll then .complete else .fault (if p = x.decks.recorder then FaultClass.recorder else .player)
        phase := s.seq.phase, early := if s.seq.phase = .postroll then some (if p = x.decks.recorder then FaultClass.recorder else .player) else none, slip := s.seq.slipped, written := some st } ∧
      (∀ q ∈ deckPorts x.decks, q ≠ p → s.holder q = .sequencer → movable (s.transport q).state = true →
        (t.transport q).state = .idle ∧ (t.transport q).speed = 0) ∧
      (s.seq.engaged = true → s.seq.released = false → (t.port x.decks.recorder).permission = false) ∧
      t.mix.ramp = none ∧ t.mix.out = s.mix.out ∧ t.gpi.armed = none ∧
      t.list = s.list ∧ t.holders = s.holders ∧ t.ref = s.ref ∧ t.live = s.live ∧ t.link = s.link) ∧
  (∀ (s : State) (x : Edit) (p : Port) (y : Exchange) (pos : Nat) (c : Condition) (chars : List LineChar) (st : EventStatus),
    s.inReset = false →
    liveEdit s = some x →
    p ∈ deckPorts x.decks →
    s.holder p = .sequencer →
    (s.port p).exchange = some y →
    readReply s.std (cmdKind y.cmd) chars = some (c, pos) →
    (s.port p).line = .online →
    movable (s.transport p).state = true →
    (s.transport p).motion = none →
    (c.remote = false ∨ c.mode = .noTape ∨ c.mode = .standby ∨ (c.threaded = false ∧ (s.transport p).state ≠ .cueing ∧ ∃ o ∈ (s.transport p).condition, o.threaded = true)) →
    recordMode x.mode = true →
    st = (if s.seq.phase = .postroll then (if s.seq.slipped then EventStatus.slipped else .done) else if s.seq.engaged then .cut (if p = x.decks.recorder then FaultClass.recorder else .player) else .failed (if p = x.decks.recorder then FaultClass.recorder else .player)) →
    ∃ t, exec (.deckReply p chars) s = .next t ∧ t.seq.closing = true ∧ t.seq.heldKey = s.seq.heldKey ∧ t.seq.decks = s.seq.decks ∧ t.seq.phase = s.seq.phase ∧
      t.seq.handed = some (.final { key := x.event.key, status := some st, previewed := false }) ∧
      t.seq.outcome = some {
        key := x.event.key, mode := x.mode, outcome := if s.seq.phase = .postroll then .complete else .fault (if p = x.decks.recorder then FaultClass.recorder else .player)
        phase := s.seq.phase, early := if s.seq.phase = .postroll then some (if p = x.decks.recorder then FaultClass.recorder else .player) else none, slip := s.seq.slipped, written := some st } ∧
      (∀ q ∈ deckPorts x.decks, q ≠ p → s.holder q = .sequencer → movable (s.transport q).state = true →
        (t.transport q).state = .idle ∧ (t.transport q).speed = 0) ∧
      (s.seq.engaged = true → s.seq.released = false → (t.port x.decks.recorder).permission = false) ∧
      t.mix.ramp = none ∧ t.mix.out = s.mix.out ∧ t.gpi.armed = none ∧
      t.list = s.list ∧ t.holders = s.holders ∧ t.ref = s.ref ∧ t.live = s.live ∧ t.link = s.link) ∧
  (∀ (s : State) (x : Edit) (p : Port) (y : Exchange) (pos : Nat) (c : Condition) (chars : List LineChar) (st : EventStatus),
    s.inReset = false →
    liveEdit s = some x →
    p ∈ deckPorts x.decks →
    s.holder p = .sequencer →
    (s.port p).exchange = some y →
    readReply s.std (cmdKind y.cmd) chars = some (c, pos) →
    (s.port p).line = .online →
    c.remote = true →
    (s.transport p).state ∈ [.idle, .parked, .rolling] →
    c.mode ≠ .noTape →
    c.mode ≠ .standby →
    p = x.decks.recorder →
    c.inhibit = true →
    (∃ o ∈ (s.transport p).condition, o.inhibit = false ∧ o.threaded = c.threaded) →
    recordMode x.mode = true →
    st = (if s.seq.phase = .postroll then (if s.seq.slipped then EventStatus.slipped else .done) else if s.seq.engaged then .cut .recorder else .failed .recorder) →
    ∃ t, exec (.deckReply p chars) s = .next t ∧ t.seq.closing = true ∧ t.seq.heldKey = s.seq.heldKey ∧ t.seq.decks = s.seq.decks ∧ t.seq.phase = s.seq.phase ∧
      t.seq.handed = some (.final { key := x.event.key, status := some st, previewed := false }) ∧
      t.seq.outcome = some {
        key := x.event.key, mode := x.mode, outcome := if s.seq.phase = .postroll then .complete else .fault .recorder
        phase := s.seq.phase, early := if s.seq.phase = .postroll then some .recorder else none, slip := s.seq.slipped, written := some st } ∧
      (∀ q ∈ deckPorts x.decks, q ≠ p → s.holder q = .sequencer → movable (s.transport q).state = true →
        (t.transport q).state = .idle ∧ (t.transport q).speed = 0) ∧
      (s.seq.engaged = true → s.seq.released = false → (t.port x.decks.recorder).permission = false) ∧
      t.mix.ramp = none ∧ t.mix.out = s.mix.out ∧ t.gpi.armed = none ∧
      t.list = s.list ∧ t.holders = s.holders ∧ t.ref = s.ref ∧ t.live = s.live ∧ t.link = s.link) ∧
  (∀ (s : State) (x : Edit) (p : Port) (y : Exchange) (pos : Nat) (c : Condition) (o : Condition) (chars : List LineChar),
    s.inReset = false →
    liveEdit s = some x →
    p ∈ deckPorts x.decks →
    s.holder p = .sequencer →
    (s.port p).exchange = some y →
    readReply s.std (cmdKind y.cmd) chars = some (c, pos) →
    (s.port p).line = .online →
    c.remote = true →
    (s.transport p).state = .rolling →
    c.mode ≠ .noTape →
    c.mode ≠ .standby →
    p = x.decks.recorder →
    (s.transport p).condition = some o →
    o.threaded = c.threaded ∧ o.inhibit = c.inhibit →
    o.tracks ≠ c.tracks →
    recordMode x.mode = true →
    s.seq.engaged = true →
    s.seq.confirmed = false →
    ∃ t, exec (.deckReply p chars) s = .next t ∧ t.seq = { s.seq with confirmed := decide (x.event.tracks &&& c.tracks = x.event.tracks) } ∧
      t.notices = s.notices ∧ t.mix = s.mix ∧ t.gpi = s.gpi) ∧
  (∀ (s : State) (x : Edit) (p : Port) (y : Exchange) (pos : Nat) (c : Condition) (o : Condition) (chars : List LineChar) (st : EventStatus),
    s.inReset = false →
    liveEdit s = some x →
    p ∈ deckPorts x.decks →
    s.holder p = .sequencer →
    (s.port p).exchange = some y →
    readReply s.std (cmdKind y.cmd) chars = some (c, pos) →
    (s.port p).line = .online →
    c.remote = true →
    (s.transport p).state = .rolling →
    c.mode ≠ .noTape →
    c.mode ≠ .standby →
    p = x.decks.recorder →
    (s.transport p).condition = some o →
    o.threaded = c.threaded ∧ o.inhibit = c.inhibit →
    o.tracks ≠ c.tracks →
    recordMode x.mode = true →
    s.seq.phase ≠ .postroll →
    s.seq.engaged = true ∧ s.seq.confirmed = true ∧ s.seq.released = false →
    x.event.tracks &&& c.tracks ≠ x.event.tracks →
    st = (if s.seq.phase = .postroll then (if s.seq.slipped then EventStatus.slipped else .done) else if s.seq.engaged then .cut .recorder else .failed .recorder) →
    ∃ t, exec (.deckReply p chars) s = .next t ∧ t.seq.closing = true ∧ t.seq.heldKey = s.seq.heldKey ∧ t.seq.decks = s.seq.decks ∧ t.seq.phase = s.seq.phase ∧
      t.seq.handed = some (.final { key := x.event.key, status := some st, previewed := false }) ∧
      t.seq.outcome = some {
        key := x.event.key, mode := x.mode, outcome := if s.seq.phase = .postroll then .complete else .fault .recorder
        phase := s.seq.phase, early := if s.seq.phase = .postroll then some .recorder else none, slip := s.seq.slipped, written := some st } ∧
      (∀ q ∈ deckPorts x.decks, q ≠ p → s.holder q = .sequencer → movable (s.transport q).state = true →
        (t.transport q).state = .idle ∧ (t.transport q).speed = 0) ∧
      (s.seq.engaged = true → s.seq.released = false → (t.port x.decks.recorder).permission = false) ∧
      t.mix.ramp = none ∧ t.mix.out = s.mix.out ∧ t.gpi.armed = none ∧
      t.list = s.list ∧ t.holders = s.holders ∧ t.ref = s.ref ∧ t.live = s.live ∧ t.link = s.link)

/-- The engage moment with its checks (R143), record in (R144, R149), the confirmation deadline (R145), the release (R147) and the reports of the chase servo (R146) in the work of `seqFrame`, by which a frame event ends (the statement about FIELD_PULSE). The order of the points in one frame is log entry 10; that the reports are taken over the state after every record is worked is log entry 29, and that a recorder without a reported condition fails the sync check is log entry 25, both the model's reading. -/
def Obligations.TheMomentsOfAnEdit : Prop :=
  (∀ (s : State) (x : Edit) (n : Int),
    (reached x s n = true ↔ 0 ≤ posDiff s.std (s.tracker x.decks.recorder).position (n * 64 % (dayLength s.std : Int)).toNat)) ∧
  (∀ (s : State) (x : Edit),
    liveEdit s = some x →
    s.seq.phase = .preroll →
    x.mode ≠ .review →
    reached x s ((x.event.recIn : Int) - ((s.profile x.decks.recorder).engageLead : Int)) = true →
    ¬((∀ q ∈ players x.decks, ∃ r ∈ s.chase q, r.state = .locked) ∧ ∃ o ∈ (s.transport x.decks.recorder).condition, o.servo = true) →
    recordMode x.mode = true →
    (seqFrame s).seq.closing = true ∧ (seqFrame s).seq.phase = .preroll ∧
      (seqFrame s).seq.outcome.map EditEnd.outcome = some (.fault .sync) ∧
      (seqFrame s).seq.handed = some (.final {
        key := x.event.key, status := some (if s.seq.engaged then .cut .sync else .failed .sync), previewed := false }) ∧
      (s.seq.engaged = true → s.seq.released = false → ((seqFrame s).port x.decks.recorder).permission = false) ∧
      (seqFrame s).list = s.list ∧ (seqFrame s).holders = s.holders) ∧
  (∀ (s : State) (x : Edit),
    liveEdit s = some x →
    s.seq.phase = .preroll →
    x.mode ≠ .review →
    reached x s ((x.event.recIn : Int) - ((s.profile x.decks.recorder).engageLead : Int)) = true →
    ((∀ q ∈ players x.decks, ∃ r ∈ s.chase q, r.state = .locked) ∧ ∃ o ∈ (s.transport x.decks.recorder).condition, o.servo = true) →
    ¬(s.live.system.windowStart ≤ x.event.recIn ∧ x.event.recOut ≤ s.live.system.windowStart + s.live.system.windowLength) →
    recordMode x.mode = true →
    (seqFrame s).seq.closing = true ∧ (seqFrame s).seq.phase = .preroll ∧
      (seqFrame s).seq.outcome.map EditEnd.outcome = some (.fault .recorder) ∧
      (seqFrame s).seq.handed = some (.final {
        key := x.event.key, status := some (if s.seq.engaged then .cut .recorder else .failed .recorder), previewed := false }) ∧
      (s.seq.engaged = true → s.seq.released = false → ((seqFrame s).port x.decks.recorder).permission = false) ∧
      (seqFrame s).list = s.list ∧ (seqFrame s).holders = s.holders) ∧
  (∀ (s : State) (x : Edit),
    liveEdit s = some x →
    s.seq.phase = .preroll →
    x.mode ≠ .review →
    reached x s ((x.event.recIn : Int) - ((s.profile x.decks.recorder).engageLead : Int)) = true →
    s.seq.recordInFrame = none →
    s.seq.deadlineTaken = false →
    ((∀ q ∈ players x.decks, ∃ r ∈ s.chase q, r.state = .locked) ∧ ∃ o ∈ (s.transport x.decks.recorder).condition, o.servo = true) →
    (recordMode x.mode = true → s.live.system.windowStart ≤ x.event.recIn ∧ x.event.recOut ≤ s.live.system.windowStart + s.live.system.windowLength) →
    reached x s ((x.event.recIn : Int)) = false →
    reached x s ((x.event.recIn : Int) + 2) = false →
    (seqFrame s).seq = { s.seq with phase := .edit, engageFrame := some s.frame, engaged := recordMode x.mode } ∧
      (∀ q ∈ allPorts, (seqFrame s).port q = (if q = x.decks.recorder ∧ recordMode x.mode = true then { s.port q with
          permission := true
          commands := if (s.port q).line = .online then enqueue (.engage x.event.tracks) (s.port q).commands else (s.port q).commands }
        else s.port q)) ∧
      (seqFrame s).mix = s.mix ∧ { seqFrame s with
        seq := s.seq, gpi := s.gpi, ports := s.ports, mix := s.mix, recorderFrame := s.recorderFrame } = s) ∧
  (∀ (s : State) (x : Edit),
    liveEdit s = some x →
    s.seq.phase = .edit →
    x.mode ≠ .review →
    s.seq.recordInFrame = none →
    reached x s ((x.event.recIn : Int)) = true →
    reached x s ((x.event.recIn : Int) + 2) = false →
    reached x s ((x.event.recOut : Int) - (if x.mode = .review then 0 else ((s.profile x.decks.recorder).releaseLead : Int))) = false →
    (∀ f ∈ s.seq.engageFrame, s.frame < f + (s.profile x.decks.recorder).engageLead + (x.event.recOut - x.event.recIn) + rate s.std) →
    (seqFrame s).seq = { s.seq with recordInFrame := some s.frame, fieldIndex := some 0 } ∧
      (seqFrame s).mix = { s.mix with ramp := match durationOf x.event with
        | some d => some { duration := d, last := 0 }
        | none => s.mix.ramp } ∧ (seqFrame s).ports = s.ports ∧
      { seqFrame s with
        seq := s.seq, gpi := s.gpi, ports := s.ports, mix := s.mix, recorderFrame := s.recorderFrame } = s) ∧
  (∀ (s : State) (x : Edit),
    liveEdit s = some x →
    s.seq.phase = .preroll →
    x.mode = .review →
    s.seq.recordInFrame = none →
    reached x s ((x.event.recIn : Int)) = true →
    (seqFrame s).seq = { s.seq with phase := .edit, recordInFrame := some s.frame } ∧ (seqFrame s).mix = s.mix ∧
      (seqFrame s).gpi = s.gpi ∧ (seqFrame s).ports = s.ports ∧ { seqFrame s with
        seq := s.seq, gpi := s.gpi, ports := s.ports, mix := s.mix, recorderFrame := s.recorderFrame } = s) ∧
  (∀ (s : State) (x : Edit),
    liveEdit s = some x →
    s.seq.phase = .edit →
    recordMode x.mode = true →
    s.seq.recordInFrame ≠ none →
    s.seq.deadlineTaken = false →
    reached x s ((x.event.recIn : Int) + 2) = true →
    s.seq.confirmed = true →
    reached x s ((x.event.recOut : Int) - (if x.mode = .review then 0 else ((s.profile x.decks.recorder).releaseLead : Int))) = false →
    (∀ f ∈ s.seq.engageFrame, s.frame < f + (s.profile x.decks.recorder).engageLead + (x.event.recOut - x.event.recIn) + rate s.std) →
    (seqFrame s).seq = { s.seq with deadlineTaken := true } ∧ (seqFrame s).mix = s.mix ∧ (seqFrame s).ports = s.ports ∧
      { seqFrame s with
        seq := s.seq, gpi := s.gpi, ports := s.ports, mix := s.mix, recorderFrame := s.recorderFrame } = s) ∧
  (∀ (s : State) (x : Edit),
    liveEdit s = some x →
    s.seq.phase = .edit →
    recordMode x.mode = true →
    s.seq.recordInFrame ≠ none →
    s.seq.deadlineTaken = false →
    reached x s ((x.event.recIn : Int) + 2) = true →
    s.seq.confirmed = false →
    (seqFrame s).seq.closing = true ∧ (seqFrame s).seq.phase = .edit ∧
      (seqFrame s).seq.outcome.map EditEnd.outcome = some (.fault .recorder) ∧
      (seqFrame s).seq.handed = some (.final {
        key := x.event.key, status := some (if s.seq.engaged then .cut .recorder else .failed .recorder), previewed := false }) ∧
      (s.seq.engaged = true → s.seq.released = false → ((seqFrame s).port x.decks.recorder).permission = false) ∧
      (seqFrame s).list = s.list ∧ (seqFrame s).holders = s.holders) ∧
  (∀ (s : State) (x : Edit),
    liveEdit s = some x →
    s.seq.phase = .edit →
    (s.seq.recordInFrame ≠ none ∨ reached x s ((x.event.recIn : Int)) = false) →
    (s.seq.deadlineTaken = true ∨ reached x s ((x.event.recIn : Int) + 2) = false ∨ x.mode = .preview ∨ x.mode = .review) →
    (∃ f ∈ (if x.mode = .review then s.seq.recordInFrame else s.seq.engageFrame), f < s.frame) →
    reached x s ((x.event.recOut : Int) - (if x.mode = .review then 0 else ((s.profile x.decks.recorder).releaseLead : Int))) = true →
    (recordMode x.mode = true → s.seq.confirmed = true) →
    (seqFrame s).seq = { s.seq with
        phase := .postroll, released := true
        postrollEnd := some (s.frame + max 1 ((if x.mode = .review then 0 else (s.profile x.decks.recorder).releaseLead)
          + s.live.system.postroll * rate s.std)) } ∧
      (∀ q ∈ allPorts, (seqFrame s).port q = (if q = x.decks.recorder ∧ recordMode x.mode = true then { s.port q with
          permission := false
          commands := if (s.port q).line = .online then enqueue (.disengage) (s.port q).commands else (s.port q).commands }
        else s.port q)) ∧ (seqFrame s).mix = s.mix ∧ { seqFrame s with
        seq := s.seq, gpi := s.gpi, ports := s.ports, mix := s.mix, recorderFrame := s.recorderFrame } = s) ∧
  (∀ (s : State) (x : Edit),
    liveEdit s = some x →
    s.seq.phase = .edit →
    recordMode x.mode = true →
    (s.seq.recordInFrame ≠ none ∨ reached x s ((x.event.recIn : Int)) = false) →
    (s.seq.deadlineTaken = true ∨ reached x s ((x.event.recIn : Int) + 2) = false) →
    (∃ f ∈ s.seq.engageFrame, f < s.frame) →
    reached x s ((x.event.recOut : Int) - (if x.mode = .review then 0 else ((s.profile x.decks.recorder).releaseLead : Int))) = true →
    s.seq.confirmed = false →
    (seqFrame s).seq.closing = true ∧ (seqFrame s).seq.phase = .edit ∧
      (seqFrame s).seq.outcome.map EditEnd.outcome = some (.fault .recorder) ∧
      (seqFrame s).seq.handed = some (.final {
        key := x.event.key, status := some (if s.seq.engaged then .cut .recorder else .failed .recorder), previewed := false }) ∧
      (s.seq.engaged = true → s.seq.released = false → ((seqFrame s).port x.decks.recorder).permission = false) ∧
      (seqFrame s).list = s.list ∧ (seqFrame s).holders = s.holders) ∧
  (∀ (s : State) (x : Edit),
    liveEdit s = some x →
    s.seq.phase = .preroll →
    x.mode ≠ .review →
    reached x s ((x.event.recIn : Int) - ((s.profile x.decks.recorder).engageLead : Int)) = true →
    ¬((∀ q ∈ players x.decks, ∃ r ∈ s.chase q, r.state = .locked) ∧ ∃ o ∈ (s.transport x.decks.recorder).condition, o.servo = true) →
    x.mode = .preview →
    (seqFrame s).seq = Sequencer.idle ∧
      (seqFrame s).holders = s.holders.mapAll (fun q h => if q ∈ deckPorts x.decks then .free else h) ∧
      (seqFrame s).list = s.list ∧ Notice.editEnd {
        key := x.event.key, mode := .preview, outcome := .fault .sync, phase := .preroll, early := none
        slip := s.seq.slipped, written := none } ∈ (seqFrame s).notices) ∧
  (∀ (s : State),
    chaseAndReport s = (chaseFrame s).2.foldl (fun u r => seqChaseReport r u) (chaseFrame s).1) ∧
  (∀ (s : State) (x : Edit) (r : ChaseReport),
    liveEdit s = some x →
    if r = .lost ∧ s.seq.phase = .edit then seqChaseReport r s = { s with seq := { s.seq with slipped := true } }
      else if r = .outOfCapture ∧ (s.seq.phase = .preroll ∨ s.seq.phase = .edit) then
        (recordMode x.mode = true → (seqChaseReport r s).seq.closing = true ∧
          (seqChaseReport r s).seq.phase = s.seq.phase ∧
          (seqChaseReport r s).seq.outcome.map EditEnd.outcome = some (.fault .sync) ∧
          (seqChaseReport r s).seq.handed = some (.final {
            key := x.event.key, status := some (if s.seq.engaged then .cut .sync else .failed .sync), previewed := false }) ∧
          (seqChaseReport r s).list = s.list ∧ (seqChaseReport r s).holders = s.holders) ∧
        (x.mode = .preview → (seqChaseReport r s).seq = Sequencer.idle ∧ (seqChaseReport r s).list = s.list ∧
          (seqChaseReport r s).holders = s.holders.mapAll (fun q h => if q ∈ deckPorts x.decks then .free else h) ∧
          Notice.editEnd {
            key := x.event.key, mode := .preview, outcome := .fault .sync, phase := s.seq.phase, early := none
            slip := s.seq.slipped, written := none } ∈ (seqChaseReport r s).notices)
      else seqChaseReport r s = s) ∧
  (∀ (s : State) (r : ChaseReport),
    SequencerWhole s →
    liveEdit s = none →
    seqChaseReport r s = s)

/-- The conditions of a master (R124) and a manual record's work for a frame (R125 to R127, R129, R130; the capture window of R121), as the frame work does it port by port. That the lock run of a record that parks, seeks or waits stays is log entry 31, the model's reading. -/
def Obligations.AManualChaserFollowsItsMastersCondition : Prop :=
  (∀ (s : State) (m : Port),
    (masterCondition s m = .running ↔ (s.port m).line = .online ∧ (∃ o ∈ (s.transport m).condition, o.mode = .moving) ∧
        0 < (s.transport m).speed) ∧
      (masterCondition s m = .stopped ↔ (s.port m).line = .online ∧
        (∃ o ∈ (s.transport m).condition, o.mode = .halted ∨ o.mode = .parked) ∧
        ((s.transport m).state = .idle ∨ (s.transport m).state = .parked))) ∧
  (∀ (s : State) (p : Port) (c : Chase) (x : Nat),
    s.chase p = some c →
    c.kind = .manual →
    s.holder p = .console →
    movable (s.transport p).state = true →
    x = chaseTarget s.std c (s.tracker c.master).position →
    masterCondition s c.master = .unavailable →
    (chasePort p s).1.chase p = some { c with lastTarget := some x, state := .parked, cuePoint := none } ∧
      (if (s.transport p).state = .idle ∨ (s.transport p).state = .parked then
          (chasePort p s).1.transport p = s.transport p ∧ (chasePort p s).1.port p = s.port p
        else ((chasePort p s).1.transport p).state = .idle ∧ ((chasePort p s).1.transport p).speed = 0 ∧
          ((chasePort p s).1.transport p).lastKind = some .halt) ∧
      (chasePort p s).1.notices = (if c.state = .locked then putNotice (.lock p false) s.notices else s.notices) ∧ (∀ q ∈ allPorts, q ≠ p → (chasePort p s).1.port q = s.port q ∧ (chasePort p s).1.transport q = s.transport q ∧
        (chasePort p s).1.chase q = s.chase q)) ∧
  (∀ (s : State) (p : Port) (c : Chase) (x : Nat),
    s.chase p = some c →
    c.kind = .manual →
    s.holder p = .console →
    movable (s.transport p).state = true →
    x = chaseTarget s.std c (s.tracker c.master).position →
    masterCondition s c.master = .stopped →
    (∃ q ∈ c.cuePoint, (posDiff s.std x q).natAbs ≤ (s.profile p).cueTolerance * 64) →
    (chasePort p s).1.chase p = some { c with lastTarget := some x, state := .parked } ∧ ((chasePort p s).1.transport p = s.transport p) ∧ (chasePort p s).1.port p = s.port p ∧
      (chasePort p s).1.notices = (if c.state = .locked then putNotice (.lock p false) s.notices else s.notices) ∧ (∀ q ∈ allPorts, q ≠ p → (chasePort p s).1.port q = s.port q ∧ (chasePort p s).1.transport q = s.transport q ∧
        (chasePort p s).1.chase q = s.chase q)) ∧
  (∀ (s : State) (p : Port) (c : Chase) (x : Nat),
    s.chase p = some c →
    c.kind = .manual →
    s.holder p = .console →
    movable (s.transport p).state = true →
    x = chaseTarget s.std c (s.tracker c.master).position →
    masterCondition s c.master = .stopped →
    (∀ q ∈ c.cuePoint, (s.profile p).cueTolerance * 64 < (posDiff s.std x q).natAbs) →
    (chasePort p s).1.chase p = some { c with lastTarget := some x, state := .parked, cuePoint := some x } ∧
      ((chasePort p s).1.transport p = { s.transport p with
        state := .cueing, speed := 0, lastKind := some .seek, standbyTimer := 0
        cue := some { requester := .chase, target := x, attempts := 1, acked := false, elapsed := 0, lastStop := none } }) ∧
      ((chasePort p s).1.port p).commands = (if (s.port p).line = .online then enqueue (.seek (x)) (s.port p).commands
        else (s.port p).commands) ∧
      (chasePort p s).1.notices = (if c.state = .locked then putNotice (.lock p false) s.notices else s.notices) ∧ (∀ q ∈ allPorts, q ≠ p → (chasePort p s).1.port q = s.port q ∧ (chasePort p s).1.transport q = s.transport q ∧
        (chasePort p s).1.chase q = s.chase q)) ∧
  (∀ (s : State) (p : Port) (c : Chase) (x : Nat) (e : Int),
    s.chase p = some c →
    c.kind = .manual →
    s.holder p = .console →
    movable (s.transport p).state = true →
    x = chaseTarget s.std c (s.tracker c.master).position →
    masterCondition s c.master = .running →
    c.state = .parked →
    e = posDiff s.std x (s.tracker p).position →
    (s.profile p).captureWindow * 64 < e.natAbs →
    (chasePort p s).1.chase p = some { c with lastTarget := some x, lastError := some e, state := .seeking, cuePoint := some (posAdd s.std x (2 * rate s.std * 64 : Nat)) } ∧
      ((chasePort p s).1.transport p = { s.transport p with
        state := .cueing, speed := 0, lastKind := some .seek, standbyTimer := 0
        cue := some { requester := .chase, target := posAdd s.std x (2 * rate s.std * 64 : Nat), attempts := 1, acked := false, elapsed := 0, lastStop := none } }) ∧
      ((chasePort p s).1.port p).commands = (if (s.port p).line = .online then enqueue (.seek (posAdd s.std x (2 * rate s.std * 64 : Nat))) (s.port p).commands
        else (s.port p).commands) ∧ (∀ q ∈ allPorts, q ≠ p → (chasePort p s).1.port q = s.port q ∧ (chasePort p s).1.transport q = s.transport q ∧
        (chasePort p s).1.chase q = s.chase q)) ∧
  (∀ (s : State) (p : Port) (c : Chase) (x : Nat) (e : Int),
    s.chase p = some c →
    c.kind = .manual →
    s.holder p = .console →
    movable (s.transport p).state = true →
    x = chaseTarget s.std c (s.tracker c.master).position →
    masterCondition s c.master = .running →
    c.state = .parked →
    e = posDiff s.std x (s.tracker p).position →
    e.natAbs ≤ (s.profile p).captureWindow * 64 →
    ((s.transport p).state = .rolling → (s.transport p).cue = none) →
    (chasePort p s).1.chase p = some { c with lastTarget := some x, lastError := some e, state := .capturing, lockRun := 0, outOfCapture := false } ∧
      ((chasePort p s).1.transport p).state = .rolling ∧ ((chasePort p s).1.transport p).cue = none ∧
      ((s.transport p).state ≠ .rolling → ((chasePort p s).1.transport p).speed = 1024 ∧
        ((chasePort p s).1.port p).commands = (if (s.port p).line = .online then enqueue (.play 1024) (s.port p).commands
          else (s.port p).commands)) ∧ (∀ q ∈ allPorts, q ≠ p → (chasePort p s).1.port q = s.port q ∧ (chasePort p s).1.transport q = s.transport q ∧
        (chasePort p s).1.chase q = s.chase q)) ∧
  (∀ (s : State) (p : Port) (c : Chase) (x : Nat),
    s.chase p = some c →
    c.kind = .manual →
    s.holder p = .console →
    movable (s.transport p).state = true →
    x = chaseTarget s.std c (s.tracker c.master).position →
    masterCondition s c.master = .running →
    c.state = .seeking →
    (chasePort p s).1.chase p = some { c with lastTarget := some x } ∧ { (chasePort p s).1 with chases := s.chases } = s) ∧
  (∀ (s : State) (p : Port) (c : Chase) (x : Nat) (w : Int),
    s.chase p = some c →
    c.kind = .manual →
    s.holder p = .console →
    movable (s.transport p).state = true →
    x = chaseTarget s.std c (s.tracker c.master).position →
    masterCondition s c.master = .running →
    c.state = .waiting →
    w = posDiff s.std (s.tracker p).position x →
    (w < 0 ∨ 3 * rate s.std * 64 < w) →
    (chasePort p s).1.chase p = some { c with lastTarget := some x, state := .seeking, cuePoint := some (posAdd s.std x (2 * rate s.std * 64 : Nat)) } ∧
      ((chasePort p s).1.transport p = { s.transport p with
        state := .cueing, speed := 0, lastKind := some .seek, standbyTimer := 0
        cue := some { requester := .chase, target := posAdd s.std x (2 * rate s.std * 64 : Nat), attempts := 1, acked := false, elapsed := 0, lastStop := none } }) ∧
      ((chasePort p s).1.port p).commands = (if (s.port p).line = .online then enqueue (.seek (posAdd s.std x (2 * rate s.std * 64 : Nat))) (s.port p).commands
        else (s.port p).commands) ∧ (∀ q ∈ allPorts, q ≠ p → (chasePort p s).1.port q = s.port q ∧ (chasePort p s).1.transport q = s.transport q ∧
        (chasePort p s).1.chase q = s.chase q)) ∧
  (∀ (s : State) (p : Port) (c : Chase) (x : Nat) (w : Int),
    s.chase p = some c →
    c.kind = .manual →
    s.holder p = .console →
    movable (s.transport p).state = true →
    x = chaseTarget s.std c (s.tracker c.master).position →
    masterCondition s c.master = .running →
    c.state = .waiting →
    w = posDiff s.std (s.tracker p).position x →
    0 ≤ w ∧ w ≤ 3 * rate s.std * 64 →
    (if w ≤ (s.profile p).rollLead * 64 then
          (chasePort p s).1.chase p = some { c with lastTarget := some x, state := .capturing, lockRun := 0, outOfCapture := false } ∧
            ((chasePort p s).1.transport p).state = .rolling ∧ ((chasePort p s).1.transport p).speed = 1024 ∧
            ((chasePort p s).1.transport p).cue = none
        else (chasePort p s).1.chase p = some { c with lastTarget := some x } ∧ { (chasePort p s).1 with chases := s.chases } = s) ∧
      (∀ q ∈ allPorts, q ≠ p → (chasePort p s).1.port q = s.port q ∧ (chasePort p s).1.transport q = s.transport q ∧
        (chasePort p s).1.chase q = s.chase q)) ∧
  (∀ (s : State) (p : Port) (c : Chase) (x : Nat),
    s.chase p = some c →
    c.kind = .manual →
    s.holder p = .console →
    movable (s.transport p).state = true →
    x = chaseTarget s.std c (s.tracker c.master).position →
    masterCondition s c.master = .running →
    (c.state = .capturing ∨ c.state = .locked) →
    ((s.transport p).state = .idle ∨ (s.transport p).state = .parked) →
    (chasePort p s).1.chase p = some { c with
        lastTarget := some x, state := .parked, cuePoint := none
        lockRun := if c.state = .capturing then 0 else c.lockRun } ∧ ((chasePort p s).1.transport p = s.transport p) ∧ (chasePort p s).1.port p = s.port p ∧
      (chasePort p s).1.notices = (if c.state = .locked then putNotice (.lock p false) s.notices else s.notices) ∧ (∀ q ∈ allPorts, q ≠ p → (chasePort p s).1.port q = s.port q ∧ (chasePort p s).1.transport q = s.transport q ∧
        (chasePort p s).1.chase q = s.chase q)) ∧
  (∀ (s : State) (p : Port) (c : Chase) (x : Nat) (e : Int),
    s.chase p = some c →
    c.kind = .manual →
    s.holder p = .console →
    movable (s.transport p).state = true →
    x = chaseTarget s.std c (s.tracker c.master).position →
    masterCondition s c.master = .running →
    c.state = .capturing →
    (s.transport p).state = .rolling →
    (s.tracker p).settle = 0 ∧ (s.tracker p).age < 8 ∧ (s.tracker c.master).age < 8 →
    e = posDiff s.std x (s.tracker p).position →
    (s.profile p).captureWindow * 64 < e.natAbs →
    (s.profile p).lockWindow < e.natAbs ∧ 1 ≤ (s.profile p).lockCount →
    (chasePort p s).1.chase p = some { c with
        lastTarget := some x, lastError := some e, lockRun := 0, state := .seeking
        cuePoint := some (posAdd s.std x (2 * rate s.std * 64 : Nat)) } ∧
      ((chasePort p s).1.transport p = { s.transport p with
        state := .cueing, speed := 0, lastKind := some .seek, standbyTimer := 0
        cue := some { requester := .chase, target := posAdd s.std x (2 * rate s.std * 64 : Nat), attempts := 1, acked := false, elapsed := 0, lastStop := none } }) ∧
      ((chasePort p s).1.port p).commands = (if (s.port p).line = .online then enqueue (.seek (posAdd s.std x (2 * rate s.std * 64 : Nat))) (s.port p).commands
        else (s.port p).commands) ∧ (∀ q ∈ allPorts, q ≠ p → (chasePort p s).1.port q = s.port q ∧ (chasePort p s).1.transport q = s.transport q ∧
        (chasePort p s).1.chase q = s.chase q)) ∧
  (∀ (s : State) (p : Port) (c : Chase) (x : Nat),
    s.chase p = some c →
    c.kind = .manual →
    ((s.transport p).state = .waking ∨ (s.transport p).state = .offline) →
    x = chaseTarget s.std c (s.tracker c.master).position →
    (chasePort p s).1.chase p = some (if (s.transport p).state = .waking then { c with lastTarget := some x }
        else { c with lastTarget := some x, state := .parked, cuePoint := none }) ∧ ((chasePort p s).1.transport p = s.transport p) ∧ (chasePort p s).1.port p = s.port p ∧ (∀ q ∈ allPorts, q ≠ p → (chasePort p s).1.port q = s.port q ∧ (chasePort p s).1.transport q = s.transport q ∧
        (chasePort p s).1.chase q = s.chase q))
end

