-- ==== Sys2Proof/Laws/State.lean ====
section
/-! SUPPORT. Small lemmas of the records and of the updates of State: one for each field an update leaves, and what it
leaves in its own. -/

namespace Sys2Proof.Machine

/-! ## One value for each port or line -/

/-- What stands at a port after a value was put at one. -/
theorem PerPort.get_set {α : Type} (v : PerPort α) (p q : Port) (a : α) :
    (v.set p a).get q = if q = p then a else v.get q := by
  cases p <;> cases q <;> rfl

/-- What stands at the port where a value was put. -/
@[simp] theorem PerPort.get_set_self {α : Type} (v : PerPort α) (p : Port) (a : α) : (v.set p a).get p = a := by
  cases p <;> rfl

/-- A value put at a port leaves the others. -/
theorem PerPort.get_set_ne {α : Type} (v : PerPort α) {p q : Port} (a : α) (h : q ≠ p) :
    (v.set p a).get q = v.get q := by
  rw [PerPort.get_set, if_neg h]

/-- The same value everywhere. -/
@[simp] theorem PerPort.get_const {α : Type} (a : α) (p : Port) : (PerPort.const a).get p = a := by cases p <;> rfl

/-- Every value changed. -/
@[simp] theorem PerPort.get_mapAll {α β : Type} (f : Port → α → β) (v : PerPort α) (p : Port) :
    (v.mapAll f).get p = f p (v.get p) := by
  cases p <;> rfl

/-- Values that agree at every port are equal. -/
theorem PerPort.ext_get {α : Type} {v w : PerPort α} (h : ∀ p, v.get p = w.get p) : v = w := by
  obtain ⟨a, b, c, d, e, f⟩ := v
  obtain ⟨a', b', c', d', e', f'⟩ := w
  have h1 : a = a' := h .p1
  have h2 : b = b' := h .p2
  have h3 : c = c' := h .p3
  have h4 : d = d' := h .p4
  have h5 : e = e' := h .p5
  have h6 : f = f' := h .p6
  subst h1 h2 h3 h4 h5 h6
  rfl

/-- A value put where it stands already. -/
@[simp] theorem PerPort.set_get {α : Type} (v : PerPort α) (p : Port) : v.set p (v.get p) = v := by cases p <;> rfl

/-- Every value left as it is. -/
theorem PerPort.mapAll_eq {α : Type} (f : Port → α → α) (v : PerPort α) (h : ∀ p, f p (v.get p) = v.get p) :
    v.mapAll f = v :=
  PerPort.ext_get (fun p => by rw [PerPort.get_mapAll, h])

/-- What stands at a line after a value was put at one. -/
theorem PerLine.get_set {α : Type} (v : PerLine α) (l m : Line) (a : α) :
    (v.set l a).get m = if m = l then a else v.get m := by
  cases l <;> cases m <;> rfl

/-- What stands at the line where a value was put. -/
@[simp] theorem PerLine.get_set_self {α : Type} (v : PerLine α) (l : Line) (a : α) : (v.set l a).get l = a := by
  cases l <;> rfl

/-- The same value everywhere. -/
@[simp] theorem PerLine.get_const {α : Type} (a : α) (l : Line) : (PerLine.const a).get l = a := by cases l <;> rfl

/-- Every value changed. -/
@[simp] theorem PerLine.get_mapAll {α β : Type} (f : Line → α → β) (v : PerLine α) (l : Line) :
    (v.mapAll f).get l = f l (v.get l) := by
  cases l <;> rfl

/-- Every port is listed. -/
@[simp] theorem mem_allPorts (p : Port) : p ∈ allPorts := by cases p <;> decide

/-- Every line is listed. -/
@[simp] theorem mem_allLines (l : Line) : l ∈ allLines := by cases l <;> decide

/-! ## setPort -/

/-- `setPort` leaves its record. -/
@[simp] theorem State.setPort_self (s : State) (p : Port) (d : DeckPort) : (s.setPort p d).port p = d :=
  PerPort.get_set_self _ _ _

/-- `setPort` at one port, read at any. -/
theorem State.setPort_port (s : State) (p q : Port) (d : DeckPort) :
    (s.setPort p d).port q = if q = p then d else s.port q :=
  PerPort.get_set _ _ _ _

/-- `setPort` leaves the other ports. -/
theorem State.setPort_ne (s : State) {p q : Port} (d : DeckPort) (h : q ≠ p) : (s.setPort p d).port q = s.port q :=
  PerPort.get_set_ne _ _ h

/-- `setPort` changes `ports` alone. -/
theorem State.setPort_only (s : State) (p : Port) (d : DeckPort) : { s.setPort p d with ports := s.ports } = s := rfl

/-- What stands is put back. -/
@[simp] theorem State.setPort_same (s : State) (p : Port) : s.setPort p (s.port p) = s := by
  cases p <;> rfl

@[simp] theorem State.setPort_pending (s : State) (p : Port) (d : DeckPort) : (s.setPort p d).pending = s.pending := rfl
@[simp] theorem State.setPort_inReset (s : State) (p : Port) (d : DeckPort) : (s.setPort p d).inReset = s.inReset := rfl
@[simp] theorem State.setPort_ref (s : State) (p : Port) (d : DeckPort) : (s.setPort p d).ref = s.ref := rfl
@[simp] theorem State.setPort_frame (s : State) (p : Port) (d : DeckPort) : (s.setPort p d).frame = s.frame := rfl
@[simp] theorem State.setPort_list (s : State) (p : Port) (d : DeckPort) : (s.setPort p d).list = s.list := rfl
@[simp] theorem State.setPort_reels (s : State) (p : Port) (d : DeckPort) : (s.setPort p d).reels = s.reels := rfl
@[simp] theorem State.setPort_transports (s : State) (p : Port) (d : DeckPort) : (s.setPort p d).transports = s.transports := rfl
@[simp] theorem State.setPort_holders (s : State) (p : Port) (d : DeckPort) : (s.setPort p d).holders = s.holders := rfl
@[simp] theorem State.setPort_trackers (s : State) (p : Port) (d : DeckPort) : (s.setPort p d).trackers = s.trackers := rfl
@[simp] theorem State.setPort_chases (s : State) (p : Port) (d : DeckPort) : (s.setPort p d).chases = s.chases := rfl
@[simp] theorem State.setPort_seq (s : State) (p : Port) (d : DeckPort) : (s.setPort p d).seq = s.seq := rfl
@[simp] theorem State.setPort_recorderFrame (s : State) (p : Port) (d : DeckPort) : (s.setPort p d).recorderFrame = s.recorderFrame := rfl
@[simp] theorem State.setPort_mix (s : State) (p : Port) (d : DeckPort) : (s.setPort p d).mix = s.mix := rfl
@[simp] theorem State.setPort_gpi (s : State) (p : Port) (d : DeckPort) : (s.setPort p d).gpi = s.gpi := rfl
@[simp] theorem State.setPort_link (s : State) (p : Port) (d : DeckPort) : (s.setPort p d).link = s.link := rfl
@[simp] theorem State.setPort_notices (s : State) (p : Port) (d : DeckPort) : (s.setPort p d).notices = s.notices := rfl
@[simp] theorem State.setPort_live (s : State) (p : Port) (d : DeckPort) : (s.setPort p d).live = s.live := rfl
@[simp] theorem State.setPort_snapshot (s : State) (p : Port) (d : DeckPort) : (s.setPort p d).snapshot = s.snapshot := rfl
@[simp] theorem State.setPort_stored (s : State) (p : Port) (d : DeckPort) : (s.setPort p d).stored = s.stored := rfl
@[simp] theorem State.setPort_transport (s : State) (p q : Port) (d : DeckPort) :
    (s.setPort p d).transport q = s.transport q := rfl
@[simp] theorem State.setPort_tracker (s : State) (p q : Port) (d : DeckPort) :
    (s.setPort p d).tracker q = s.tracker q := rfl
@[simp] theorem State.setPort_chase (s : State) (p q : Port) (d : DeckPort) :
    (s.setPort p d).chase q = s.chase q := rfl
@[simp] theorem State.setPort_holder (s : State) (p q : Port) (d : DeckPort) :
    (s.setPort p d).holder q = s.holder q := rfl
@[simp] theorem State.setPort_std (s : State) (p : Port) (d : DeckPort) : (s.setPort p d).std = s.std := rfl
@[simp] theorem State.setPort_recorder (s : State) (p : Port) (d : DeckPort) : (s.setPort p d).recorder = s.recorder := rfl
@[simp] theorem State.setPort_profile (s : State) (p q : Port) (d : DeckPort) :
    (s.setPort p d).profile q = s.profile q := rfl

/-! ## setTransport -/

/-- `setTransport` leaves its record. -/
@[simp] theorem State.setTransport_self (s : State) (p : Port) (t : Transport) : (s.setTransport p t).transport p = t :=
  PerPort.get_set_self _ _ _

/-- `setTransport` at one port, read at any. -/
theorem State.setTransport_transport (s : State) (p q : Port) (t : Transport) :
    (s.setTransport p t).transport q = if q = p then t else s.transport q :=
  PerPort.get_set _ _ _ _

/-- `setTransport` leaves the other ports. -/
theorem State.setTransport_ne (s : State) {p q : Port} (t : Transport) (h : q ≠ p) : (s.setTransport p t).transport q = s.transport q :=
  PerPort.get_set_ne _ _ h

/-- `setTransport` changes `transports` alone. -/
theorem State.setTransport_only (s : State) (p : Port) (t : Transport) : { s.setTransport p t with transports := s.transports } = s := rfl

/-- What stands is put back. -/
@[simp] theorem State.setTransport_same (s : State) (p : Port) : s.setTransport p (s.transport p) = s := by
  cases p <;> rfl

@[simp] theorem State.setTransport_pending (s : State) (p : Port) (t : Transport) : (s.setTransport p t).pending = s.pending := rfl
@[simp] theorem State.setTransport_inReset (s : State) (p : Port) (t : Transport) : (s.setTransport p t).inReset = s.inReset := rfl
@[simp] theorem State.setTransport_ref (s : State) (p : Port) (t : Transport) : (s.setTransport p t).ref = s.ref := rfl
@[simp] theorem State.setTransport_frame (s : State) (p : Port) (t : Transport) : (s.setTransport p t).frame = s.frame := rfl
@[simp] theorem State.setTransport_list (s : State) (p : Port) (t : Transport) : (s.setTransport p t).list = s.list := rfl
@[simp] theorem State.setTransport_reels (s : State) (p : Port) (t : Transport) : (s.setTransport p t).reels = s.reels := rfl
@[simp] theorem State.setTransport_ports (s : State) (p : Port) (t : Transport) : (s.setTransport p t).ports = s.ports := rfl
@[simp] theorem State.setTransport_holders (s : State) (p : Port) (t : Transport) : (s.setTransport p t).holders = s.holders := rfl
@[simp] theorem State.setTransport_trackers (s : State) (p : Port) (t : Transport) : (s.setTransport p t).trackers = s.trackers := rfl
@[simp] theorem State.setTransport_chases (s : State) (p : Port) (t : Transport) : (s.setTransport p t).chases = s.chases := rfl
@[simp] theorem State.setTransport_seq (s : State) (p : Port) (t : Transport) : (s.setTransport p t).seq = s.seq := rfl
@[simp] theorem State.setTransport_recorderFrame (s : State) (p : Port) (t : Transport) : (s.setTransport p t).recorderFrame = s.recorderFrame := rfl
@[simp] theorem State.setTransport_mix (s : State) (p : Port) (t : Transport) : (s.setTransport p t).mix = s.mix := rfl
@[simp] theorem State.setTransport_gpi (s : State) (p : Port) (t : Transport) : (s.setTransport p t).gpi = s.gpi := rfl
@[simp] theorem State.setTransport_link (s : State) (p : Port) (t : Transport) : (s.setTransport p t).link = s.link := rfl
@[simp] theorem State.setTransport_notices (s : State) (p : Port) (t : Transport) : (s.setTransport p t).notices = s.notices := rfl
@[simp] theorem State.setTransport_live (s : State) (p : Port) (t : Transport) : (s.setTransport p t).live = s.live := rfl
@[simp] theorem State.setTransport_snapshot (s : State) (p : Port) (t : Transport) : (s.setTransport p t).snapshot = s.snapshot := rfl
@[simp] theorem State.setTransport_stored (s : State) (p : Port) (t : Transport) : (s.setTransport p t).stored = s.stored := rfl
@[simp] theorem State.setTransport_port (s : State) (p q : Port) (t : Transport) :
    (s.setTransport p t).port q = s.port q := rfl
@[simp] theorem State.setTransport_tracker (s : State) (p q : Port) (t : Transport) :
    (s.setTransport p t).tracker q = s.tracker q := rfl
@[simp] theorem State.setTransport_chase (s : State) (p q : Port) (t : Transport) :
    (s.setTransport p t).chase q = s.chase q := rfl
@[simp] theorem State.setTransport_holder (s : State) (p q : Port) (t : Transport) :
    (s.setTransport p t).holder q = s.holder q := rfl
@[simp] theorem State.setTransport_std (s : State) (p : Port) (t : Transport) : (s.setTransport p t).std = s.std := rfl
@[simp] theorem State.setTransport_recorder (s : State) (p : Port) (t : Transport) : (s.setTransport p t).recorder = s.recorder := rfl
@[simp] theorem State.setTransport_profile (s : State) (p q : Port) (t : Transport) :
    (s.setTransport p t).profile q = s.profile q := rfl

/-! ## setTracker -/

/-- `setTracker` leaves its record. -/
@[simp] theorem State.setTracker_self (s : State) (p : Port) (k : Tracker) : (s.setTracker p k).tracker p = k :=
  PerPort.get_set_self _ _ _

/-- `setTracker` at one port, read at any. -/
theorem State.setTracker_tracker (s : State) (p q : Port) (k : Tracker) :
    (s.setTracker p k).tracker q = if q = p then k else s.tracker q :=
  PerPort.get_set _ _ _ _

/-- `setTracker` leaves the other ports. -/
theorem State.setTracker_ne (s : State) {p q : Port} (k : Tracker) (h : q ≠ p) : (s.setTracker p k).tracker q = s.tracker q :=
  PerPort.get_set_ne _ _ h

/-- `setTracker` changes `trackers` alone. -/
theorem State.setTracker_only (s : State) (p : Port) (k : Tracker) : { s.setTracker p k with trackers := s.trackers } = s := rfl

/-- What stands is put back. -/
@[simp] theorem State.setTracker_same (s : State) (p : Port) : s.setTracker p (s.tracker p) = s := by
  cases p <;> rfl

@[simp] theorem State.setTracker_pending (s : State) (p : Port) (k : Tracker) : (s.setTracker p k).pending = s.pending := rfl
@[simp] theorem State.setTracker_inReset (s : State) (p : Port) (k : Tracker) : (s.setTracker p k).inReset = s.inReset := rfl
@[simp] theorem State.setTracker_ref (s : State) (p : Port) (k : Tracker) : (s.setTracker p k).ref = s.ref := rfl
@[simp] theorem State.setTracker_frame (s : State) (p : Port) (k : Tracker) : (s.setTracker p k).frame = s.frame := rfl
@[simp] theorem State.setTracker_list (s : State) (p : Port) (k : Tracker) : (s.setTracker p k).list = s.list := rfl
@[simp] theorem State.setTracker_reels (s : State) (p : Port) (k : Tracker) : (s.setTracker p k).reels = s.reels := rfl
@[simp] theorem State.setTracker_ports (s : State) (p : Port) (k : Tracker) : (s.setTracker p k).ports = s.ports := rfl
@[simp] theorem State.setTracker_transports (s : State) (p : Port) (k : Tracker) : (s.setTracker p k).transports = s.transports := rfl
@[simp] theorem State.setTracker_holders (s : State) (p : Port) (k : Tracker) : (s.setTracker p k).holders = s.holders := rfl
@[simp] theorem State.setTracker_chases (s : State) (p : Port) (k : Tracker) : (s.setTracker p k).chases = s.chases := rfl
@[simp] theorem State.setTracker_seq (s : State) (p : Port) (k : Tracker) : (s.setTracker p k).seq = s.seq := rfl
@[simp] theorem State.setTracker_recorderFrame (s : State) (p : Port) (k : Tracker) : (s.setTracker p k).recorderFrame = s.recorderFrame := rfl
@[simp] theorem State.setTracker_mix (s : State) (p : Port) (k : Tracker) : (s.setTracker p k).mix = s.mix := rfl
@[simp] theorem State.setTracker_gpi (s : State) (p : Port) (k : Tracker) : (s.setTracker p k).gpi = s.gpi := rfl
@[simp] theorem State.setTracker_link (s : State) (p : Port) (k : Tracker) : (s.setTracker p k).link = s.link := rfl
@[simp] theorem State.setTracker_notices (s : State) (p : Port) (k : Tracker) : (s.setTracker p k).notices = s.notices := rfl
@[simp] theorem State.setTracker_live (s : State) (p : Port) (k : Tracker) : (s.setTracker p k).live = s.live := rfl
@[simp] theorem State.setTracker_snapshot (s : State) (p : Port) (k : Tracker) : (s.setTracker p k).snapshot = s.snapshot := rfl
@[simp] theorem State.setTracker_stored (s : State) (p : Port) (k : Tracker) : (s.setTracker p k).stored = s.stored := rfl
@[simp] theorem State.setTracker_port (s : State) (p q : Port) (k : Tracker) :
    (s.setTracker p k).port q = s.port q := rfl
@[simp] theorem State.setTracker_transport (s : State) (p q : Port) (k : Tracker) :
    (s.setTracker p k).transport q = s.transport q := rfl
@[simp] theorem State.setTracker_chase (s : State) (p q : Port) (k : Tracker) :
    (s.setTracker p k).chase q = s.chase q := rfl
@[simp] theorem State.setTracker_holder (s : State) (p q : Port) (k : Tracker) :
    (s.setTracker p k).holder q = s.holder q := rfl
@[simp] theorem State.setTracker_std (s : State) (p : Port) (k : Tracker) : (s.setTracker p k).std = s.std := rfl
@[simp] theorem State.setTracker_recorder (s : State) (p : Port) (k : Tracker) : (s.setTracker p k).recorder = s.recorder := rfl
@[simp] theorem State.setTracker_profile (s : State) (p q : Port) (k : Tracker) :
    (s.setTracker p k).profile q = s.profile q := rfl

/-! ## setChase -/

/-- `setChase` leaves its record. -/
@[simp] theorem State.setChase_self (s : State) (p : Port) (c : Option Chase) : (s.setChase p c).chase p = c :=
  PerPort.get_set_self _ _ _

/-- `setChase` at one port, read at any. -/
theorem State.setChase_chase (s : State) (p q : Port) (c : Option Chase) :
    (s.setChase p c).chase q = if q = p then c else s.chase q :=
  PerPort.get_set _ _ _ _

/-- `setChase` leaves the other ports. -/
theorem State.setChase_ne (s : State) {p q : Port} (c : Option Chase) (h : q ≠ p) : (s.setChase p c).chase q = s.chase q :=
  PerPort.get_set_ne _ _ h

/-- `setChase` changes `chases` alone. -/
theorem State.setChase_only (s : State) (p : Port) (c : Option Chase) : { s.setChase p c with chases := s.chases } = s := rfl

/-- What stands is put back. -/
@[simp] theorem State.setChase_same (s : State) (p : Port) : s.setChase p (s.chase p) = s := by
  cases p <;> rfl

@[simp] theorem State.setChase_pending (s : State) (p : Port) (c : Option Chase) : (s.setChase p c).pending = s.pending := rfl
@[simp] theorem State.setChase_inReset (s : State) (p : Port) (c : Option Chase) : (s.setChase p c).inReset = s.inReset := rfl
@[simp] theorem State.setChase_ref (s : State) (p : Port) (c : Option Chase) : (s.setChase p c).ref = s.ref := rfl
@[simp] theorem State.setChase_frame (s : State) (p : Port) (c : Option Chase) : (s.setChase p c).frame = s.frame := rfl
@[simp] theorem State.setChase_list (s : State) (p : Port) (c : Option Chase) : (s.setChase p c).list = s.list := rfl
@[simp] theorem State.setChase_reels (s : State) (p : Port) (c : Option Chase) : (s.setChase p c).reels = s.reels := rfl
@[simp] theorem State.setChase_ports (s : State) (p : Port) (c : Option Chase) : (s.setChase p c).ports = s.ports := rfl
@[simp] theorem State.setChase_transports (s : State) (p : Port) (c : Option Chase) : (s.setChase p c).transports = s.transports := rfl
@[simp] theorem State.setChase_holders (s : State) (p : Port) (c : Option Chase) : (s.setChase p c).holders = s.holders := rfl
@[simp] theorem State.setChase_trackers (s : State) (p : Port) (c : Option Chase) : (s.setChase p c).trackers = s.trackers := rfl
@[simp] theorem State.setChase_seq (s : State) (p : Port) (c : Option Chase) : (s.setChase p c).seq = s.seq := rfl
@[simp] theorem State.setChase_recorderFrame (s : State) (p : Port) (c : Option Chase) : (s.setChase p c).recorderFrame = s.recorderFrame := rfl
@[simp] theorem State.setChase_mix (s : State) (p : Port) (c : Option Chase) : (s.setChase p c).mix = s.mix := rfl
@[simp] theorem State.setChase_gpi (s : State) (p : Port) (c : Option Chase) : (s.setChase p c).gpi = s.gpi := rfl
@[simp] theorem State.setChase_link (s : State) (p : Port) (c : Option Chase) : (s.setChase p c).link = s.link := rfl
@[simp] theorem State.setChase_notices (s : State) (p : Port) (c : Option Chase) : (s.setChase p c).notices = s.notices := rfl
@[simp] theorem State.setChase_live (s : State) (p : Port) (c : Option Chase) : (s.setChase p c).live = s.live := rfl
@[simp] theorem State.setChase_snapshot (s : State) (p : Port) (c : Option Chase) : (s.setChase p c).snapshot = s.snapshot := rfl
@[simp] theorem State.setChase_stored (s : State) (p : Port) (c : Option Chase) : (s.setChase p c).stored = s.stored := rfl
@[simp] theorem State.setChase_port (s : State) (p q : Port) (c : Option Chase) :
    (s.setChase p c).port q = s.port q := rfl
@[simp] theorem State.setChase_transport (s : State) (p q : Port) (c : Option Chase) :
    (s.setChase p c).transport q = s.transport q := rfl
@[simp] theorem State.setChase_tracker (s : State) (p q : Port) (c : Option Chase) :
    (s.setChase p c).tracker q = s.tracker q := rfl
@[simp] theorem State.setChase_holder (s : State) (p q : Port) (c : Option Chase) :
    (s.setChase p c).holder q = s.holder q := rfl
@[simp] theorem State.setChase_std (s : State) (p : Port) (c : Option Chase) : (s.setChase p c).std = s.std := rfl
@[simp] theorem State.setChase_recorder (s : State) (p : Port) (c : Option Chase) : (s.setChase p c).recorder = s.recorder := rfl
@[simp] theorem State.setChase_profile (s : State) (p q : Port) (c : Option Chase) :
    (s.setChase p c).profile q = s.profile q := rfl

/-! ## setHolder -/

/-- `setHolder` leaves its record. -/
@[simp] theorem State.setHolder_self (s : State) (p : Port) (h : Holder) : (s.setHolder p h).holder p = h :=
  PerPort.get_set_self _ _ _

/-- `setHolder` at one port, read at any. -/
theorem State.setHolder_holder (s : State) (p q : Port) (h : Holder) :
    (s.setHolder p h).holder q = if q = p then h else s.holder q :=
  PerPort.get_set _ _ _ _

/-- `setHolder` leaves the other ports. -/
theorem State.setHolder_ne (s : State) {p q : Port} (h : Holder) (hne : q ≠ p) : (s.setHolder p h).holder q = s.holder q :=
  PerPort.get_set_ne _ _ hne

/-- `setHolder` changes `holders` alone. -/
theorem State.setHolder_only (s : State) (p : Port) (h : Holder) : { s.setHolder p h with holders := s.holders } = s := rfl

/-- What stands is put back. -/
@[simp] theorem State.setHolder_same (s : State) (p : Port) : s.setHolder p (s.holder p) = s := by
  cases p <;> rfl

@[simp] theorem State.setHolder_pending (s : State) (p : Port) (h : Holder) : (s.setHolder p h).pending = s.pending := rfl
@[simp] theorem State.setHolder_inReset (s : State) (p : Port) (h : Holder) : (s.setHolder p h).inReset = s.inReset := rfl
@[simp] theorem State.setHolder_ref (s : State) (p : Port) (h : Holder) : (s.setHolder p h).ref = s.ref := rfl
@[simp] theorem State.setHolder_frame (s : State) (p : Port) (h : Holder) : (s.setHolder p h).frame = s.frame := rfl
@[simp] theorem State.setHolder_list (s : State) (p : Port) (h : Holder) : (s.setHolder p h).list = s.list := rfl
@[simp] theorem State.setHolder_reels (s : State) (p : Port) (h : Holder) : (s.setHolder p h).reels = s.reels := rfl
@[simp] theorem State.setHolder_ports (s : State) (p : Port) (h : Holder) : (s.setHolder p h).ports = s.ports := rfl
@[simp] theorem State.setHolder_transports (s : State) (p : Port) (h : Holder) : (s.setHolder p h).transports = s.transports := rfl
@[simp] theorem State.setHolder_trackers (s : State) (p : Port) (h : Holder) : (s.setHolder p h).trackers = s.trackers := rfl
@[simp] theorem State.setHolder_chases (s : State) (p : Port) (h : Holder) : (s.setHolder p h).chases = s.chases := rfl
@[simp] theorem State.setHolder_seq (s : State) (p : Port) (h : Holder) : (s.setHolder p h).seq = s.seq := rfl
@[simp] theorem State.setHolder_recorderFrame (s : State) (p : Port) (h : Holder) : (s.setHolder p h).recorderFrame = s.recorderFrame := rfl
@[simp] theorem State.setHolder_mix (s : State) (p : Port) (h : Holder) : (s.setHolder p h).mix = s.mix := rfl
@[simp] theorem State.setHolder_gpi (s : State) (p : Port) (h : Holder) : (s.setHolder p h).gpi = s.gpi := rfl
@[simp] theorem State.setHolder_link (s : State) (p : Port) (h : Holder) : (s.setHolder p h).link = s.link := rfl
@[simp] theorem State.setHolder_notices (s : State) (p : Port) (h : Holder) : (s.setHolder p h).notices = s.notices := rfl
@[simp] theorem State.setHolder_live (s : State) (p : Port) (h : Holder) : (s.setHolder p h).live = s.live := rfl
@[simp] theorem State.setHolder_snapshot (s : State) (p : Port) (h : Holder) : (s.setHolder p h).snapshot = s.snapshot := rfl
@[simp] theorem State.setHolder_stored (s : State) (p : Port) (h : Holder) : (s.setHolder p h).stored = s.stored := rfl
@[simp] theorem State.setHolder_port (s : State) (p q : Port) (h : Holder) :
    (s.setHolder p h).port q = s.port q := rfl
@[simp] theorem State.setHolder_transport (s : State) (p q : Port) (h : Holder) :
    (s.setHolder p h).transport q = s.transport q := rfl
@[simp] theorem State.setHolder_tracker (s : State) (p q : Port) (h : Holder) :
    (s.setHolder p h).tracker q = s.tracker q := rfl
@[simp] theorem State.setHolder_chase (s : State) (p q : Port) (h : Holder) :
    (s.setHolder p h).chase q = s.chase q := rfl
@[simp] theorem State.setHolder_std (s : State) (p : Port) (h : Holder) : (s.setHolder p h).std = s.std := rfl
@[simp] theorem State.setHolder_recorder (s : State) (p : Port) (h : Holder) : (s.setHolder p h).recorder = s.recorder := rfl
@[simp] theorem State.setHolder_profile (s : State) (p q : Port) (h : Holder) :
    (s.setHolder p h).profile q = s.profile q := rfl

/-! ## raise -/

/-- `raise` changes `notices` alone. -/
theorem raise_only (n : Notice) (s : State) : { raise n s with notices := s.notices } = s := rfl

/-- What `raise` leaves in `notices`. -/
@[simp] theorem raise_notices (n : Notice) (s : State) : (raise n s).notices = putNotice n s.notices := rfl

@[simp] theorem raise_pending (n : Notice) (s : State) : (raise n s).pending = s.pending := rfl
@[simp] theorem raise_inReset (n : Notice) (s : State) : (raise n s).inReset = s.inReset := rfl
@[simp] theorem raise_ref (n : Notice) (s : State) : (raise n s).ref = s.ref := rfl
@[simp] theorem raise_frame (n : Notice) (s : State) : (raise n s).frame = s.frame := rfl
@[simp] theorem raise_list (n : Notice) (s : State) : (raise n s).list = s.list := rfl
@[simp] theorem raise_reels (n : Notice) (s : State) : (raise n s).reels = s.reels := rfl
@[simp] theorem raise_ports (n : Notice) (s : State) : (raise n s).ports = s.ports := rfl
@[simp] theorem raise_transports (n : Notice) (s : State) : (raise n s).transports = s.transports := rfl
@[simp] theorem raise_holders (n : Notice) (s : State) : (raise n s).holders = s.holders := rfl
@[simp] theorem raise_trackers (n : Notice) (s : State) : (raise n s).trackers = s.trackers := rfl
@[simp] theorem raise_chases (n : Notice) (s : State) : (raise n s).chases = s.chases := rfl
@[simp] theorem raise_seq (n : Notice) (s : State) : (raise n s).seq = s.seq := rfl
@[simp] theorem raise_recorderFrame (n : Notice) (s : State) : (raise n s).recorderFrame = s.recorderFrame := rfl
@[simp] theorem raise_mix (n : Notice) (s : State) : (raise n s).mix = s.mix := rfl
@[simp] theorem raise_gpi (n : Notice) (s : State) : (raise n s).gpi = s.gpi := rfl
@[simp] theorem raise_link (n : Notice) (s : State) : (raise n s).link = s.link := rfl
@[simp] theorem raise_live (n : Notice) (s : State) : (raise n s).live = s.live := rfl
@[simp] theorem raise_snapshot (n : Notice) (s : State) : (raise n s).snapshot = s.snapshot := rfl
@[simp] theorem raise_stored (n : Notice) (s : State) : (raise n s).stored = s.stored := rfl
@[simp] theorem raise_port (n : Notice) (s : State) (p : Port) : (raise n s).port p = s.port p := rfl
@[simp] theorem raise_transport (n : Notice) (s : State) (p : Port) : (raise n s).transport p = s.transport p := rfl
@[simp] theorem raise_tracker (n : Notice) (s : State) (p : Port) : (raise n s).tracker p = s.tracker p := rfl
@[simp] theorem raise_chase (n : Notice) (s : State) (p : Port) : (raise n s).chase p = s.chase p := rfl
@[simp] theorem raise_holder (n : Notice) (s : State) (p : Port) : (raise n s).holder p = s.holder p := rfl
@[simp] theorem raise_std (n : Notice) (s : State) : (raise n s).std = s.std := rfl

/-! ## setSeq -/

/-- `setSeq` changes `seq` alone. -/
theorem setSeq_only (f : Sequencer → Sequencer) (s : State) : { setSeq f s with seq := s.seq } = s := rfl

/-- What `setSeq` leaves in `seq`. -/
@[simp] theorem setSeq_seq (f : Sequencer → Sequencer) (s : State) : (setSeq f s).seq = f s.seq := rfl

@[simp] theorem setSeq_pending (f : Sequencer → Sequencer) (s : State) : (setSeq f s).pending = s.pending := rfl
@[simp] theorem setSeq_inReset (f : Sequencer → Sequencer) (s : State) : (setSeq f s).inReset = s.inReset := rfl
@[simp] theorem setSeq_ref (f : Sequencer → Sequencer) (s : State) : (setSeq f s).ref = s.ref := rfl
@[simp] theorem setSeq_frame (f : Sequencer → Sequencer) (s : State) : (setSeq f s).frame = s.frame := rfl
@[simp] theorem setSeq_list (f : Sequencer → Sequencer) (s : State) : (setSeq f s).list = s.list := rfl
@[simp] theorem setSeq_reels (f : Sequencer → Sequencer) (s : State) : (setSeq f s).reels = s.reels := rfl
@[simp] theorem setSeq_ports (f : Sequencer → Sequencer) (s : State) : (setSeq f s).ports = s.ports := rfl
@[simp] theorem setSeq_transports (f : Sequencer → Sequencer) (s : State) : (setSeq f s).transports = s.transports := rfl
@[simp] theorem setSeq_holders (f : Sequencer → Sequencer) (s : State) : (setSeq f s).holders = s.holders := rfl
@[simp] theorem setSeq_trackers (f : Sequencer → Sequencer) (s : State) : (setSeq f s).trackers = s.trackers := rfl
@[simp] theorem setSeq_chases (f : Sequencer → Sequencer) (s : State) : (setSeq f s).chases = s.chases := rfl
@[simp] theorem setSeq_recorderFrame (f : Sequencer → Sequencer) (s : State) : (setSeq f s).recorderFrame = s.recorderFrame := rfl
@[simp] theorem setSeq_mix (f : Sequencer → Sequencer) (s : State) : (setSeq f s).mix = s.mix := rfl
@[simp] theorem setSeq_gpi (f : Sequencer → Sequencer) (s : State) : (setSeq f s).gpi = s.gpi := rfl
@[simp] theorem setSeq_link (f : Sequencer → Sequencer) (s : State) : (setSeq f s).link = s.link := rfl
@[simp] theorem setSeq_notices (f : Sequencer → Sequencer) (s : State) : (setSeq f s).notices = s.notices := rfl
@[simp] theorem setSeq_live (f : Sequencer → Sequencer) (s : State) : (setSeq f s).live = s.live := rfl
@[simp] theorem setSeq_snapshot (f : Sequencer → Sequencer) (s : State) : (setSeq f s).snapshot = s.snapshot := rfl
@[simp] theorem setSeq_stored (f : Sequencer → Sequencer) (s : State) : (setSeq f s).stored = s.stored := rfl
@[simp] theorem setSeq_port (f : Sequencer → Sequencer) (s : State) (p : Port) : (setSeq f s).port p = s.port p := rfl
@[simp] theorem setSeq_transport (f : Sequencer → Sequencer) (s : State) (p : Port) : (setSeq f s).transport p = s.transport p := rfl
@[simp] theorem setSeq_tracker (f : Sequencer → Sequencer) (s : State) (p : Port) : (setSeq f s).tracker p = s.tracker p := rfl
@[simp] theorem setSeq_chase (f : Sequencer → Sequencer) (s : State) (p : Port) : (setSeq f s).chase p = s.chase p := rfl
@[simp] theorem setSeq_holder (f : Sequencer → Sequencer) (s : State) (p : Port) : (setSeq f s).holder p = s.holder p := rfl
@[simp] theorem setSeq_std (f : Sequencer → Sequencer) (s : State) : (setSeq f s).std = s.std := rfl

/-! ## setList -/

/-- `setList` changes `list` alone. -/
theorem setList_only (l : ListUnit) (s : State) : { setList l s with list := s.list } = s := rfl

/-- What `setList` leaves in `list`. -/
@[simp] theorem setList_list (l : ListUnit) (s : State) : (setList l s).list = l := rfl

@[simp] theorem setList_pending (l : ListUnit) (s : State) : (setList l s).pending = s.pending := rfl
@[simp] theorem setList_inReset (l : ListUnit) (s : State) : (setList l s).inReset = s.inReset := rfl
@[simp] theorem setList_ref (l : ListUnit) (s : State) : (setList l s).ref = s.ref := rfl
@[simp] theorem setList_frame (l : ListUnit) (s : State) : (setList l s).frame = s.frame := rfl
@[simp] theorem setList_reels (l : ListUnit) (s : State) : (setList l s).reels = s.reels := rfl
@[simp] theorem setList_ports (l : ListUnit) (s : State) : (setList l s).ports = s.ports := rfl
@[simp] theorem setList_transports (l : ListUnit) (s : State) : (setList l s).transports = s.transports := rfl
@[simp] theorem setList_holders (l : ListUnit) (s : State) : (setList l s).holders = s.holders := rfl
@[simp] theorem setList_trackers (l : ListUnit) (s : State) : (setList l s).trackers = s.trackers := rfl
@[simp] theorem setList_chases (l : ListUnit) (s : State) : (setList l s).chases = s.chases := rfl
@[simp] theorem setList_seq (l : ListUnit) (s : State) : (setList l s).seq = s.seq := rfl
@[simp] theorem setList_recorderFrame (l : ListUnit) (s : State) : (setList l s).recorderFrame = s.recorderFrame := rfl
@[simp] theorem setList_mix (l : ListUnit) (s : State) : (setList l s).mix = s.mix := rfl
@[simp] theorem setList_gpi (l : ListUnit) (s : State) : (setList l s).gpi = s.gpi := rfl
@[simp] theorem setList_link (l : ListUnit) (s : State) : (setList l s).link = s.link := rfl
@[simp] theorem setList_notices (l : ListUnit) (s : State) : (setList l s).notices = s.notices := rfl
@[simp] theorem setList_live (l : ListUnit) (s : State) : (setList l s).live = s.live := rfl
@[simp] theorem setList_snapshot (l : ListUnit) (s : State) : (setList l s).snapshot = s.snapshot := rfl
@[simp] theorem setList_stored (l : ListUnit) (s : State) : (setList l s).stored = s.stored := rfl
@[simp] theorem setList_port (l : ListUnit) (s : State) (p : Port) : (setList l s).port p = s.port p := rfl
@[simp] theorem setList_transport (l : ListUnit) (s : State) (p : Port) : (setList l s).transport p = s.transport p := rfl
@[simp] theorem setList_tracker (l : ListUnit) (s : State) (p : Port) : (setList l s).tracker p = s.tracker p := rfl
@[simp] theorem setList_chase (l : ListUnit) (s : State) (p : Port) : (setList l s).chase p = s.chase p := rfl
@[simp] theorem setList_holder (l : ListUnit) (s : State) (p : Port) : (setList l s).holder p = s.holder p := rfl
@[simp] theorem setList_std (l : ListUnit) (s : State) : (setList l s).std = s.std := rfl

end Sys2Proof.Machine
end

