-- ==== Sys2Proof/Laws/Ops.lean ====
section
/-! SUPPORT. What each shared operation can do, said once: the fields it may change and what it leaves in them. -/

namespace Sys2Proof.Machine

/-! ## Notices (R190, R191) -/

/-- The notices after one is put: it, and the older ones. -/
theorem mem_putNotice {m n : Notice} {ns : List Notice} (h : m ∈ putNotice n ns) : m = n ∨ m ∈ ns := by
  induction ns with
  | nil => simpa [putNotice] using h
  | cons x rest ih =>
    unfold putNotice at h
    split at h
    · simpa using h
    · split at h
      · simp only [List.mem_cons] at h ⊢
        tauto
      · simp only [List.mem_cons] at h ⊢
        rcases h with h | h
        · exact .inr (.inl h)
        · rcases ih h with h | h
          · exact .inl h
          · exact .inr (.inr h)

/-- A notice put is pending. -/
theorem putNotice_mem (n : Notice) (ns : List Notice) : n ∈ putNotice n ns := by
  induction ns with
  | nil => simp [putNotice]
  | cons x rest ih =>
    unfold putNotice
    split
    · simp
    · split <;> simp [ih]

/-- A notice of another kind or source stays pending. -/
theorem putNotice_keeps {m n : Notice} {ns : List Notice} (h : m ∈ ns) (hne : noticeSlot m ≠ noticeSlot n) :
    m ∈ putNotice n ns := by
  induction ns with
  | nil => simp at h
  | cons x rest ih =>
    unfold putNotice
    simp only [List.mem_cons] at h
    split
    · simpa using .inr h
    · split
      · rename_i heq
        rcases h with rfl | h
        · exact absurd heq.symm hne
        · simp [h]
      · rcases h with rfl | h
        · simp
        · simp [ih h]

/-- A notice keeps its kind and source at a change of standard. -/
@[simp] theorem noticeSlot_reduceNotice (std : FrameStd) (n : Notice) : noticeSlot (reduceNotice std n) = noticeSlot n := by
  cases n <;> rfl

/-- A reduced notice lies on the new day, so its labels are valid (R2, R7). -/
theorem reduceNotice_onDay (std : FrameStd) (n : Notice) : NoticeOnDay std (reduceNotice std n) := by
  have day : 0 < fday std := by cases std <;> decide
  cases n with
  | cueEnd p r =>
    intro f hf
    simp only [Option.mem_def, Option.map_eq_some_iff] at hf
    obtain ⟨x, -, rfl⟩ := hf
    exact Nat.mod_lt _ day
  | runEnd r => exact ⟨Nat.mod_lt _ day, Nat.mod_lt _ day⟩
  | _ => trivial

/-! ## Poll countdowns (R62) -/

/-- The countdown of a port after the cadences were looked at. -/
@[simp] theorem shortenPolls_port (s : State) (p : Port) :
    (shortenPolls s).port p = { s.port p with countdown := min (s.port p).countdown (cadence s p) } :=
  PerPort.get_mapAll _ _ _

/-- Only the ports change. -/
theorem shortenPolls_only (s : State) : { shortenPolls s with ports := s.ports } = s := rfl

/-- The cadences stay. -/
@[simp] theorem cadence_shortenPolls (s : State) (p : Port) : cadence (shortenPolls s) p = cadence s p := by
  unfold cadence
  rw [shortenPolls_port]
  rfl

/-- Countdowns that are short stay. -/
theorem shortenPolls_eq {s : State} (h : PollsShort s) : shortenPolls s = s := by
  have : s.ports.mapAll (fun p d => { d with countdown := min d.countdown (cadence s p) }) = s.ports := by
    refine PerPort.mapAll_eq _ _ (fun p => ?_)
    have hp : (s.ports.get p).countdown ≤ cadence s p := h p (mem_allPorts p)
    simp only [Nat.min_eq_left hp]
  unfold shortenPolls
  rw [this]

/-- After a command's work the countdowns are short. -/
theorem pollsShort_shortenPolls (s : State) : PollsShort (shortenPolls s) := by
  intro p _
  simp

/-! ## The end of a command's work -/

/-- A command works only when hardware reset is over. -/
theorem work_eq (f : State → State) (s : State) :
    work f s = .next (if s.inReset then s else shortenPolls (f s)) := rfl

/-- A command that works. -/
theorem work_running {f : State → State} {s : State} (h : s.inReset = false) : work f s = .next (shortenPolls (f s)) := by
  simp [work, h]

/-- A command during hardware reset. -/
theorem work_reset {f : State → State} {s : State} (h : s.inReset = true) : work f s = .next s := by simp [work, h]

/-- A command whose work changes nothing. -/
theorem work_idle {f : State → State} {s : State} (hs : PollsShort s) (h : f s = s) : work f s = .next s := by
  unfold work
  split
  · rfl
  · rw [h, shortenPolls_eq hs]

/-! ## Commands handed (R63, R69, R82) -/

/-- The port of a handed command. -/
theorem handCommand_port (p q : Port) (c : DeckCmd) (s : State) :
    (handCommand p c s).port q = if q = p then
      { s.port p with
        permission := permissionAfter c (s.port p).permission
        commands := if (s.port p).line = .online then enqueue c (s.port p).commands else (s.port p).commands }
    else s.port q :=
  State.setPort_port _ _ _ _

/-- A handed command changes the ports alone. -/
theorem handCommand_only (p : Port) (c : DeckCmd) (s : State) : { handCommand p c s with ports := s.ports } = s := rfl

/-- A command of the transport controller changes ports, transports and trackers alone. -/
theorem handTransport_only (p : Port) (c : DeckCmd) (s : State) :
    { handTransport p c s with ports := s.ports, transports := s.transports, trackers := s.trackers } = s := by
  unfold handTransport
  dsimp only
  split <;> rfl

/-- Its port is the one of a handed command. -/
theorem handTransport_port (p q : Port) (c : DeckCmd) (s : State) :
    (handTransport p c s).port q = (handCommand p c s).port q := by
  unfold handTransport
  dsimp only
  split <;> rfl

/-- Its transport record. -/
theorem handTransport_transport (p q : Port) (c : DeckCmd) (s : State) :
    (handTransport p c s).transport q = if q = p then
      { s.transport p with speed := commandSpeed c, lastKind := some (cmdKind c), standbyTimer := 0 }
    else s.transport q := by
  unfold handTransport
  dsimp only
  split <;> exact State.setTransport_transport _ _ _ _

/-- Its tracker: a change mark starts the settle count. -/
theorem handTransport_tracker (p q : Port) (c : DeckCmd) (s : State) :
    (handTransport p c s).tracker q = if q = p ∧ changeMark (s.transport p) c = true then
      { s.tracker p with settle := (s.profile p).settle }
    else s.tracker q := by
  unfold handTransport
  dsimp only
  split
  · rename_i h
    rw [State.setTracker_tracker]
    simp only [h, and_true]
    rfl
  · rename_i h
    rw [if_neg (fun k => h k.2)]
    rfl

/-- Entering a state changes the transports alone. -/
theorem enterState_only (p : Port) (st : TransportState) (s : State) :
    { enterState p st s with transports := s.transports } = s := rfl

/-- The record of a deck whose state was entered. -/
theorem enterState_transport (p q : Port) (st : TransportState) (s : State) :
    (enterState p st s).transport q = if q = p then
      { s.transport p with
        state := st, standbyTimer := if (s.transport p).state = st then (s.transport p).standbyTimer else 0 }
    else s.transport q :=
  State.setTransport_transport _ _ _ _

/-- The port of a deck found in STANDBY: no motion or cue waits for it any more (R91). -/
theorem dropMotionCmds_port (p q : Port) (s : State) :
    (dropMotionCmds p s).port q = if q = p then
      { s.port p with commands := (s.port p).commands.filter (fun c => !motionCmd c) }
    else s.port q :=
  State.setPort_port _ _ _ _

/-- Only the ports change. -/
theorem dropMotionCmds_only (p : Port) (s : State) : { dropMotionCmds p s with ports := s.ports } = s := rfl

/-- What waits for its line afterwards. -/
theorem mem_dropMotionCmds {p : Port} {s : State} {c : DeckCmd} :
    c ∈ ((dropMotionCmds p s).port p).commands ↔ c ∈ (s.port p).commands ∧ motionCmd c = false := by
  simp [dropMotionCmds_port]

/-- The guard hands DISENGAGE, or does nothing (R69). -/
theorem recordGuard_cases (p : Port) (sent : DeckCmd) (c : Condition) (s : State) :
    (recordGuard p sent c s = handCommand p .disengage s ∧ (s.port p).line = .online ∧ c.tracks ≠ 0
      ∧ (s.port p).permission = false ∧ DeckCmd.disengage ∉ (s.port p).commands ∧ sent ≠ .disengage)
    ∨ recordGuard p sent c s = s := by
  unfold recordGuard
  dsimp only
  split
  · rename_i h
    exact .inl ⟨rfl, by simpa using h⟩
  · exact .inr rfl

/-- The failure of a cue whose time is over: its own, or none (R86). -/
theorem cueTimesOut_failures (p : Port) (s : State) :
    (cueTimesOut p s).2 = [] ∧ (cueTimesOut p s).1 = s
      ∨ ∃ r, (cueTimesOut p s).2 = [⟨p, .time, r⟩] ∧
        ((∃ c, (s.transport p).cue = some c ∧ c.requester = r ∧ cueLimit s p ≤ c.elapsed)
          ∨ ∃ x n, (s.transport p).motion = some ⟨r, .cue x n⟩ ∧ cueLimit s p ≤ n) := by
  unfold cueTimesOut
  split
  · rename_i c _ h
    split
    · rename_i k
      exact .inr ⟨c.requester, rfl, .inl ⟨c, h, rfl, k⟩⟩
    · exact .inl ⟨rfl, rfl⟩
  · rename_i owner x n _ h
    split
    · rename_i k
      exact .inr ⟨owner, rfl, .inr ⟨x, n, h, k⟩⟩
    · exact .inl ⟨rfl, rfl⟩
  · exact .inl ⟨rfl, rfl⟩

/-- Without failures nothing is reported. -/
@[simp] theorem reportCues_nil (s : State) : reportCues (s, []) = s := rfl

/-- Failures are reported one after another. -/
@[simp] theorem reportCues_cons (s : State) (f : CueFailure) (fs : List CueFailure) :
    reportCues (s, f :: fs) = reportCues (reportCueFailed f s, fs) := rfl

/-! ## Motions and cues (R82, R84, R87, R90) -/

/-- Two states differ at most in ports, transports, trackers and notices. -/
def OnlyDecks (s t : State) : Prop :=
  { t with ports := s.ports, transports := s.transports, trackers := s.trackers, notices := s.notices } = s

/-- Nothing differs. -/
theorem OnlyDecks.refl (s : State) : OnlyDecks s s := rfl

/-- One change after another. -/
theorem OnlyDecks.trans {s t u : State} (h : OnlyDecks s t) (k : OnlyDecks t u) : OnlyDecks s u := by
  unfold OnlyDecks at *
  rw [← h]
  conv_rhs => rw [← k]

/-- A command of the transport controller. -/
theorem onlyDecks_handTransport (p : Port) (c : DeckCmd) (s : State) : OnlyDecks s (handTransport p c s) := by
  unfold handTransport
  dsimp only
  split <;> rfl

/-- A state entered. -/
theorem onlyDecks_enterState (p : Port) (st : TransportState) (s : State) : OnlyDecks s (enterState p st s) := rfl

/-- A cancellation told. -/
theorem onlyDecks_tellCancelled (a o : Requester) (p : Port) (n : Nat) (s : State) :
    OnlyDecks s (tellCancelled a o p n s) := by
  unfold tellCancelled
  split <;> rfl

/-- A transport record put. -/
theorem onlyDecks_setTransport (p : Port) (t : Transport) (s : State) : OnlyDecks s (s.setTransport p t) := rfl

/-- A cue removed. -/
theorem onlyDecks_dropCue (a : Requester) (p : Port) (s : State) : OnlyDecks s (dropCue a p s) := by
  unfold dropCue
  split
  · rfl
  · exact (onlyDecks_setTransport _ _ _).trans (onlyDecks_tellCancelled _ _ _ _ _)

/-- A pending motion put. -/
theorem onlyDecks_putMotion (a : Requester) (p : Port) (m : Option PendingMotion) (s : State) :
    OnlyDecks s (putMotion a p m s) := by
  unfold putMotion
  dsimp only
  split
  · exact (onlyDecks_setTransport _ _ _).trans (onlyDecks_tellCancelled _ _ _ _ _)
  · rfl

/-- A wake begun. -/
theorem onlyDecks_beginWake (p : Port) (m : PendingMotion) (s : State) : OnlyDecks s (beginWake p m s) :=
  (onlyDecks_handTransport p .wake s).trans ((onlyDecks_enterState p .waking _).trans (onlyDecks_setTransport p _ _))

/-- An action carried out changes ports, transports, trackers and notices alone. -/
theorem onlyDecks_act (r : Requester) (p : Port) (a : Action) (s : State) : OnlyDecks s (act r p a s) := by
  unfold act
  split
  · rfl
  · rfl
  · rfl
  · split
    · rfl
    · exact onlyDecks_beginWake _ _ _
  · exact onlyDecks_putMotion _ _ _ _
  · exact (onlyDecks_dropCue r p s).trans ((onlyDecks_handTransport p _ _).trans (onlyDecks_enterState p _ _))

/-- A cue started. -/
theorem onlyDecks_startCue (r : Requester) (p : Port) (x n : Nat) (s : State) : OnlyDecks s (startCue r p x n s) :=
  (onlyDecks_handTransport p _ s).trans ((onlyDecks_enterState p _ _).trans (onlyDecks_setTransport p _ _))

/-- A cue begun changes ports, transports, trackers and notices alone. -/
theorem onlyDecks_beginCue (r : Requester) (p : Port) (x : Nat) (s : State) : OnlyDecks s (beginCue r p x s) := by
  unfold beginCue
  split
  · rfl
  · rfl
  · rfl
  · exact onlyDecks_beginWake _ _ _
  · exact onlyDecks_putMotion _ _ _ _
  · exact (onlyDecks_dropCue r p s).trans (onlyDecks_startCue _ _ _ _ _)

/-- What the sequencer asks. -/
theorem onlyDecks_seqAct (p : Port) (a : Action) (s : State) : OnlyDecks s (seqAct p a s) := by
  unfold seqAct
  split
  · exact onlyDecks_act _ _ _ _
  · rfl

/-- What the sequencer asks. -/
theorem onlyDecks_seqCue (p : Port) (x : Nat) (s : State) : OnlyDecks s (seqCue p x s) := by
  unfold seqCue
  split
  · exact onlyDecks_beginCue _ _ _ _
  · rfl

/-- What the chase servo asks. -/
theorem onlyDecks_chaseAct (p : Port) (a : Action) (s : State) : OnlyDecks s (chaseAct p a s) := by
  unfold chaseAct
  split
  · exact onlyDecks_act _ _ _ _
  · rfl

/-- What the chase servo asks. -/
theorem onlyDecks_chaseCue (p : Port) (x : Nat) (s : State) : OnlyDecks s (chaseCue p x s) := by
  unfold chaseCue
  split
  · exact onlyDecks_beginCue _ _ _ _
  · rfl

/-- A correction of the chase servo. -/
theorem onlyDecks_chaseCorrection (p : Port) (n : Nat) (s : State) : OnlyDecks s (chaseCorrection p n s) := by
  unfold chaseCorrection
  split
  · exact onlyDecks_handTransport _ _ _
  · rfl

/-! ## The claim table (R89, R93) -/

/-- A pending RELEASE overridden. -/
theorem onlyDecks_overrideRelease (p : Port) (s : State) : OnlyDecks s (overrideRelease p s) := by
  unfold overrideRelease
  split
  · exact (onlyDecks_handTransport p _ s).trans ((onlyDecks_enterState p _ _).trans (onlyDecks_setTransport p _ _))
  · rfl

/-- The holders are left by what changes decks alone. -/
theorem OnlyDecks.holder {s t : State} (h : OnlyDecks s t) (p : Port) : t.holder p = s.holder p := by
  unfold OnlyDecks at h
  have k := congrArg State.holders h
  exact congrArg (fun v : PerPort Holder => v.get p) k

/-- The sequencer is left by what changes decks alone. -/
theorem OnlyDecks.seq {s t : State} (h : OnlyDecks s t) : t.seq = s.seq := by
  unfold OnlyDecks at h
  have k := congrArg State.seq h
  exact k

/-- The holder of a port after one was claimed. -/
theorem claimPort_holder (h : Holder) (p q : Port) (s : State) :
    (claimPort h p s).holder q = if q = p then h else s.holder q := by
  unfold claimPort
  dsimp only
  rw [(onlyDecks_overrideRelease p _).holder, State.setTransport_holder, State.setHolder_holder]

/-- The holder of a port after several were claimed. -/
theorem claimPorts_holder (h : Holder) (ps : List Port) (q : Port) (s : State) :
    (claimPorts h ps s).holder q = if q ∈ ps then h else s.holder q := by
  unfold claimPorts
  induction ps generalizing s with
  | nil => simp
  | cons p rest ih =>
    rw [List.foldl_cons, ih, claimPort_holder]
    by_cases h1 : q ∈ rest <;> by_cases h2 : q = p <;> simp [h1, h2]

/-- The holder of a port after several were freed. -/
theorem freePorts_holder (ps : List Port) (q : Port) (s : State) :
    (freePorts ps s).holder q = if q ∈ ps then .free else s.holder q := by
  unfold freePorts
  induction ps generalizing s with
  | nil => simp
  | cons p rest ih =>
    rw [List.foldl_cons, ih, State.setHolder_holder]
    by_cases h1 : q ∈ rest <;> by_cases h2 : q = p <;> simp [h1, h2]

/-- Freeing ports changes the holders alone. -/
theorem freePorts_only (ps : List Port) (s : State) : { freePorts ps s with holders := s.holders } = s := by
  unfold freePorts
  induction ps generalizing s with
  | nil => rfl
  | cons p rest ih =>
    rw [List.foldl_cons]
    exact congrArg (fun u : State => { u with holders := s.holders }) (ih (s.setHolder p .free))

end Sys2Proof.Machine
end

