-- ==== Sys2Proof/Laws/Link.lean ====
section
/-! SUPPORT. What a request transfer can do, and what an answer leaves in the console link (R187 to R189). -/

namespace Sys2Proof.Machine

/-- An answer changes the link alone. -/
theorem putAnswer_only (a : Answer) (s : State) : { putAnswer a s with link := s.link } = s := rfl

/-- The state in which a taken request is worked. -/
def taken (body : List Byte) (s : State) : State :=
  takeRequest (endTransfer (bLink (transferByte s) ++ List.replicate body.length 0) s)

/-- Taking a request changes the link alone. -/
theorem taken_only (body : List Byte) (s : State) : { taken body s with link := s.link } = s := rfl

/-- What an answered request leaves in the link. -/
theorem answer_taken_link (code : Nat) (st : Status) (out body : List Byte) (s : State) :
    (answer code st out (taken body s)).link = answered s body (say (BitVec.ofNat 8 code) st out) := rfl

/-- What a refused request leaves in the link. -/
theorem refuse_taken_link (code : Nat) (r : Reason) (body : List Byte) (s : State) :
    (refuse code r (taken body s)).link = answered s body (deny (BitVec.ofNat 8 code) r) := rfl

/-- The outcomes of a request transfer. -/
theorem request_eq (code : Nat) (fits : List Byte → Bool) (waits : List Byte → State → Bool)
    (owner : List Byte → State → State) (body : List Byte) (s : State) :
    request code fits waits owner body s =
      if s.inReset || (transferByte s).working then
        .next (endTransfer (bLink (transferByte s) ++ List.replicate body.length 0) s)
      else if !fits body then .next (refuse code .badFrame (taken body s))
      else if waits body (taken body s) then .next (leaveWaiting code body (taken body s))
      else .next (shortenPolls (owner body (taken body s))) := rfl

/-- A request transfer while working is set, or during hardware reset: nothing but the shifted bytes. -/
theorem request_discarded {code : Nat} {fits : List Byte → Bool} {waits : List Byte → State → Bool}
    {owner : List Byte → State → State} {body : List Byte} {s : State}
    (h : s.inReset = true ∨ (transferByte s).working = true) :
    request code fits waits owner body s =
      .next (endTransfer (bLink (transferByte s) ++ List.replicate body.length 0) s) := by
  rw [request_eq]
  rcases h with h | h <;> simp [h]

/-- A request whose bytes do not fit. -/
theorem request_misfit {code : Nat} {fits : List Byte → Bool} {waits : List Byte → State → Bool}
    {owner : List Byte → State → State} {body : List Byte} {s : State} (h : Ready s) (hf : fits body = false) :
    request code fits waits owner body s = .next (refuse code .badFrame (taken body s)) := by
  rw [request_eq]
  simp [h.1, h.2, hf]

/-- A request that waits for the end of a ripple chunk. -/
theorem request_waits {code : Nat} {fits : List Byte → Bool} {waits : List Byte → State → Bool}
    {owner : List Byte → State → State} {body : List Byte} {s : State} (h : Ready s) (hf : fits body = true)
    (hw : waits body (taken body s) = true) :
    request code fits waits owner body s = .next (leaveWaiting code body (taken body s)) := by
  rw [request_eq]
  simp [h.1, h.2, hf, hw]

/-- A request worked by its owner. -/
theorem request_worked {code : Nat} {fits : List Byte → Bool} {waits : List Byte → State → Bool}
    {owner : List Byte → State → State} {body : List Byte} {s : State} (h : Ready s) (hf : fits body = true)
    (hw : waits body (taken body s) = false) :
    request code fits waits owner body s = .next (shortenPolls (owner body (taken body s))) := by
  rw [request_eq]
  simp [h.1, h.2, hf, hw]

/-- Taking a request leaves the cadences. -/
theorem cadence_taken (body : List Byte) (s : State) (p : Port) : cadence (taken body s) p = cadence s p := rfl

/-- A request that only answers leaves the countdowns, short as they are. -/
theorem request_answers {code : Nat} {fits : List Byte → Bool} {waits : List Byte → State → Bool}
    {owner : List Byte → State → State} {body : List Byte} {s : State} {a : Answer} (h : Ready s) (hp : PollsShort s)
    (hf : fits body = true) (hw : waits body (taken body s) = false)
    (ho : owner body (taken body s) = putAnswer a (taken body s)) :
    request code fits waits owner body s = .next { s with link := answered s body a } := by
  rw [request_worked h hf hw, ho]
  have hs : PollsShort (putAnswer a (taken body s)) := hp
  rw [shortenPolls_eq hs]
  rfl

end Sys2Proof.Machine
end

