-- ==== Sys2Proof/Tests/Slice0.lean ====
section
/-! SUPPORT. Tests of the model: the manual's worked values, the checks of WellFormed, one step here and there, and a
witness for the hypotheses of every statement that has some. -/

namespace Sys2Proof.Tests

open Sys2Proof Sys2Proof.Machine

set_option Elab.async false

/-! ## Small states -/

/-- The reset state with the settings load ended. -/
def base : State := { State.reset with inReset := false }

/-- A cut of two reels' worth of video, frames 100 to 200. -/
def event1 : Event :=
  { key := 1, tracks := 1, recIn := 100, recOut := 200, toSrc := ⟨1, 500⟩, transition := .cut, rate := none,
    triggers := [], status := .new, previewed := false }

/-- A dissolve that follows it, from reel 1 to reel 2. -/
def event2 : Event :=
  { key := 2, tracks := 1, recIn := 200, recOut := 300, toSrc := ⟨2, 700⟩, transition := .dissolve ⟨1, 600⟩ 10,
    rate := none, triggers := [], status := .new, previewed := false }

/-- A list of two events whose reels are mounted on ports 2 and 3. -/
def listed : State :=
  { base with
    list := { events := [event1, event2], keyCounter := 3, ripple := none }
    reels := (base.reels.set 0 (some ⟨[65], some .p2⟩)).set 1 (some ⟨[66], some .p3⟩) }

/-- The same with a ripple in flight over both events. -/
def rippling : State := { listed with list := { listed.list with ripple := some ⟨50, [1, 2], 0, []⟩ } }

/-- A deck that stands ready: remote, threaded, servo locked. -/
def standing : Condition := ⟨.halted, true, true, false, true, 0⟩

/-- The listed state with every deck answering and the reference present. -/
def up : State :=
  { listed with
    ref := { listed.ref with state := .present, lastAccepted := some 0 }
    ports := .const { DeckPort.initial with line := .online, misses := 0 }
    transports := .const { Transport.initial with state := .idle, condition := some standing } }

/-- The bare state with the reference present. -/
def locked : State := { base with ref := { base.ref with state := .present, lastAccepted := some 0 } }

/-- The ready state with every position fresh. -/
def following : State := { up with trackers := .const { Tracker.initial with known := true, age := 0 } }

/-- A state with an edit of event 1 in a phase and a mode. -/
def editing (ph : Phase) (m : Mode) (d : DeckSet) : State :=
  { up with
    holders := up.holders.mapAll (fun p h => if p ∈ deckPorts d then .sequencer else h)
    seq := { Sequencer.idle with phase := ph, mode := some m, heldKey := some 1, copy := some event1, decks := some d } }

/-- A state with a STATUS in flight on a port. -/
def asked (p : Port) (s : State) : State := s.setPort p { s.port p with exchange := some ⟨.status, 0⟩ }

/-- A state with the deck of port 2 CUEING. -/
def cueingTo (q : Cue) (s : State) : State :=
  s.setTransport .p2 { s.transport .p2 with state := .cueing, cue := some q }

/-- The ready state with every deck held by CONSOLE. -/
def held : State := { up with holders := .const .console }

/-- An edit whose player is LOCKED to the recorder. -/
def synchronous (s : State) : State :=
  s.setChase .p2 (some { manualChase .f30D .p1 0 with kind := .sequencer, state := .locked })

/-- The recorder on port 1 at a frame. -/
def recorderAt (n : Nat) (s : State) : State := s.setTracker .p1 { s.tracker .p1 with position := 64 * n, age := 0 }

/-- A deck on port 2 that chases port 3 by hand, the master's deck in a state with a mode and a speed. -/
def chasing (c : Chase) (m : TransportState) (mode : DeckMode) (v : Int) : State :=
  let s := { held with trackers := following.trackers, chases := held.chases.set .p2 (some c) }
  s.setTransport .p3 { s.transport .p3 with state := m, speed := v, condition := some { standing with mode := mode } }

/-! ## The hypotheses of the statements can be met -/

/-- States and operands that meet the hypotheses of LabelsBecomeFrameNumbersByR6, clause by clause. -/
theorem witness_LabelsBecomeFrameNumbersByR6 :
  (∃ (l : Label),
    l.inRange .f25 = true) ∧
  (∃ (l : Label),
    l.inRange .f30N = true) ∧
  (∃ (l : Label),
    l.inRange .f30D = true ∧
    l.leftOut .f30D = false) :=
  ⟨⟨⟨23, 59, 59, 24⟩, by decide +kernel⟩,
   ⟨⟨23, 59, 59, 29⟩, by decide +kernel⟩,
   ⟨⟨23, 59, 59, 29⟩, by decide +kernel⟩⟩

/-- States and operands that meet the hypotheses of LabelsAndFrameNumbersAreInverse, clause by clause. -/
theorem witness_LabelsAndFrameNumbersAreInverse :
  (∃ (std : FrameStd) (n : Nat),
    std ≠ .f30D ∧
    n ≤ fday std) ∧
  (∃ (n : Nat) (m : Nat),
    n ≤ 2589408 ∧
    m = (if 2 ≤ n % 17982 then n + 18 * (n / 17982) + 2 * ((n % 17982 - 2) / 1798) else n + 18 * (n / 17982))) ∧
  (∃ (std : FrameStd) (n : Nat),
    n ≤ fday std) ∧
  (∃ (std : FrameStd) (l : Label),
    l.inRange std = true ∧
    l.leftOut std = false) :=
  ⟨⟨.f25, 2160000, by decide +kernel⟩,
   ⟨2589408, 2592000, by decide +kernel⟩,
   ⟨.f30D, 2589408, by decide +kernel⟩,
   ⟨.f30D, ⟨0, 1, 0, 2⟩, by decide +kernel⟩⟩

/-- States and operands that meet the hypotheses of ConsoleLabelsAndDifferencesOnTheDay, clause by clause. -/
theorem witness_ConsoleLabelsAndDifferencesOnTheDay :
  (∃ (std : FrameStd) (l : Label) (n : Nat) (moved : Bool),
    readLabel std false l = some (n, moved)) ∧
  (∃ (_std : FrameStd) (l : Label),
    l ≠ ⟨24, 0, 0, 0⟩) ∧
  (∃ (std : FrameStd) (a : Nat) (b : Nat),
    a < dayLength std ∧
    b < dayLength std) ∧
  (∃ (std : FrameStd) (a : Nat) (_d : Int),
    a < dayLength std) :=
  ⟨⟨.f30D, ⟨0, 1, 0, 0⟩, 1800, true, by decide +kernel⟩,
   ⟨.f25, ⟨24, 0, 0, 1⟩, by decide +kernel⟩,
   ⟨.f30D, 165722111, 0, by decide +kernel⟩,
   ⟨.f25, 0, -1, by decide +kernel⟩⟩

/-- States and operands that meet the hypotheses of FieldPulsesWhilePresent, clause by clause. -/
theorem witness_FieldPulsesWhilePresent :
  (∃ (s : State) (a : Nat) (time : Nat) (_field1 : Bool) (_stopFirst : Bool),
    s.inReset = false ∧
    PollsShort s ∧
    s.ref.state = .present ∧
    s.ref.lastAccepted = some a ∧
    20 * time < 20 * a + 19 * period s.std) ∧
  (∃ (s : State) (a : Nat) (time : Nat) (_field1 : Bool) (_stopFirst : Bool),
    s.inReset = false ∧
    s.ref.state = .present ∧
    s.ref.lastAccepted = some a ∧
    20 * a + 19 * period s.std ≤ 20 * time ∧
    time < a + 2 * period s.std) ∧
  (∃ (s : State) (a : Nat) (time : Nat) (u : State),
    s.inReset = false ∧
    s.ref.state = .present ∧
    s.ref.lastAccepted = some a ∧
    20 * a + 19 * period s.std ≤ 20 * time ∧
    time < a + 2 * period s.std ∧
    u = gpiField (mixField (indexField { s with ref := { s.ref with lastAccepted := some time, parity := .field1 } }))) :=
  ⟨⟨locked, 0, 19018, true, false, by unfold PollsShort; decide +kernel⟩,
   ⟨locked, 0, 19019, true, false, by decide +kernel⟩,
   ⟨locked, 0, 19019,
     gpiField (mixField (indexField { locked with ref := { locked.ref with lastAccepted := some 19019, parity := .field1 } })),
     by decide +kernel⟩⟩

/-- States and operands that meet the hypotheses of TheLostReferenceIsMeasuredAndRestored, clause by clause. -/
theorem witness_TheLostReferenceIsMeasuredAndRestored :
  (∃ (s : State) (time : Nat) (_field1 : Bool) (_stopFirst : Bool) (run : Nat),
    s.inReset = false ∧
    PollsShort s ∧
    s.ref.state = .lost ∧
    run = (if s.ref.lastSeen.any (fun u => 20 * u + 19 * period s.std ≤ 20 * time ∧ 20 * time ≤ 20 * u + 21 * period s.std)
      then min 8 (s.ref.goodRun + 1) else 0)) ∧
  (∃ (s : State),
    s.inReset = false ∧
    PollsShort s ∧
    s.ref.state = .lost) ∧
  (∃ (s : State) (u : Nat),
    s.inReset = false ∧
    PollsShort s ∧
    s.ref.state = .lost ∧
    s.ref.goodRun = 8 ∧
    s.ref.lastSeen = some u) ∧
  (∃ (s : State),
    PollsShort s ∧
    s.ref.state = .present) :=
  ⟨⟨{ base with ref := { base.ref with goodRun := 7, lastSeen := some 0 } }, 21021, true, false, 8,
     by unfold PollsShort; decide +kernel⟩,
   ⟨base, by unfold PollsShort; decide +kernel⟩,
   ⟨{ base with ref := { base.ref with goodRun := 8, lastSeen := some 5 } }, 5,
     by unfold PollsShort; decide +kernel⟩,
   ⟨locked, by unfold PollsShort; decide +kernel⟩⟩

/-- States and operands that meet the hypotheses of LossTimerAndInternalTimebase, clause by clause. -/
theorem witness_LossTimerAndInternalTimebase :
  (∃ (s : State) (a : Nat) (_lossFirst : Bool) (_stopFirst : Bool),
    s.inReset = false ∧
    s.ref.state = .present ∧
    s.ref.lastAccepted = some a) ∧
  (∃ (s : State) (_stopFirst : Bool),
    s.inReset = false ∧
    s.ref.state = .lost) ∧
  (∃ (s : State) (_lossFirst : Bool) (_stopFirst : Bool),
    PollsShort s) ∧
  (∃ (s : State) (a : Nat) (lossFirst : Bool) (_stopFirst : Bool) (x : Edit),
    s.inReset = false ∧
    s.ref.state = .present ∧
    s.ref.lastAccepted = some a ∧
    liveEdit s = some x ∧
    (lossFirst = true ∨ s.ref.parity = .field1) ∧
    recordMode x.mode = true ∧
    s.seq.phase ≠ .postroll) ∧
  (∃ (s : State) (a : Nat) (lossFirst : Bool) (_stopFirst : Bool) (x : Edit) (u : State),
    s.inReset = false ∧
    s.ref.state = .present ∧
    s.ref.lastAccepted = some a ∧
    liveEdit s = some x ∧
    (lossFirst = true ∨ s.ref.parity = .field1) ∧
    (recordMode x.mode = false ∨ s.seq.phase = .postroll) ∧
    u = { s with ref := { s.ref with
          state := .lost, goodRun := 0, lastSeen := none, lastField := a + 2 * period s.std } }) ∧
  (∃ (s : State) (a : Nat) (stopFirst : Bool) (u : State),
    s.inReset = false ∧
    s.ref.state = .present ∧
    s.ref.lastAccepted = some a ∧
    s.ref.parity = .field2 ∧
    u = raise (.reference false) (fieldEvent .field1 stopFirst
      { s with ref := { s.ref with
          state := .lost, goodRun := 0, lastSeen := none, lastField := a + 2 * period s.std } })) :=
  ⟨⟨locked, 0, true, false, by decide +kernel⟩,
   ⟨base, true, by decide +kernel⟩,
   ⟨locked, true, true, by unfold PollsShort; decide +kernel⟩,
   ⟨(editing .edit .perform ⟨.p1, some .p2, none⟩), 0, true, false, ⟨.perform, event1, ⟨.p1, some .p2, none⟩⟩,
     by decide +kernel⟩,
   ⟨(editing .edit .preview ⟨.p1, some .p2, none⟩), 0, true, false, ⟨.preview, event1, ⟨.p1, some .p2, none⟩⟩,
     { (editing .edit .preview ⟨.p1, some .p2, none⟩) with ref := { (editing .edit .preview ⟨.p1, some .p2, none⟩).ref with state := .lost, goodRun := 0, lastSeen := none, lastField := 0 + 2 * period (editing .edit .preview ⟨.p1, some .p2, none⟩).std } },
     by decide +kernel⟩,
   ⟨up, 0, false,
     raise (.reference false) (fieldEvent .field1 false { up with ref := { up.ref with state := .lost, goodRun := 0, lastSeen := none, lastField := 0 + 2 * period up.std } }),
     by decide +kernel⟩⟩

/-- States and operands that meet the hypotheses of TransfersThatSelectFetchOrReachNoOwner, clause by clause. -/
theorem witness_TransfersThatSelectFetchOrReachNoOwner :
  (∃ (s : State) (_n : Nat) (a : Answer),
    s.inReset = false ∧
    (transferByte s).ready = true ∧
    s.link.answer = some a) ∧
  (∃ (s : State) (_n : Nat),
    (transferByte s).ready = false) ∧
  (∃ (s : State) (c : Instr) (k : Byte),
    requestCode c = some k ∧
    (s.inReset = true ∨ (transferByte s).working = true)) ∧
  (∃ (s : State) (_code : Byte) (_body : List Byte),
    Ready s) ∧
  (∃ (s : State) (c : Instr) (k : Byte) (n : Nat),
    Ready s ∧
    requestCode c = some k ∧
    bodyLength c = some n ∧
    (requestBody c).length ≠ n) :=
  ⟨⟨{ base with link := { base.link with answer := some (say 0x04 .done [0]) } }, 1, say 0x04 .done [0],
     by decide +kernel⟩,
   ⟨base, 1, by decide +kernel⟩,
   ⟨State.reset, .listStatus [], 0x04, by decide +kernel⟩,
   ⟨base, 0x2D, [], by unfold Ready; decide +kernel⟩,
   ⟨base, .listStatus [0], 0x04, 0, by unfold Ready; decide +kernel⟩⟩

/-- States and operands that meet the hypotheses of TakeNoticeRemovesTheFirstInOrder, clause by clause. -/
theorem witness_TakeNoticeRemovesTheFirstInOrder :
  (∃ (s : State),
    Ready s ∧
    PollsShort s ∧
    s.notices = []) ∧
  (∃ (s : State) (n : Notice) (rest : List Notice),
    Ready s ∧
    PollsShort s ∧
    s.notices = n :: rest ∧
    NoticesOrdered s) :=
  ⟨⟨base, by unfold Ready PollsShort; decide +kernel⟩,
   ⟨{ base with notices := [.rippleEnd, .reference true] }, .rippleEnd, [.reference true],
     by unfold Ready PollsShort NoticesOrdered; decide +kernel⟩⟩

/-- States and operands that meet the hypotheses of ConsoleResetDoesEachBlocksPart, clause by clause. -/
theorem witness_ConsoleResetDoesEachBlocksPart :
  (∃ (s : State),
    Ready s ∧
    SequencerWhole s ∧
    TransportsAgree s ∧
    s.list.ripple = none) ∧
  (∃ (s : State),
    Ready s ∧
    SequencerWhole s ∧
    TransportsAgree s ∧
    s.list.ripple = none ∧
    s.seq.phase = .idle) ∧
  (∃ (s : State),
    Ready s ∧
    s.list.ripple ≠ none) ∧
  (∃ (s : State) (r : Ripple) (_first : Bool),
    s.inReset = false ∧
    PollsShort s ∧
    s.list.ripple = some r ∧
    s.link.waiting = some { code := 0x27, body := [] } ∧
    s.seq.handed = none ∧
    r.frontier + 16 < r.members.length) ∧
  (∃ (s : State) (r : Ripple) (_first : Bool) (run : Run) (n : RunEnd),
    s.inReset = false ∧
    PollsShort s ∧
    s.list.ripple = some r ∧
    r.members.Nodup ∧
    (s.list.events.map Event.key).Nodup ∧
    s.link.waiting = some { code := 0x27, body := [] } ∧
    s.seq.run = some run ∧
    some n = (match s.seq.handed, s.seq.outcome, s.seq.copy with
      | some (.final _), some o, some e =>
        some (runReport (.fault .abort) (some e.key) (finishEvent o.written e.recIn e.key run))
      | some (.skip k recIn c), _, _ =>
        some (runReport (.fault .abort) (some k) (finishEvent (some (.skipped c)) recIn k run))
      | _, _, _ => none) ∧
    r.frontier + 16 < r.members.length) ∧
  (∃ (s : State) (r : Ripple) (_first : Bool),
    s.inReset = false ∧
    PollsShort s ∧
    SequencerWhole s ∧
    s.list.ripple = some r ∧
    s.link.waiting = some { code := 0x27, body := [] } ∧
    r.members.length ≤ r.frontier + 16) :=
  ⟨⟨up, by unfold Ready SequencerWhole TransportsAgree editDecks TransportAgrees; decide +kernel⟩,
   ⟨up, by unfold Ready SequencerWhole TransportsAgree editDecks TransportAgrees; decide +kernel⟩,
   ⟨rippling, by unfold Ready; decide +kernel⟩,
   ⟨{ up with list := { listed.list with ripple := some ⟨50, List.range 17, 0, []⟩ }, link := { listed.link with working := true, waiting := some ⟨0x27, []⟩ } },
     ⟨50, List.range 17, 0, []⟩, true, by unfold PollsShort; decide +kernel⟩,
   ⟨{ ({ editing .postroll .run ⟨.p1, some .p2, none⟩ with seq := { (editing .postroll .run ⟨.p1, some .p2, none⟩).seq with closing := true, outcome := some { key := 1, mode := .run, outcome := .complete, phase := .postroll, early := none, slip := false, written := some .done }, handed := some (.final { key := 1, status := some .done, previewed := false }), run := some { start := 0, stop := 1000, faultMode := .stop, redo := false, lastPair := none, done := 0, failed := 0, skipped := 0 } } }) with list := { listed.list with ripple := some ⟨50, List.range 17, 0, []⟩ }, link := { listed.link with working := true, waiting := some ⟨0x27, []⟩ } },
     ⟨50, List.range 17, 0, []⟩, false,
     { start := 0, stop := 1000, faultMode := .stop, redo := false, lastPair := none, done := 0, failed := 0, skipped := 0 },
     { reason := .fault .abort, key := some 1, done := 1, failed := 0, skipped := 0, start := 0, stop := 1000, faultMode := .stop, redo := false },
     by unfold PollsShort; decide +kernel⟩,
   ⟨{ ({ editing .postroll .perform ⟨.p1, some .p2, none⟩ with seq := { (editing .postroll .perform ⟨.p1, some .p2, none⟩).seq with closing := true, outcome := some { key := 1, mode := .perform, outcome := .complete, phase := .postroll, early := none, slip := false, written := some .done }, handed := some (.final { key := 1, status := some .done, previewed := false }) } }) with list := { listed.list with ripple := some ⟨50, [1, 2], 0, []⟩ }, link := { listed.link with working := true, waiting := some ⟨0x27, []⟩ } },
     ⟨50, [1, 2], 0, []⟩, true, by unfold PollsShort SequencerWhole editDecks; decide +kernel⟩⟩

/-- States and operands that meet the hypotheses of SetSystemClampsAndTakesTheBlock, clause by clause. -/
theorem witness_SetSystemClampsAndTakesTheBlock :
  (∃ (s : State) (body : List Byte) (std : FrameStd) (start : Nat) (moved : Bool) (b : SystemBlock),
    Ready s ∧
    PollsShort s ∧
    body.length = 12 ∧
    stdOf (byteAt body 0) = some std ∧
    readLabel std false (labelAt body 3) = some (start, moved) ∧
    byteAt body 11 < 64 ∧
    recorderCount (byteAt body 11) ≤ 1 ∧
    b = ({
      std := std, preroll := max 1 (min 15 (byteAt body 1)), postroll := min 10 (byteAt body 2)
      windowStart := start, windowLength := min (fday std - start) (max 1 (long body 7))
      recorder := allPorts.find? (fun p => (byteAt body 11).testBit (portNum p - 1)) } : SystemBlock) ∧
    (std = s.std ∨ (s.list.events = [] ∧ s.seq.phase = .idle)) ∧
    (b.recorder = s.recorder ∨ s.seq.phase = .idle) ∧
    (b.recorder = s.recorder ∨ ((∀ p ∈ s.recorder, s.holder p = .free) ∧ ∀ p ∈ b.recorder, s.holder p = .free ∧ reelOn s p = none))) :=
  ⟨base, [2, 5, 2, 0, 0, 0, 0, 0, 39, 130, 224, 1], .f30D, 0, false,
     ({ std := .f30D, preroll := 5, postroll := 2, windowStart := 0, windowLength := 2589408, recorder := some .p1 } : SystemBlock),
     by unfold Ready PollsShort; decide +kernel⟩

/-- States and operands that meet the hypotheses of SetProfileAndSetGpiTakeTheirValues, clause by clause. -/
theorem witness_SetProfileAndSetGpiTakeTheirValues :
  (∃ (s : State) (body : List Byte) (p : Port) (f : Profile),
    Ready s ∧
    PollsShort s ∧
    body.length = 23 ∧
    portOf (byteAt body 0) = some p ∧
    f = ({
      plausibility := max 1 (min 15 (byteAt body 1))
      settle := max 0 (min 15 (byteAt body 2)), gain := max 1 (min 255 (byteAt body 3))
      varispeed := max 0 (min 256 (half body 4))
      lockWindow := max 0 (min 32 (byteAt body 6))
      lockCount := max 1 (min 63 (byteAt body 7))
      unlockWindow := max (min 32 (byteAt body 6)) (max 16 (min 255 (byteAt body 8)))
      captureWindow := max 1 (min 60 (byteAt body 9))
      rollLead := max 0 (min 30 (byteAt body 10))
      cueTolerance := max 0 (min 5 (byteAt body 11))
      cueAttempts := max 1 (min 8 (byteAt body 12))
      cueTime := max 10 (min 255 (byteAt body 13))
      standbyDelay := max 0 (min 60 (byteAt body 14))
      wakeSettle := max 0 (min 255 (byteAt body 15))
      engageLead := max 0 (min 7 (byteAt body 16))
      releaseLead := max 0 (min 7 (byteAt body 17))
      motionMin := max 256 (min 1024 (half body 18))
      motionMax := max 1024 (min 2048 (half body 20)) } : Profile)) ∧
  (∃ (s : State) (body : List Byte) (l : Line),
    Ready s ∧
    PollsShort s ∧
    body.length = 2 ∧
    lineOf (byteAt body 0) = some l ∧
    byteAt body 1 < 64) ∧
  (∃ (s : State) (body : List Byte),
    Ready s ∧
    PollsShort s ∧
    body.length = 2 ∧
    (lineOf (byteAt body 0) = none ∨ 64 ≤ byteAt body 1)) ∧
  (∃ (s : State) (body : List Byte),
    Ready s ∧
    PollsShort s ∧
    body.length = 23 ∧
    portOf (byteAt body 0) = none) :=
  ⟨⟨base, 1 :: bProfile .defaults, .p1, .defaults, by unfold Ready PollsShort; decide +kernel⟩,
   ⟨base, [8, 63], .l8, by unfold Ready PollsShort; decide +kernel⟩,
   ⟨base, [9, 0], by unfold Ready PollsShort; decide +kernel⟩,
   ⟨base, 7 :: bProfile .defaults, by unfold Ready PollsShort; decide +kernel⟩⟩

/-- States and operands that meet the hypotheses of StoresAndTheSettingsLoadEndWithANotice, clause by clause. -/
theorem witness_StoresAndTheSettingsLoadEndWithANotice :
  (∃ (s : State),
    Ready s ∧
    PollsShort s ∧
    s.snapshot = none) ∧
  (∃ (s : State),
    Ready s ∧
    PollsShort s ∧
    s.snapshot ≠ none) ∧
  (∃ (s : State) (x : Settings),
    s.inReset = false ∧
    PollsShort s ∧
    s.snapshot = some x) ∧
  (∃ (s : State) (x : Settings) (_stop : StoreStop),
    s.inReset = false ∧
    PollsShort s ∧
    s.snapshot = some x) ∧
  (∃ (s : State) (_stop : Option StoreStop),
    PollsShort s ∧
    s.snapshot = none) ∧
  (∃ (s : State) (read : Option (List Byte)) (_time : Nat),
    s.inReset = true ∧
    (∀ image ∈ read, image.length = 154 ∧ ¬(image[0]? = some 0x5C ∧ image[1]? = some 1))) ∧
  (∃ (s : State) (image : List Byte) (_time : Nat),
    s.inReset = true ∧
    image.length = 154 ∧
    image[0]? = some 0x5C ∧
    image[1]? = some 1) ∧
  (∃ (s : State) (_read : Option (List Byte)) (_time : Nat),
    s.inReset = false) :=
  ⟨⟨base, by unfold Ready PollsShort; decide +kernel⟩,
   ⟨{ base with snapshot := some .defaults }, by unfold Ready PollsShort; decide +kernel⟩,
   ⟨{ base with snapshot := some .defaults }, .defaults, by unfold PollsShort; decide +kernel⟩,
   ⟨{ base with snapshot := some .defaults }, .defaults, .body 152, by unfold PollsShort; decide +kernel⟩,
   ⟨base, none, by unfold PollsShort; decide +kernel⟩,
   ⟨State.reset, some (0x5C :: 2 :: List.replicate 152 0), 0, by decide +kernel⟩,
   ⟨State.reset, 0x5C :: imageBody .defaults, 0, by decide +kernel⟩,
   ⟨base, none, 0, by decide +kernel⟩⟩

/-- States and operands that meet the hypotheses of LookupsAnswerAndListRequestsWaitForAChunk, clause by clause. -/
theorem witness_LookupsAnswerAndListRequestsWaitForAChunk :
  (∃ (s : State) (body : List Byte) (e : Event),
    Ready s ∧
    PollsShort s ∧
    s.list.ripple = none ∧
    body.length = 2 ∧
    1 ≤ half body 0 ∧
    s.list.events[half body 0 - 1]? = some e) ∧
  (∃ (s : State) (body : List Byte),
    Ready s ∧
    PollsShort s ∧
    s.list.ripple = none ∧
    body.length = 2 ∧
    (half body 0 = 0 ∨ s.list.events.length < half body 0)) ∧
  (∃ (s : State) (body : List Byte) (i : Nat) (e : Event),
    Ready s ∧
    PollsShort s ∧
    s.list.ripple = none ∧
    body.length = 2 ∧
    (s.list.events.map Event.key).Nodup ∧
    s.list.events[i]? = some e ∧
    e.key = half body 0) ∧
  (∃ (s : State) (body : List Byte),
    Ready s ∧
    PollsShort s ∧
    s.list.ripple = none ∧
    body.length = 2 ∧
    (∀ e ∈ s.list.events, e.key ≠ half body 0)) ∧
  (∃ (s : State) (body : List Byte) (f : Nat) (moved : Bool) (k : TrackSet) (i : Nat) (e : Event),
    Ready s ∧
    PollsShort s ∧
    s.list.ripple = none ∧
    body.length = 5 ∧
    (s.list.events.map Event.key).Nodup ∧
    readLabel s.std false (labelAt body 0) = some (f, moved) ∧
    trackSetOf (byteAt body 4) = some k ∧
    s.list.events[i]? = some e ∧
    e.recIn ≤ f ∧ f < e.recOut ∧ e.tracks &&& k ≠ 0 ∧
    (∀ x ∈ s.list.events.take i, ¬(x.recIn ≤ f ∧ f < x.recOut ∧ x.tracks &&& k ≠ 0))) ∧
  (∃ (s : State) (body : List Byte) (x : Reason),
    Ready s ∧
    PollsShort s ∧
    s.list.ripple = none ∧
    body.length = 5 ∧
    some x = (match readLabel s.std false (labelAt body 0), trackSetOf (byteAt body 4) with
      | none, _ => some .badTime
      | some _, none => some .badField
      | some f, some k => if ∃ e ∈ s.list.events, e.recIn ≤ f.1 ∧ f.1 < e.recOut ∧ e.tracks &&& k ≠ 0 then none else some .notFound)) ∧
  (∃ (s : State) (j : Nat),
    Ready s ∧
    PollsShort s ∧
    s.list.ripple = none ∧
    j < 4095 ∧
    1 ≤ s.list.keyCounter ∧ s.list.keyCounter ≤ 4095 ∧
    (∀ m < j, keyUsed s.list ((s.list.keyCounter - 1 + m) % 4095 + 1) = true) ∧
    keyUsed s.list ((s.list.keyCounter - 1 + j) % 4095 + 1) = false) ∧
  (∃ (s : State) (c : Instr) (k : Byte),
    Ready s ∧
    s.list.ripple ≠ none ∧
    requestCode c = some k ∧
    listRequestFits c = true) ∧
  (∃ (s : State) (i : Nat) (r : Reel),
    Ready s ∧
    s.list.ripple ≠ none ∧
    i < 64 ∧
    s.reels[i]? = some (some r) ∧
    (∀ p ∈ r.mounted, s.holder p ≠ .sequencer)) ∧
  (∃ (s : State) (body : List Byte),
    Ready s ∧
    s.list.ripple ≠ none ∧
    s.seq.phase = .idle ∧
    body.length = 2) :=
  ⟨⟨listed, [0, 2], event2, by unfold Ready PollsShort; decide +kernel⟩,
   ⟨listed, [0, 3], by unfold Ready PollsShort; decide +kernel⟩,
   ⟨listed, [0, 2], 1, event2, by unfold Ready PollsShort; decide +kernel⟩,
   ⟨listed, [0, 0], by unfold Ready PollsShort; decide +kernel⟩,
   ⟨listed, [0, 0, 3, 10, 1], 100, false, 1, 0, event1, by unfold Ready PollsShort; decide +kernel⟩,
   ⟨listed, [24, 0, 0, 0, 1], .badTime, by unfold Ready PollsShort; decide +kernel⟩,
   ⟨{ listed with list := { listed.list with keyCounter := 1 } }, 2, by unfold Ready PollsShort; decide +kernel⟩,
   ⟨rippling, .listStatus [], 0x04, by unfold Ready; decide +kernel⟩,
   ⟨rippling, 0, ⟨[65], some .p2⟩, by unfold Ready; decide +kernel⟩,
   ⟨rippling, [0, 1], by unfold Ready; decide +kernel⟩⟩

/-- States and operands that meet the hypotheses of InsertAddsOneEventInItsPlace, clause by clause. -/
theorem witness_InsertAddsOneEventInItsPlace :
  (∃ (s : State) (body : List Byte) (moved : Bool) (t : EventTimes) (e : Event) (ms : List Event) (rest : List Event),
    Ready s ∧
    PollsShort s ∧
    s.list.ripple = none ∧
    (s.list.events.map Event.key).Nodup ∧
    recordFits 0 1 body = true ∧
    ms = (if flagAt body (eventLength body 0) then s.list.events.filter (fun f => t.recIn ≤ f.recIn) else []) ∧
    rest = (if flagAt body (eventLength body 0) then s.list.events.filter (fun f => f.recIn < t.recIn) else s.list.events) ∧
    Accepted s (rawEventAt body 0) moved t e (rest ++ ms.map (shiftEvent ((t.recOut : Int) - t.recIn))) ∧
    ShiftAllowed s.std ((t.recOut : Int) - t.recIn) ms rest ∧
    (∀ k ∈ s.seq.heldKey, ∀ f ∈ ms, f.key ≠ k) ∧
    s.list.events.length < 511 ∧
    1 ≤ s.list.keyCounter ∧ s.list.keyCounter ≤ 4095) :=
  ⟨listed, (bEvent .f30D { event1 with recIn := 400, recOut := 450 }) ++ [1], false, ⟨400, 450, 500, 0⟩,
     { event1 with key := 0, recIn := 400, recOut := 450 }, [], [event1, event2],
     by unfold Ready PollsShort Accepted ShiftAllowed; decide +kernel⟩

/-- States and operands that meet the hypotheses of ReplaceAndTrimChangeOneEvent, clause by clause. -/
theorem witness_ReplaceAndTrimChangeOneEvent :
  (∃ (s : State) (body : List Byte) (moved : Bool) (t : EventTimes) (e : Event) (rest : List Event),
    Ready s ∧
    PollsShort s ∧
    s.list.ripple = none ∧
    (s.list.events.map Event.key).Nodup ∧
    recordFits 2 0 body = true ∧
    rest = s.list.events.filter (fun f => f.key ≠ half body 0) ∧
    keyUsed s.list (half body 0) = true ∧
    s.seq.heldKey ≠ some (half body 0) ∧
    Accepted s (rawEventAt body 2) moved t e rest) ∧
  (∃ (s : State) (body : List Byte) (e : Event) (e1 : Event) (rest : List Event),
    Ready s ∧
    PollsShort s ∧
    s.list.ripple = none ∧
    (s.list.events.map Event.key).Nodup ∧
    body.length = 7 ∧
    rest = s.list.events.filter (fun f => f.key ≠ half body 0) ∧
    findKey s.list (half body 0) = some e ∧
    s.seq.heldKey ≠ some (half body 0) ∧
    byteAt body 2 ≤ 3 ∧ -2591999 ≤ signedLong body 3 ∧ signedLong body 3 ≤ 2591999 ∧
    (byteAt body 2 = 3 → (fromSource e).isSome) ∧
    0 ≤ (trimRange (byteAt body 2) (signedLong body 3) e).1 ∧
      (trimRange (byteAt body 2) (signedLong body 3) e).1 < (trimRange (byteAt body 2) (signedLong body 3) e).2 ∧
      (trimRange (byteAt body 2) (signedLong body 3) e).2 ≤ fday s.std ∧
    e1 = renew (trimEvent s.std (byteAt body 2) (signedLong body 3) e) ∧
    (∀ d ∈ durationOf e1, d ≤ e1.recOut - e1.recIn) ∧
    (∀ f ∈ rest, conflicts e1 f = false)) ∧
  (∃ (_std : FrameStd) (point : Nat) (_d : Int) (_e : Event),
    point ≤ 3) ∧
  (∃ (_std : FrameStd) (point : Nat) (_d : Int) (_e : Event),
    point ≤ 3) :=
  ⟨⟨listed, [0, 1] ++ (bEvent .f30D { event1 with recIn := 400, recOut := 450 }), false, ⟨400, 450, 500, 0⟩,
     { event1 with key := 0, recIn := 400, recOut := 450 }, [event2],
     by unfold Ready PollsShort Accepted; decide +kernel⟩,
   ⟨listed, [0, 1, 0, 0, 0, 0, 5], event1, renew (trimEvent .f30D 0 5 event1), [event2],
     by unfold Ready PollsShort; decide +kernel⟩,
   ⟨.f30D, 3, 0, event1, by decide +kernel⟩,
   ⟨.f30D, 0, -5, event1, by decide +kernel⟩⟩

/-- States and operands that meet the hypotheses of DeleteClearListAndRippleChangeTheList, clause by clause. -/
theorem witness_DeleteClearListAndRippleChangeTheList :
  (∃ (s : State) (body : List Byte),
    Ready s ∧
    PollsShort s ∧
    s.list.ripple = none ∧
    (s.list.events.map Event.key).Nodup ∧
    s.list.events.Pairwise (fun a b => comesBefore a b = true) ∧
    body.length = 3 ∧
    flagAt body 2 = false ∧
    keyUsed s.list (half body 0) = true ∧
    s.seq.heldKey ≠ some (half body 0)) ∧
  (∃ (s : State),
    Ready s ∧
    PollsShort s ∧
    s.list.ripple = none ∧
    s.seq.phase = .idle ∧
    s.seq.heldKey = none) ∧
  (∃ (s : State) (body : List Byte) (ms : List Event) (rest : List Event),
    Ready s ∧
    PollsShort s ∧
    s.list.ripple = none ∧
    (s.list.events.map Event.key).Nodup ∧
    s.list.events.Pairwise (fun a b => comesBefore a b = true) ∧
    body.length = 6 ∧
    1 ≤ half body 0 ∧ half body 0 ≤ s.list.events.length ∧
    ms = s.list.events.drop (half body 0 - 1) ∧
    rest = s.list.events.take (half body 0 - 1) ∧
    -2591999 ≤ signedLong body 2 ∧ signedLong body 2 ≤ 2591999 ∧
    (∀ k ∈ s.seq.heldKey, ∀ f ∈ ms, f.key ≠ k) ∧
    ShiftAllowed s.std (signedLong body 2) ms rest) ∧
  (∃ (s : State) (body : List Byte) (e : Event) (ms : List Event) (rest : List Event),
    Ready s ∧
    PollsShort s ∧
    s.list.ripple = none ∧
    (s.list.events.map Event.key).Nodup ∧
    s.list.events.Pairwise (fun a b => comesBefore a b = true) ∧
    body.length = 3 ∧
    flagAt body 2 = true ∧
    findKey s.list (half body 0) = some e ∧
    s.seq.heldKey ≠ some (half body 0) ∧
    ms = s.list.events.filter (fun f => comesBefore e f) ∧
    rest = s.list.events.filter (fun f => comesBefore f e) ∧
    (∀ k ∈ s.seq.heldKey, ∀ f ∈ ms, f.key ≠ k) ∧
    ShiftAllowed s.std ((e.recIn : Int) - e.recOut) ms rest) :=
  ⟨⟨listed, [0, 1, 0], by unfold Ready PollsShort; decide +kernel⟩,
   ⟨listed, by unfold Ready PollsShort; decide +kernel⟩,
   ⟨listed, [0, 2, 0, 0, 0, 50], [event2], [event1], by unfold Ready PollsShort ShiftAllowed; decide +kernel⟩,
   ⟨listed, [0, 1, 1], event1, [event2], [], by unfold Ready PollsShort ShiftAllowed; decide +kernel⟩⟩

/-- States and operands that meet the hypotheses of RippleChunkEndWorksSixteenMembers, clause by clause. -/
theorem witness_RippleChunkEndWorksSixteenMembers :
  (∃ (s : State) (r : Ripple) (_first : Bool) (chunk : List Nat),
    s.inReset = false ∧
    PollsShort s ∧
    s.list.ripple = some r ∧
    s.link.waiting = none ∧
    s.seq.handed = none ∧
    chunk = (r.members.drop r.frontier).take 16) ∧
  (∃ (s : State) (r : Ripple) (_first : Bool),
    s.inReset = false ∧
    s.list.ripple = some r ∧
    s.link.waiting = none ∧
    s.seq.handed = none ∧
    r.members.Nodup) ∧
  (∃ (s : State) (r : Ripple) (_first : Bool) (body : List Byte) (e : Event),
    s.inReset = false ∧
    s.list.ripple = some r ∧
    s.link.waiting = some { code := 0x01, body := body } ∧
    s.seq.handed = none ∧
    r.members.Nodup ∧
    1 ≤ half body 0 ∧
    (viewEvents s.list)[half body 0 - 1]? = some e) ∧
  (∃ (s : State) (r : Ripple) (_first : Bool) (w : Waiting),
    s.inReset = false ∧
    PollsShort s ∧
    s.list.ripple = some r ∧
    s.link.waiting = some w ∧
    w.code ∈ [0x04, 0x05, 0x06, 0x07, 0x08, 0x09, 0x0A] ∧
    r.frontier + 16 < r.members.length) ∧
  (∃ (s : State) (r : Ripple) (_first : Bool) (h : Handed),
    s.inReset = false ∧
    PollsShort s ∧
    s.list.ripple = some r ∧
    r.members.Nodup ∧
    (s.list.events.map Event.key).Nodup ∧
    s.seq.handed = some h ∧
    (s.link.waiting = none ∨
      ((∃ w ∈ s.link.waiting, w.code = 0x27) ∧ s.seq.run = none ∧ r.frontier + 16 < r.members.length))) ∧
  (∃ (s : State) (r : Ripple) (_first : Bool) (w : Waiting) (c : Instr),
    s.inReset = false ∧
    PollsShort s ∧
    s.list.ripple = some r ∧
    r.members.Nodup ∧
    (s.list.events.map Event.key).Nodup ∧
    s.link.waiting = some w ∧
    requestCode c = some w.code ∧
    requestBody c = w.body ∧
    c.wf = true ∧
    w.code ∈ [0x01, 0x02, 0x03, 0x18, 0x19, 0x1E, 0x1F, 0x20, 0x23] ∧
    (bodyLength c = some w.body.length ∨ (w.code = 0x19 ∧ nameFits w.body 0 = true)) ∧
    (w.code = 0x23 → s.ref.state = .present ∧ s.recorder.isSome)) ∧
  (∃ (s : State) (r : Ripple) (_first : Bool) (w : Waiting) (c : Instr),
    s.inReset = false ∧
    PollsShort s ∧
    s.list.ripple = some r ∧
    s.link.waiting = some w ∧
    requestCode c = some w.code ∧
    requestBody c = w.body ∧
    listRequestFits c = true ∧
    r.members.length ≤ r.frontier + 16) ∧
  (∃ (s : State) (r : Ripple) (_first : Bool) (w : Waiting) (i : Nat) (x : Reel),
    s.inReset = false ∧
    s.list.ripple = some r ∧
    s.link.waiting = some w ∧
    w = { code := 0x15, body := b1 (i + 1) } ∧
    i < 64 ∧
    s.reels[i]? = some (some x)) ∧
  (∃ (s : State) (_first : Bool),
    PollsShort s ∧
    s.list.ripple = none) :=
  ⟨⟨rippling, ⟨50, [1, 2], 0, []⟩, true, [1, 2], by unfold PollsShort; decide +kernel⟩,
   ⟨rippling, ⟨50, [1, 2], 0, []⟩, false, by decide +kernel⟩,
   ⟨{ rippling with link := { rippling.link with working := true, waiting := some ⟨0x01, [0, 1]⟩ } },
     ⟨50, [1, 2], 0, []⟩, true, [0, 1], { event1 with recIn := 150, recOut := 250 }, by decide +kernel⟩,
   ⟨{ rippling with list := { rippling.list with ripple := some ⟨50, List.range 17, 0, []⟩ }, link := { rippling.link with working := true, waiting := some ⟨0x09, []⟩ } },
     ⟨50, List.range 17, 0, []⟩, true, ⟨0x09, []⟩, by unfold PollsShort; decide +kernel⟩,
   ⟨{ { editing .postroll .perform ⟨.p1, some .p2, none⟩ with seq := { (editing .postroll .perform ⟨.p1, some .p2, none⟩).seq with closing := true, outcome := some { key := 1, mode := .perform, outcome := .complete, phase := .postroll, early := none, slip := false, written := some .done }, handed := some (.final { key := 1, status := some .done, previewed := false }) } } with list := rippling.list },
     ⟨50, [1, 2], 0, []⟩, true, .final { key := 1, status := some .done, previewed := false },
     by unfold PollsShort; decide +kernel⟩,
   ⟨{ up with list := { listed.list with ripple := some ⟨50, [1, 2], 0, []⟩ }, link := { listed.link with working := true, waiting := some ⟨0x1E, [0, 1]⟩ } },
     ⟨50, [1, 2], 0, []⟩, true, ⟨0x1E, [0, 1]⟩, .perform [0, 1], by unfold PollsShort; decide +kernel⟩,
   ⟨{ up with list := { listed.list with ripple := some ⟨50, [1, 2], 0, []⟩ }, link := { listed.link with working := true, waiting := some ⟨0x08, [0, 1, 0]⟩ } },
     ⟨50, [1, 2], 0, []⟩, false, ⟨0x08, [0, 1, 0]⟩, .delete [0, 1, 0], by unfold PollsShort; decide +kernel⟩,
   ⟨{ up with list := { listed.list with ripple := some ⟨50, [1, 2], 0, []⟩ }, link := { listed.link with working := true, waiting := some ⟨0x15, [1]⟩ } },
     ⟨50, [1, 2], 0, []⟩, true, ⟨0x15, [1]⟩, 0, ⟨[65], some .p2⟩, by decide +kernel⟩,
   ⟨base, true, by unfold PollsShort; decide +kernel⟩⟩

/-- States and operands that meet the hypotheses of StatusWritesAreTakenByTheirRule, clause by clause. -/
theorem witness_StatusWritesAreTakenByTheirRule :
  (∃ (s : State) (w : StatusWrite) (o : EditEnd) (d : DeckSet),
    s.inReset = false ∧
    PollsShort s ∧
    s.list.ripple = none ∧
    s.seq.handed = some (.final w) ∧
    s.seq.outcome = some o ∧
    s.seq.decks = some d ∧
    s.seq.run = none) ∧
  (∃ (s : State),
    PollsShort s ∧
    s.seq.handed = none) :=
  ⟨⟨{ editing .postroll .perform ⟨.p1, some .p2, none⟩ with seq := { (editing .postroll .perform ⟨.p1, some .p2, none⟩).seq with closing := true, outcome := some { key := 1, mode := .perform, outcome := .complete, phase := .postroll, early := none, slip := false, written := some .done }, handed := some (.final { key := 1, status := some .done, previewed := false }) } },
     { key := 1, status := some .done, previewed := false },
     { key := 1, mode := .perform, outcome := .complete, phase := .postroll, early := none, slip := false, written := some .done },
     ⟨.p1, some .p2, none⟩, by unfold PollsShort; decide +kernel⟩,
   ⟨base, by unfold PollsShort; decide +kernel⟩⟩

/-- States and operands that meet the hypotheses of DefineReelTakesTheLowestFreeEntry, clause by clause. -/
theorem witness_DefineReelTakesTheLowestFreeEntry :
  (∃ (s : State) (name : List Byte) (i : Nat),
    Ready s ∧
    PollsShort s ∧
    nameValid name = true ∧
    (∀ x ∈ s.reels.toList.reduceOption, x.name ≠ name) ∧
    i < 64 ∧
    s.reels[i]? = some none ∧
    (∀ j < i, s.reels[j]? ≠ some none)) ∧
  (∃ (s : State) (name : List Byte) (x : Reason),
    Ready s ∧
    PollsShort s ∧
    name.length < 256 ∧
    some x = (if nameValid name = false then some .badField
      else if ∃ r ∈ s.reels.toList.reduceOption, r.name = name then some .inUse
      else if none ∈ s.reels.toList then none else some .full)) :=
  ⟨⟨listed, [67], 2, by unfold Ready PollsShort; decide +kernel⟩,
   ⟨listed, [65], .inUse, by unfold Ready PollsShort; decide +kernel⟩⟩

/-- States and operands that meet the hypotheses of RenameRetireMountAndUnmountChangeTheTable, clause by clause. -/
theorem witness_RenameRetireMountAndUnmountChangeTheTable :
  (∃ (s : State) (i : Nat) (r : Reel) (name : List Byte),
    Ready s ∧
    PollsShort s ∧
    i < 64 ∧
    s.reels[i]? = some (some r) ∧
    nameValid name = true ∧
    (∀ j ∈ List.range 64, j ≠ i → (s.reels[j]?.join).map Reel.name ≠ some name)) ∧
  (∃ (s : State) (i : Nat) (r : Reel),
    Ready s ∧
    PollsShort s ∧
    s.list.ripple = none ∧
    i < 64 ∧
    s.reels[i]? = some (some r) ∧
    (∀ p ∈ r.mounted, s.holder p ≠ .sequencer) ∧
    (∀ e ∈ s.list.events, e.toSrc.reel ≠ i + 1 ∧ ∀ f ∈ fromSource e, f.reel ≠ i + 1)) ∧
  (∃ (s : State) (i : Nat) (r : Reel),
    Ready s ∧
    PollsShort s ∧
    s.list.ripple = none ∧
    i < 64 ∧
    s.reels[i]? = some (some r) ∧
    (∀ p ∈ r.mounted, s.holder p ≠ .sequencer) ∧
    (∃ e ∈ s.list.events, e.toSrc.reel = i + 1 ∨ ∃ f ∈ fromSource e, f.reel = i + 1)) ∧
  (∃ (s : State) (i : Nat) (r : Reel) (p : Port),
    Ready s ∧
    PollsShort s ∧
    i < 64 ∧
    s.reels[i]? = some (some r) ∧
    s.reels.toList.countP (fun x => x.any (fun y => y.mounted = some p)) ≤ 1 ∧
    s.recorder ≠ some p ∧
    s.holder p ≠ .sequencer ∧
    (∀ q ∈ r.mounted, s.holder q ≠ .sequencer)) ∧
  (∃ (s : State) (p : Port),
    Ready s ∧
    PollsShort s ∧
    s.reels.toList.countP (fun x => x.any (fun y => y.mounted = some p)) ≤ 1 ∧
    s.holder p ≠ .sequencer) ∧
  (∃ (s : State) (i : Nat) (p : Port),
    Ready s ∧
    PollsShort s ∧
    i < 64 ∧
    s.holder p = .sequencer) :=
  ⟨⟨listed, 0, ⟨[65], some .p2⟩, [67], by unfold Ready PollsShort; decide +kernel⟩,
   ⟨{ listed with list := base.list }, 0, ⟨[65], some .p2⟩, by unfold Ready PollsShort; decide +kernel⟩,
   ⟨listed, 1, ⟨[66], some .p3⟩, by unfold Ready PollsShort; decide +kernel⟩,
   ⟨listed, 1, ⟨[66], some .p3⟩, .p2, by unfold Ready PollsShort; decide +kernel⟩,
   ⟨listed, .p2, by unfold Ready PollsShort; decide +kernel⟩,
   ⟨{ listed with holders := .const .sequencer }, 0, .p6, by unfold Ready PollsShort; decide +kernel⟩⟩

/-- States and operands that meet the hypotheses of PollMomentSendsTheOldestCommand, clause by clause. -/
theorem witness_PollMomentSendsTheOldestCommand :
  (∃ (s : State) (p : Port) (c : DeckCmd),
    s.inReset = false ∧
    PollsShort s ∧
    (s.port p).countdown = 0 ∧
    (s.port p).exchange = none ∧
    c = ((s.port p).commands.head?).getD .status) ∧
  (∃ (s : State) (p : Port),
    PollsShort s ∧
    ((s.port p).countdown ≠ 0 ∨ (s.port p).exchange ≠ none)) ∧
  (∃ (c : DeckCmd) (_d : DeckCmd) (a : List DeckCmd) (_b : List DeckCmd),
    ∀ x ∈ a, recordClass x ≠ recordClass c) :=
  ⟨⟨((up).setPort .p2 { (up).port .p2 with countdown := 0, commands := [.halt] }), .p2, .halt,
     by unfold PollsShort; decide +kernel⟩,
   ⟨up, .p2, by unfold PollsShort; decide +kernel⟩,
   ⟨.halt, .wake, [.disengage], [], by decide +kernel⟩⟩

/-- States and operands that meet the hypotheses of RepliesReadBackWhatTheDeckSent, clause by clause. -/
theorem witness_RepliesReadBackWhatTheDeckSent :
  (∃ (std : FrameStd) (_k : CmdKind) (_k2 : CmdKind) (_c : Condition) (pos : Nat),
    pos < dayLength std) ∧
  (∃ (std : FrameStd) (k : CmdKind) (c : Condition) (pos : Nat) (n : Nat) (b : Byte),
    pos < dayLength std ∧
    n < 10 ∧
    ((replyChars std k c pos)[n]?).map LineChar.byte ≠ some b) ∧
  (∃ (_std : FrameStd) (_k : CmdKind) (chars : List LineChar),
    (chars.length < 10 ∨ ∃ ch ∈ chars.take 10, ch.error = true)) :=
  ⟨⟨.f30D, .seek, .status, ⟨.halted, true, true, false, true, 0⟩, 165722111, by decide +kernel⟩,
   ⟨.f30D, .seek, ⟨.halted, true, true, false, true, 0⟩, 165722111, 9, 0, by decide +kernel⟩,
   ⟨.f30D, .seek, [], by decide +kernel⟩⟩

/-- States and operands that meet the hypotheses of MissesReturnCommandsAndTheFourthTakesThePortOffline, clause by clause. -/
theorem witness_MissesReturnCommandsAndTheFourthTakesThePortOffline :
  (∃ (s : State) (p : Port) (x : Exchange) (n : Nat),
    s.inReset = false ∧
    PollsShort s ∧
    (s.port p).exchange = some x ∧
    n = min 4 ((s.port p).misses + 1) ∧
    (n < 4 ∨ (s.port p).line = .offline) ∧
    (s.holder p = .free ∨ (x.cmd ≠ .release ∧ DeckCmd.release ∉ (s.port p).commands))) ∧
  (∃ (s : State) (p : Port) (x : Exchange),
    s.inReset = false ∧
    (s.port p).exchange = some x ∧
    (s.port p).line = .online ∧
    (s.port p).misses < 3 ∧
    s.holder p ≠ .free ∧
    x.cmd = .release ∧
    (∀ d ∈ (s.port p).commands, recordClass d = true)) ∧
  (∃ (s : State) (p : Port) (x : Exchange),
    s.inReset = false ∧
    PollsShort s ∧
    (s.port p).exchange = some x ∧
    (s.port p).misses = 3 ∧
    (s.port p).line ≠ .offline ∧
    s.holder p ≠ .sequencer) ∧
  (∃ (s : State) (p : Port),
    s.inReset = false ∧
    PollsShort s ∧
    (s.port p).misses = 4 ∧
    (s.port p).line ≠ .offline ∧
    s.holder p ≠ .sequencer) ∧
  (∃ (s : State) (p : Port),
    PollsShort s ∧
    (s.port p).exchange = none) ∧
  (∃ (s : State) (p : Port),
    PollsShort s ∧
    ((s.port p).misses < 4 ∨ (s.port p).line = .offline)) ∧
  (∃ (s : State) (p : Port) (x : Exchange) (chars : List LineChar),
    (s.port p).exchange = some x ∧
    readReply s.std (cmdKind x.cmd) chars = none) :=
  ⟨⟨((up).setPort .p2 { (up).port .p2 with exchange := some ⟨.halt, 0⟩, misses := 2 }), .p2, ⟨.halt, 0⟩, 3,
     by unfold PollsShort; decide +kernel⟩,
   ⟨(({ up with holders := .const .console }).setPort .p2 { ({ up with holders := .const .console }).port .p2 with exchange := some ⟨.release, 0⟩ }),
     .p2, ⟨.release, 0⟩, by decide +kernel⟩,
   ⟨((up).setPort .p2 { (up).port .p2 with exchange := some ⟨.halt, 0⟩, misses := 3 }), .p2, ⟨.halt, 0⟩,
     by unfold PollsShort; decide +kernel⟩,
   ⟨((up).setPort .p2 { (up).port .p2 with misses := 4 }), .p2, by unfold PollsShort; decide +kernel⟩,
   ⟨up, .p2, by unfold PollsShort; decide +kernel⟩,
   ⟨up, .p2, by unfold PollsShort; decide +kernel⟩,
   ⟨(asked .p2 up), .p2, ⟨.status, 0⟩, [], by decide +kernel⟩⟩

/-- States and operands that meet the hypotheses of GoodRepliesAreTakenByEveryBlock, clause by clause. -/
theorem witness_GoodRepliesAreTakenByEveryBlock :
  (∃ (s : State) (p : Port) (x : Exchange) (c : Condition) (pos : Nat) (chars : List LineChar),
    s.inReset = false ∧
    PollsShort s ∧
    (s.port p).exchange = some x ∧
    readReply s.std (cmdKind x.cmd) chars = some (c, pos) ∧
    s.holder p ≠ .sequencer ∧
    (s.port p).line = .online ∧
    c.remote = true ∧
    c.mode ≠ .noTape ∧ c.mode ≠ .standby ∧
    (s.transport p).state ∈ [.idle, .parked, .rolling, .winding] ∧
    (∀ o ∈ (s.transport p).condition, o.threaded = c.threaded ∧ o.inhibit = c.inhibit) ∧
    (c.tracks = 0 ∨ (s.port p).permission = true) ∧
    (sampleTested (s.tracker p) (s.transport p) = false ∨ (posDiff s.std pos (s.tracker p).position).natAbs ≤ (s.profile p).plausibility * 64)) ∧
  (∃ (s : State) (p : Port) (x : Exchange) (c : Condition) (pos : Nat) (chars : List LineChar),
    s.inReset = false ∧
    PollsShort s ∧
    (s.port p).exchange = some x ∧
    readReply s.std (cmdKind x.cmd) chars = some (c, pos) ∧
    s.holder p ≠ .sequencer ∧
    (s.port p).line = .online ∧
    c.remote = true ∧
    c.mode ≠ .noTape ∧
    c.tracks ≠ 0 ∧
    (s.port p).permission = false ∧
    (s.transport p).state ∈ [.idle, .parked, .rolling, .winding] ∧
    DeckCmd.disengage ∉ (s.port p).commands ∧
    c.mode ≠ .standby ∧
    x.cmd ≠ .disengage) ∧
  (∃ (s : State) (p : Port) (x : Exchange) (c : Condition) (pos : Nat) (chars : List LineChar),
    s.inReset = false ∧
    PollsShort s ∧
    (s.port p).exchange = some x ∧
    readReply s.std (cmdKind x.cmd) chars = some (c, pos) ∧
    s.holder p ≠ .sequencer ∧
    (s.port p).line = .online ∧
    c.remote = true ∧
    c.mode ≠ .noTape ∧
    c.tracks ≠ 0 ∧
    (s.port p).permission = false ∧
    (s.transport p).state ∈ [.idle, .parked, .rolling, .winding] ∧
    (DeckCmd.disengage ∈ (s.port p).commands ∨ x.cmd = .disengage) ∧
    c.mode ≠ .standby) ∧
  (∃ (s : State) (p : Port) (x : Exchange) (c : Condition) (pos : Nat) (chars : List LineChar),
    s.inReset = false ∧
    PollsShort s ∧
    (s.port p).exchange = some x ∧
    readReply s.std (cmdKind x.cmd) chars = some (c, pos) ∧
    s.holder p ≠ .sequencer ∧
    (s.port p).line = .offline ∧
    TransportsAgree s ∧
    (s.port p).commands = [] ∧
    c.remote = true ∧
    (c.mode = .halted ∨ c.mode = .parked) ∧
    c.tracks = 0) ∧
  (∃ (s : State) (p : Port) (x : Exchange) (c : Condition) (pos : Nat) (chars : List LineChar),
    s.inReset = false ∧
    PollsShort s ∧
    (s.port p).exchange = some x ∧
    readReply s.std (cmdKind x.cmd) chars = some (c, pos) ∧
    s.holder p ≠ .sequencer ∧
    (s.port p).line = .online ∧
    c.remote = true ∧
    c.mode = .noTape ∧
    (s.transport p).state ∈ [.standby, .waking, .idle, .cueing, .parked, .rolling, .winding] ∧
    s.reels.toList.countP (fun x => x.any (fun y => y.mounted = some p)) ≤ 1 ∧
    (c.tracks = 0 ∨ (s.port p).permission = true)) ∧
  (∃ (s : State) (p : Port) (_chars : List LineChar),
    PollsShort s ∧
    (s.port p).exchange = none) :=
  ⟨⟨((up).setPort .p2 { (up).port .p2 with exchange := some ⟨.status, 0⟩ }), .p2, ⟨.status, 0⟩,
     ⟨.halted, true, true, false, true, 0⟩, 640, replyChars .f30D .status ⟨.halted, true, true, false, true, 0⟩ 640,
     by unfold PollsShort; decide +kernel⟩,
   ⟨((up).setPort .p2 { (up).port .p2 with exchange := some ⟨.status, 0⟩ }), .p2, ⟨.status, 0⟩,
     ⟨.halted, true, true, false, true, 3⟩, 640, replyChars .f30D .status ⟨.halted, true, true, false, true, 3⟩ 640,
     by unfold PollsShort; decide +kernel⟩,
   ⟨{ asked .p2 up with ports := (asked .p2 up).ports.set .p2 { (asked .p2 up).port .p2 with commands := [.disengage] } },
     .p2, ⟨.status, 0⟩, ⟨.halted, true, true, false, true, 3⟩, 640,
     replyChars .f30D .status ⟨.halted, true, true, false, true, 3⟩ 640, by unfold PollsShort; decide +kernel⟩,
   ⟨((base).setPort .p2 { (base).port .p2 with exchange := some ⟨.status, 0⟩ }), .p2, ⟨.status, 0⟩,
     ⟨.halted, true, true, false, true, 0⟩, 640, replyChars .f30D .status ⟨.halted, true, true, false, true, 0⟩ 640,
     by unfold PollsShort TransportsAgree TransportAgrees; decide +kernel⟩,
   ⟨((up).setPort .p2 { (up).port .p2 with exchange := some ⟨.status, 0⟩ }), .p2, ⟨.status, 0⟩,
     ⟨.noTape, true, false, false, false, 0⟩, 0, replyChars .f30D .status ⟨.noTape, true, false, false, false, 0⟩ 0,
     by unfold PollsShort; decide +kernel⟩,
   ⟨up, .p2, [], by unfold PollsShort; decide +kernel⟩⟩

/-- States and operands that meet the hypotheses of TransportAndCueMoveAConsoleHeldDeck, clause by clause. -/
theorem witness_TransportAndCueMoveAConsoleHeldDeck :
  (∃ (s : State) (p : Port) (a : Action) (body : List Byte),
    Ready s ∧
    PollsShort s ∧
    s.holder p = .console ∧
    s.chase p = none ∧
    ActionLegal a ∧
    body = bPort p ++ actionBytes a ∧
    movable (s.transport p).state = true) ∧
  (∃ (s : State) (p : Port) (a : Action) (body : List Byte) (m : PendingMotion),
    Ready s ∧
    PollsShort s ∧
    s.holder p = .console ∧
    s.chase p = none ∧
    ActionLegal a ∧
    body = bPort p ++ actionBytes a ∧
    (s.transport p).state = .standby ∧
    actionMotion .console a = some m) ∧
  (∃ (s : State) (p : Port),
    Ready s ∧
    PollsShort s ∧
    s.holder p = .console ∧
    s.chase p = none ∧
    (s.transport p).state = .standby) ∧
  (∃ (s : State) (p : Port) (a : Action) (body : List Byte),
    Ready s ∧
    PollsShort s ∧
    s.holder p = .console ∧
    s.chase p = none ∧
    ActionLegal a ∧
    body = bPort p ++ actionBytes a ∧
    (s.transport p).state = .waking) ∧
  (∃ (s : State) (p : Port) (body : List Byte) (n : Nat) (moved : Bool),
    Ready s ∧
    PollsShort s ∧
    s.holder p = .console ∧
    s.chase p = none ∧
    body.length = 5 ∧
    body.head? = some (BitVec.ofNat 8 (portNum p)) ∧
    readLabel s.std false (labelAt body 1) = some (n, moved) ∧
    movable (s.transport p).state = true) ∧
  (∃ (s : State) (p : Port) (body : List Byte) (n : Nat) (moved : Bool),
    Ready s ∧
    PollsShort s ∧
    s.holder p = .console ∧
    s.chase p = none ∧
    body.length = 5 ∧
    body.head? = some (BitVec.ofNat 8 (portNum p)) ∧
    readLabel s.std false (labelAt body 1) = some (n, moved) ∧
    (s.transport p).state = .standby) ∧
  (∃ (s : State) (p : Port) (body : List Byte) (n : Nat) (moved : Bool),
    Ready s ∧
    PollsShort s ∧
    s.holder p = .console ∧
    s.chase p = none ∧
    body.length = 5 ∧
    body.head? = some (BitVec.ofNat 8 (portNum p)) ∧
    readLabel s.std false (labelAt body 1) = some (n, moved) ∧
    (s.transport p).state = .waking) ∧
  (∃ (s : State) (p : Port) (a : Action) (body : List Byte) (x : Reason),
    Ready s ∧
    PollsShort s ∧
    ActionLegal a ∧
    body = bPort p ++ actionBytes a ∧
    some x = (if s.holder p = .sequencer then some .held
      else if s.holder p = .free then some .notHeld
      else if (s.transport p).state ∈ [.offline, .panel, .empty] then some .deckDown
      else if s.chase p ≠ none then some .state else none)) ∧
  (∃ (s : State) (p : Port) (l : Label) (body : List Byte) (x : Reason),
    Ready s ∧
    PollsShort s ∧
    body.length = 5 ∧
    labelAt body 1 = l ∧
    (portOf (byteAt body 0) = some p ∨ portOf (byteAt body 0) = none) ∧
    some x = (if ¬(l.hh ≤ 23 ∧ l.mm ≤ 59 ∧ l.ss ≤ 59 ∧ l.ff < rate s.std) then some .badTime
      else if portOf (byteAt body 0) = none then some .badField
      else if s.holder p = .sequencer then some .held
      else if s.holder p = .free then some .notHeld
      else if (s.transport p).state ∈ [.offline, .panel, .empty] then some .deckDown
      else if s.chase p ≠ none then some .state else none)) :=
  ⟨⟨{ up with holders := .const .console }, .p2, .play 2304, bPort .p2 ++ actionBytes (.play 2304),
     by unfold Ready PollsShort ActionLegal; decide +kernel⟩,
   ⟨(({ up with holders := .const .console }).setTransport .p2 { ({ up with holders := .const .console }).transport .p2 with state := .standby }),
     .p2, .shuttle (-32767), bPort .p2 ++ actionBytes (.shuttle (-32767)), ⟨.console, .shuttle (-32767)⟩,
     by unfold Ready PollsShort ActionLegal; decide +kernel⟩,
   ⟨(({ up with holders := .const .console }).setTransport .p2 { ({ up with holders := .const .console }).transport .p2 with state := .standby }),
     .p2, by unfold Ready PollsShort; decide +kernel⟩,
   ⟨(({ up with holders := .const .console }).setTransport .p2 { ({ up with holders := .const .console }).transport .p2 with state := .waking }),
     .p2, .halt, bPort .p2 ++ actionBytes .halt, by unfold Ready PollsShort ActionLegal; decide +kernel⟩,
   ⟨{ up with holders := .const .console }, .p2, [2, 0, 0, 3, 10], 100, false,
     by unfold Ready PollsShort; decide +kernel⟩,
   ⟨(({ up with holders := .const .console }).setTransport .p2 { ({ up with holders := .const .console }).transport .p2 with state := .standby }),
     .p2, [2, 0, 0, 3, 10], 100, false, by unfold Ready PollsShort; decide +kernel⟩,
   ⟨(({ up with holders := .const .console }).setTransport .p2 { ({ up with holders := .const .console }).transport .p2 with state := .waking }),
     .p2, [2, 0, 0, 3, 10], 100, false, by unfold Ready PollsShort; decide +kernel⟩,
   ⟨up, .p2, .halt, bPort .p2 ++ actionBytes .halt, .notHeld,
     by unfold Ready PollsShort ActionLegal; decide +kernel⟩,
   ⟨up, .p2, ⟨0, 0, 3, 10⟩, [2, 0, 0, 3, 10], .notHeld, by unfold Ready PollsShort; decide +kernel⟩⟩

/-- States and operands that meet the hypotheses of ClaimsAreGrantedWholeOrNotAtAll, clause by clause. -/
theorem witness_ClaimsAreGrantedWholeOrNotAtAll :
  (∃ (s : State) (body : List Byte) (ps : List Port),
    Ready s ∧
    PollsShort s ∧
    body.length = 1 ∧
    portSetOf (byteAt body 0) = some ps ∧
    (∀ p ∈ ps, s.holder p = .free) ∧
    (∀ p ∈ ps, DeckCmd.release ∉ (s.port p).commands)) ∧
  (∃ (s : State) (body : List Byte) (ps : List Port),
    Ready s ∧
    PollsShort s ∧
    body.length = 1 ∧
    portSetOf (byteAt body 0) = some ps ∧
    (∀ p ∈ allPorts, s.holder p = .free) ∧
    (∀ p ∈ ps, DeckCmd.release ∉ (s.port p).commands)) ∧
  (∃ (s : State) (body : List Byte) (ps : List Port),
    Ready s ∧
    PollsShort s ∧
    body.length = 1 ∧
    portSetOf (byteAt body 0) = some ps ∧
    (∃ p ∈ ps, s.holder p ≠ .free)) ∧
  (∃ (s : State) (body : List Byte) (ps : List Port),
    Ready s ∧
    PollsShort s ∧
    body.length = 1 ∧
    portSetOf (byteAt body 0) = some ps ∧
    (∃ p ∈ allPorts, s.holder p ≠ .free)) ∧
  (∃ (s : State) (body : List Byte) (ps : List Port) (p : Port),
    Ready s ∧
    body.length = 1 ∧
    portSetOf (byteAt body 0) = some ps ∧
    (∀ q ∈ ps, s.holder q = .free) ∧
    p ∈ ps ∧
    SlotsRight (s.port p) ∧
    DeckCmd.release ∈ (s.port p).commands) ∧
  (∃ (s : State) (body : List Byte) (ps : List Port),
    Ready s ∧
    PollsShort s ∧
    body.length = 1 ∧
    portSetOf (byteAt body 0) = some ps) ∧
  (∃ (s : State) (body : List Byte) (ps : List Port),
    Ready s ∧
    PollsShort s ∧
    body.length = 1 ∧
    portSetOf (byteAt body 0) = some ps) ∧
  (∃ (s : State) (body : List Byte),
    Ready s ∧
    PollsShort s ∧
    body.length = 1 ∧
    portSetOf (byteAt body 0) = none) :=
  ⟨⟨up, [63], allPorts, by unfold Ready PollsShort; decide +kernel⟩,
   ⟨up, [2], [.p2], by unfold Ready PollsShort; decide +kernel⟩,
   ⟨{ up with holders := .const .console }, [2], [.p2], by unfold Ready PollsShort; decide +kernel⟩,
   ⟨{ up with holders := .const .console }, [2], [.p2], by unfold Ready PollsShort; decide +kernel⟩,
   ⟨((up).setPort .p2 { (up).port .p2 with commands := [.release] }), [2], [.p2], .p2,
     by unfold Ready SlotsRight; decide +kernel⟩,
   ⟨up, [63], allPorts, by unfold Ready PollsShort; decide +kernel⟩,
   ⟨up, [63], allPorts, by unfold Ready PollsShort; decide +kernel⟩,
   ⟨up, [64], by unfold Ready PollsShort; decide +kernel⟩⟩

/-- States and operands that meet the hypotheses of TransportLimitsActWhenTheyAreReached, clause by clause. -/
theorem witness_TransportLimitsActWhenTheyAreReached :
  (∃ (s : State) (p : Port) (c : Cue),
    s.inReset = false ∧
    PollsShort s ∧
    (s.transport p).state = .cueing ∧
    (s.transport p).cue = some c ∧
    c.requester ≠ .sequencer ∧
    (s.profile p).cueTime * rate s.std ≤ c.elapsed) ∧
  (∃ (s : State) (p : Port) (x : Nat) (n : Nat) (w : Requester),
    s.inReset = false ∧
    PollsShort s ∧
    (s.transport p).state = .waking ∧
    (s.transport p).motion = some ⟨w, .cue x n⟩ ∧
    w ≠ .sequencer ∧
    (s.profile p).cueTime * rate s.std ≤ n) ∧
  (∃ (s : State) (p : Port),
    s.inReset = false ∧
    PollsShort s ∧
    (s.transport p).state = .waking ∧
    (s.transport p).wakeTaken = true ∧
    (s.transport p).wakeCount = 0 ∧
    (s.transport p).motion = none) ∧
  (∃ (s : State) (p : Port) (a : Action) (w : Requester),
    s.inReset = false ∧
    PollsShort s ∧
    (s.transport p).state = .waking ∧
    (s.transport p).wakeTaken = true ∧
    (s.transport p).wakeCount = 0 ∧
    (s.transport p).motion = actionMotion w a ∧
    a ≠ .halt ∧
    (s.transport p).cue = none) ∧
  (∃ (s : State) (p : Port) (x : Nat) (n : Nat) (w : Requester),
    s.inReset = false ∧
    PollsShort s ∧
    (s.transport p).state = .waking ∧
    (s.transport p).wakeTaken = true ∧
    (s.transport p).wakeCount = 0 ∧
    (s.transport p).motion = some ⟨w, .cue x n⟩) ∧
  (∃ (s : State) (p : Port),
    s.inReset = false ∧
    PollsShort s ∧
    ((s.transport p).state = .idle ∨ (s.transport p).state = .parked) ∧
    s.holder p = .free ∧
    (s.profile p).standbyDelay ≠ 0 ∧
    (s.profile p).standbyDelay * 60 * rate s.std ≤ (s.transport p).standbyTimer) ∧
  (∃ (s : State) (p : Port),
    PollsShort s ∧
    (∀ c ∈ (s.transport p).cue, c.elapsed < (s.profile p).cueTime * rate s.std) ∧
    (s.transport p).motion = none) ∧
  (∃ (s : State) (p : Port),
    PollsShort s ∧
    ((s.transport p).state ≠ .waking ∨ (s.transport p).wakeTaken = false ∨ (s.transport p).wakeCount ≠ 0)) ∧
  (∃ (s : State) (p : Port),
    PollsShort s ∧
    (s.holder p ≠ .free ∨ (s.profile p).standbyDelay = 0 ∨ (s.transport p).standbyTimer < (s.profile p).standbyDelay * 60 * rate s.std)) :=
  ⟨⟨((up).setTransport .p2 { (up).transport .p2 with state := .cueing, cue := some ⟨.console, 0, 1, false, 3600, none⟩ }),
     .p2, ⟨.console, 0, 1, false, 3600, none⟩, by unfold PollsShort; decide +kernel⟩,
   ⟨((up).setTransport .p2 { (up).transport .p2 with state := .waking, motion := some ⟨.console, .cue 0 3600⟩ }),
     .p2, 0, 3600, .console, by unfold PollsShort; decide +kernel⟩,
   ⟨((up).setTransport .p2 { (up).transport .p2 with state := .waking, wakeTaken := true }), .p2,
     by unfold PollsShort; decide +kernel⟩,
   ⟨((up).setTransport .p2 { (up).transport .p2 with state := .waking, wakeTaken := true, motion := some ⟨.chase, .play 1024⟩ }),
     .p2, .play 1024, .chase, by unfold PollsShort; decide +kernel⟩,
   ⟨((up).setTransport .p2 { (up).transport .p2 with state := .waking, wakeTaken := true, motion := some ⟨.sequencer, .cue 64 7⟩ }),
     .p2, 64, 7, .sequencer, by unfold PollsShort; decide +kernel⟩,
   ⟨((up).setTransport .p2 { (up).transport .p2 with standbyTimer := 14400 }), .p2,
     by unfold PollsShort; decide +kernel⟩,
   ⟨up, .p2, by unfold PollsShort; decide +kernel⟩,
   ⟨up, .p2, by unfold PollsShort; decide +kernel⟩,
   ⟨((up).setTransport .p2 { (up).transport .p2 with standbyTimer := 14399 }), .p2,
     by unfold PollsShort; decide +kernel⟩⟩

/-- States and operands that meet the hypotheses of StatusRequestsReportAndChangeNothing, clause by clause. -/
theorem witness_StatusRequestsReportAndChangeNothing :
  (∃ (s : State) (_p : Port),
    Ready s ∧
    PollsShort s) ∧
  (∃ (s : State),
    Ready s ∧
    PollsShort s) ∧
  (∃ (s : State) (i : Nat) (r : Reel),
    Ready s ∧
    PollsShort s ∧
    s.list.ripple = none ∧
    i < 64 ∧
    s.reels[i]? = some (some r) ∧
    (∀ j ∈ List.range i, ((s.reels[j]?).join).map Reel.name ≠ some r.name) ∧
    nameValid r.name = true) ∧
  (∃ (s : State) (i : Nat),
    Ready s ∧
    PollsShort s ∧
    i < 64 ∧
    s.reels[i]? = some none) ∧
  (∃ (s : State) (_p : Port) (_l : Line),
    Ready s ∧
    PollsShort s) :=
  ⟨⟨up, .p2, by unfold Ready PollsShort; decide +kernel⟩,
   ⟨up, by unfold Ready PollsShort; decide +kernel⟩,
   ⟨listed, 0, ⟨[65], some .p2⟩, by unfold Ready PollsShort; decide +kernel⟩,
   ⟨listed, 63, by unfold Ready PollsShort; decide +kernel⟩,
   ⟨up, .p2, .l1, by unfold Ready PollsShort; decide +kernel⟩⟩

/-- States and operands that meet the hypotheses of TheAdvanceIsExactOnAverageAndSamplesReplaceIt, clause by clause. -/
theorem witness_TheAdvanceIsExactOnAverageAndSamplesReplaceIt :
  (∃ (std : FrameStd) (v : Int) (a : Nat) (r : Nat) (_n : Nat),
    a < dayLength std ∧
    r < 16 ∧
    v ≠ 0) ∧
  (∃ (s : State) (p : Port) (tested : Bool) (x : Nat) (far : Bool),
    far = (tested && decide ((s.profile p).plausibility * 64 < (posDiff s.std x (s.tracker p).position).natAbs))) ∧
  (∃ (s : State) (p : Port) (x : Nat),
    s.inReset = false ∧
    PollsShort s ∧
    x < dayLength s.std ∧
    2 ≤ (s.tracker p).glitch ∧
    sampleTested (s.tracker p) (s.transport p) = true ∧
    (s.profile p).plausibility * 64 < (posDiff s.std x (s.tracker p).position).natAbs) ∧
  (∃ (s : State) (p : Port) (x : Nat),
    PollsShort s ∧
    x < dayLength s.std ∧
    ((s.tracker p).glitch < 2 ∨ sampleTested (s.tracker p) (s.transport p) = false ∨ (posDiff s.std x (s.tracker p).position).natAbs ≤ (s.profile p).plausibility * 64)) :=
  ⟨⟨.f30D, -32767, 0, 15, 9, by decide +kernel⟩,
   ⟨up, .p2, false, 0, false, by decide +kernel⟩,
   ⟨((up).setTracker .p2 { (up).tracker .p2 with known := true, glitch := 2 }), .p2, 129,
     by unfold PollsShort; decide +kernel⟩,
   ⟨up, .p2, 129, by unfold PollsShort; decide +kernel⟩⟩

/-- States and operands that meet the hypotheses of ChaseAndChaseStopMakeAndRemoveAManualRecord, clause by clause. -/
theorem witness_ChaseAndChaseStopMakeAndRemoveAManualRecord :
  (∃ (s : State) (p : Port) (m : Port) (o : Int) (body : List Byte),
    Ready s ∧
    PollsShort s ∧
    -2147483648 ≤ o ∧ o ≤ 2147483647 ∧
    body = bPort p ++ bPort m ++ s4 o ∧
    p ≠ m ∧
    s.holder p = .console ∧
    s.recorder ≠ some p ∧
    (s.transport p).state ∉ [.offline, .panel, .empty] ∧
    s.chase m = none ∧
    (∀ q ∈ allPorts, ∀ c ∈ s.chase q, c.master ≠ p)) ∧
  (∃ (s : State) (p : Port) (m : Port) (o : Int) (body : List Byte) (x : Reason),
    Ready s ∧
    PollsShort s ∧
    -2147483648 ≤ o ∧ o ≤ 2147483647 ∧
    body = bPort p ++ bPort m ++ s4 o ∧
    some x = (if p = m then some .badField
      else if s.holder p = .sequencer then some .held
      else if s.holder p = .free then some .notHeld
      else if s.recorder = some p then some .role
      else if (s.transport p).state ∈ [.offline, .panel, .empty] then some .deckDown
      else if s.chase m ≠ none ∨ ∃ q ∈ allPorts, ∃ c ∈ s.chase q, c.master = p then some .chain else none)) ∧
  (∃ (s : State) (p : Port) (c : Chase),
    Ready s ∧
    PollsShort s ∧
    s.holder p = .console ∧
    s.chase p = some c ∧
    c.kind = .manual ∧
    movable (s.transport p).state = true) ∧
  (∃ (s : State) (p : Port) (c : Chase),
    Ready s ∧
    PollsShort s ∧
    s.holder p = .console ∧
    s.chase p = some c ∧
    c.kind = .manual ∧
    (s.transport p).state = .standby) ∧
  (∃ (s : State) (p : Port) (c : Chase),
    Ready s ∧
    s.holder p = .console ∧
    s.chase p = some c ∧
    c.kind = .manual ∧
    (s.transport p).state = .waking) ∧
  (∃ (s : State) (p : Port),
    Ready s ∧
    PollsShort s ∧
    s.holder p = .console ∧
    (∀ c ∈ s.chase p, c.kind = .sequencer)) :=
  ⟨⟨{ up with holders := .const .console }, .p2, .p3, 86400, bPort .p2 ++ bPort .p3 ++ s4 86400,
     by unfold Ready PollsShort; decide +kernel⟩,
   ⟨{ up with holders := .const .console }, .p2, .p2, 0, bPort .p2 ++ bPort .p2 ++ s4 0, .badField,
     by unfold Ready PollsShort; decide +kernel⟩,
   ⟨(chasing (manualChase .f30D .p3 0) .idle .halted 0), .p2, manualChase .f30D .p3 0,
     by unfold Ready PollsShort; decide +kernel⟩,
   ⟨((chasing (manualChase .f30D .p3 0) .idle .halted 0).setTransport .p2 { held.transport .p2 with state := .standby }),
     .p2, manualChase .f30D .p3 0, by unfold Ready PollsShort; decide +kernel⟩,
   ⟨((chasing (manualChase .f30D .p3 0) .idle .halted 0).setTransport .p2 { held.transport .p2 with state := .waking }),
     .p2, manualChase .f30D .p3 0, by unfold Ready; decide +kernel⟩,
   ⟨{ up with holders := .const .console }, .p2, by unfold Ready PollsShort; decide +kernel⟩⟩

/-- States and operands that meet the hypotheses of ChaseServoFollowsItsMasterWithinItsLimits, clause by clause. -/
theorem witness_ChaseServoFollowsItsMasterWithinItsLimits :
  (∃ (s : State) (p : Port) (c : Chase) (target : Nat) (e : Int) (run : Nat),
    (s.transport p).state = .rolling ∧
    (s.tracker p).settle = 0 ∧
    (s.tracker p).age < 8 ∧ (s.tracker c.master).age < 8 ∧
    e = posDiff s.std target (s.tracker p).position ∧
    e.natAbs ≤ (s.profile p).captureWindow * 64 ∧
    c.state = .capturing ∧
    run = (if e.natAbs ≤ (s.profile p).lockWindow then min 63 (c.lockRun + 1) else 0)) ∧
  (∃ (s : State) (p : Port) (c : Chase) (target : Nat) (e : Int),
    (s.transport p).state = .rolling ∧
    (s.tracker p).settle = 0 ∧
    (s.tracker p).age < 8 ∧ (s.tracker c.master).age < 8 ∧
    e = posDiff s.std target (s.tracker p).position ∧
    e.natAbs ≤ (s.profile p).captureWindow * 64 ∧
    c.state = .locked) ∧
  (∃ (s : State) (p : Port) (c : Chase) (target : Nat) (e : Int),
    (s.transport p).state = .rolling ∧
    (s.tracker p).settle = 0 ∧
    (s.tracker p).age < 8 ∧ (s.tracker c.master).age < 8 ∧
    e = posDiff s.std target (s.tracker p).position ∧
    (s.profile p).captureWindow * 64 < e.natAbs ∧
    c.kind = .sequencer ∧
    (c.state = .capturing ∨ (c.state = .locked ∧ (s.profile p).unlockWindow < e.natAbs)) ∧
    (s.profile p).lockWindow < e.natAbs ∧ 1 ≤ (s.profile p).lockCount) ∧
  (∃ (s : State) (p : Port) (c : Chase) (target : Nat) (e : Int) (point : Nat),
    (s.transport p).state = .rolling ∧
    (s.tracker p).settle = 0 ∧
    (s.tracker p).age < 8 ∧ (s.tracker c.master).age < 8 ∧
    e = posDiff s.std target (s.tracker p).position ∧
    (s.profile p).captureWindow * 64 < e.natAbs ∧
    c.kind = .manual ∧
    (c.state = .capturing ∨ (c.state = .locked ∧ (s.profile p).unlockWindow < e.natAbs)) ∧
    (s.profile p).lockWindow < e.natAbs ∧ 1 ≤ (s.profile p).lockCount ∧
    point = posAdd s.std target (2 * rate s.std * 64 : Nat)) ∧
  (∃ (s : State) (p : Port) (c : Chase) (_target : Nat),
    ((s.transport p).state ≠ .rolling ∨ (s.tracker p).settle ≠ 0 ∨ 8 ≤ (s.tracker p).age ∨ 8 ≤ (s.tracker c.master).age) ∧
    (c.state = .capturing ∨ c.state = .locked)) :=
  ⟨⟨((((following).setTracker .p2 { (following).tracker .p2 with age := 0 })).setTransport .p2 { (((following).setTracker .p2 { (following).tracker .p2 with age := 0 })).transport .p2 with state := .rolling }),
     .p2, { manualChase .f30D .p3 0 with state := .capturing, lockRun := 9 }, 8, 8, 10, by decide +kernel⟩,
   ⟨((((following).setTracker .p2 { (following).tracker .p2 with age := 0 })).setTransport .p2 { (((following).setTracker .p2 { (following).tracker .p2 with age := 0 })).transport .p2 with state := .rolling }),
     .p2, { manualChase .f30D .p3 0 with state := .locked }, 33, 33, by decide +kernel⟩,
   ⟨((((following).setTracker .p2 { (following).tracker .p2 with age := 0 })).setTransport .p2 { (((following).setTracker .p2 { (following).tracker .p2 with age := 0 })).transport .p2 with state := .rolling }),
     .p2, { manualChase .f30D .p3 0 with kind := .sequencer, state := .capturing }, 1000000, 1000000,
     by decide +kernel⟩,
   ⟨((((following).setTracker .p2 { (following).tracker .p2 with age := 0 })).setTransport .p2 { (((following).setTracker .p2 { (following).tracker .p2 with age := 0 })).transport .p2 with state := .rolling }),
     .p2, { manualChase .f30D .p3 0 with state := .locked }, 1000000, 1000000, 1003840, by decide +kernel⟩,
   ⟨up, .p2, { manualChase .f30D .p3 0 with state := .capturing }, 0, by decide +kernel⟩⟩

/-- States and operands that meet the hypotheses of ASingleEditArmsAndCuesItsDecks, clause by clause. -/
theorem witness_ASingleEditArmsAndCuesItsDecks :
  (∃ (s : State) (m : Mode) (body : List Byte) (e : Event) (d : DeckSet) (r : Nat),
    Ready s ∧
    PollsShort s ∧
    s.list.ripple = none ∧
    m ≠ .run ∧
    s.seq.phase = .idle ∧
    body.length = 2 ∧
    findKey s.list (half body 0) = some e ∧
    armChecks m e [] s = .ok d ∧
    r = min (s.live.system.preroll * rate s.std) e.recIn) ∧
  (∃ (s : State) (m : Mode) (body : List Byte) (e : Event) (d : DeckSet) (p : Port),
    Ready s ∧
    s.list.ripple = none ∧
    m ≠ .run ∧
    s.seq.phase = .idle ∧
    body.length = 2 ∧
    findKey s.list (half body 0) = some e ∧
    armChecks m e [] s = .ok d ∧
    (deckPorts d).Nodup ∧
    p ∈ deckPorts d ∧
    movable (s.transport p).state = true) ∧
  (∃ (s : State) (m : Mode) (body : List Byte),
    Ready s ∧
    PollsShort s ∧
    m ≠ .run ∧
    s.seq.phase ≠ .idle ∧
    body.length = 2) ∧
  (∃ (s : State) (m : Mode) (body : List Byte),
    Ready s ∧
    PollsShort s ∧
    s.list.ripple = none ∧
    m ≠ .run ∧
    s.seq.phase = .idle ∧
    body.length = 2 ∧
    keyUsed s.list (half body 0) = false) :=
  ⟨⟨up, .perform, [0, 2], event2, ⟨.p1, some .p3, some .p2⟩, 150, by unfold Ready PollsShort; decide +kernel⟩,
   ⟨up, .review, [0, 1], event1, ⟨.p1, none, none⟩, .p1, by unfold Ready; decide +kernel⟩,
   ⟨(editing .cueing .perform ⟨.p1, some .p2, none⟩), .preview, [0, 1], by unfold Ready PollsShort; decide +kernel⟩,
   ⟨up, .perform, [0, 0], by unfold Ready PollsShort; decide +kernel⟩⟩

/-- States and operands that meet the hypotheses of TheRollStartsEveryDeckAndStagesTheOutputs, clause by clause. -/
theorem witness_TheRollStartsEveryDeckAndStagesTheOutputs :
  (∃ (s : State) (x : Edit),
    s.inReset = false ∧
    PollsShort s ∧
    liveEdit s = some x ∧
    s.seq.phase = .cueing ∧
    (∀ p ∈ deckPorts x.decks, p ∈ s.seq.parked) ∧
    (deckPorts x.decks).Nodup ∧
    (∀ p ∈ deckPorts x.decks, s.holder p = .sequencer ∧ movable (s.transport p).state = true) ∧
    x.mode ≠ .review ∧
    x.decks.toPort.isSome) ∧
  (∃ (s : State) (x : Edit),
    s.inReset = false ∧
    PollsShort s ∧
    liveEdit s = some x ∧
    s.seq.phase = .cueing ∧
    (∀ p ∈ deckPorts x.decks, p ∈ s.seq.parked) ∧
    x.decks = ⟨x.decks.recorder, none, none⟩ ∧
    (∀ p ∈ deckPorts x.decks, s.holder p = .sequencer ∧ movable (s.transport p).state = true) ∧
    x.mode = .review) ∧
  (∃ (s : State),
    PollsShort s ∧
    (∀ y ∈ liveEdit s, s.seq.phase ≠ .cueing ∨ ∃ p ∈ deckPorts y.decks, p ∉ s.seq.parked)) :=
  ⟨⟨{ editing .cueing .perform ⟨.p1, some .p2, none⟩ with seq := { (editing .cueing .perform ⟨.p1, some .p2, none⟩).seq with parked := [.p2, .p1] } },
     ⟨.perform, event1, ⟨.p1, some .p2, none⟩⟩, by unfold PollsShort; decide +kernel⟩,
   ⟨{ editing .cueing .review ⟨.p1, none, none⟩ with seq := { (editing .cueing .review ⟨.p1, none, none⟩).seq with parked := [.p1] } },
     ⟨.review, event1, ⟨.p1, none, none⟩⟩, by unfold PollsShort; decide +kernel⟩,
   ⟨{ editing .cueing .perform ⟨.p1, some .p2, none⟩ with seq := { (editing .cueing .perform ⟨.p1, some .p2, none⟩).seq with parked := [.p1] } },
     by unfold PollsShort; decide +kernel⟩⟩

/-- States and operands that meet the hypotheses of HowARecordingEditEnds, clause by clause. -/
theorem witness_HowARecordingEditEnds :
  (∃ (s : State) (x : Edit) (c : Instr) (fc : FaultClass),
    s.inReset = false ∧
    PollsShort s ∧
    liveEdit s = some x ∧
    recordMode x.mode = true ∧
    ((c = .abort [] ∧ Ready s ∧ s.seq.phase ≠ .postroll ∧ fc = .abort) ∨
      ((c = .engageTimeout ∨ c = .releaseTimeout) ∧ endMoment x s c = true ∧ fc = .recorder))) ∧
  (∃ (s : State) (x : Edit) (c : Instr) (early : Option FaultClass) (st : Option EventStatus),
    s.inReset = false ∧
    PollsShort s ∧
    liveEdit s = some x ∧
    x.mode ≠ .review ∧
    ((c = .abort [] ∧ Ready s ∧ s.seq.phase = .postroll ∧ early = some .abort) ∨
      (c = .postrollEnd ∧ endMoment x s c = true ∧ early = none)) ∧
    (st = if x.mode = .preview then none else some (if s.seq.slipped then EventStatus.slipped else .done))) ∧
  (∃ (s : State) (x : Edit) (c : Instr) (fc : FaultClass),
    s.inReset = false ∧
    PollsShort s ∧
    liveEdit s = some x ∧
    x.mode = .preview ∧
    ((c = .abort [] ∧ Ready s ∧ s.seq.phase ≠ .postroll ∧ fc = .abort) ∨
      ((c = .engageTimeout ∨ c = .releaseTimeout) ∧ endMoment x s c = true ∧ fc = .recorder))) ∧
  (∃ (s : State) (x : Edit) (c : Instr) (fc : FaultClass),
    s.inReset = false ∧
    PollsShort s ∧
    liveEdit s = some x ∧
    x.mode = .review ∧
    ((c = .abort [] ∧ Ready s ∧ s.seq.phase ≠ .postroll ∧ fc = .abort) ∨
      ((c = .engageTimeout ∨ c = .releaseTimeout) ∧ endMoment x s c = true ∧ fc = .recorder))) ∧
  (∃ (s : State) (x : Edit) (c : Instr) (early : Option FaultClass),
    s.inReset = false ∧
    PollsShort s ∧
    liveEdit s = some x ∧
    x.mode = .review ∧
    ((c = .abort [] ∧ Ready s ∧ s.seq.phase = .postroll ∧ early = some .abort) ∨
      (c = .postrollEnd ∧ endMoment x s c = true ∧ early = none))) ∧
  (∃ (s : State),
    Ready s ∧
    PollsShort s ∧
    (s.seq.phase = .idle ∨ s.seq.closing = true)) ∧
  (∃ (s : State) (c : Instr),
    PollsShort s ∧
    (c = .engageTimeout ∨ c = .releaseTimeout ∨ c = .postrollEnd) ∧
    (∀ x ∈ liveEdit s, endMoment x s c = false)) ∧
  (∃ (s : State) (x : Edit) (p : Port) (fc : FaultClass) (y : Exchange),
    s.inReset = false ∧
    liveEdit s = some x ∧
    p ∈ deckPorts x.decks ∧
    s.holder p = .sequencer ∧
    recordMode x.mode = false ∧
    (s.port p).exchange = some y ∧
    (s.port p).misses = 3 ∧
    (s.port p).line ≠ .offline ∧
    fc = (if p = x.decks.recorder then FaultClass.recorder else .player)) ∧
  (∃ (s : State) (x : Edit) (p : Port) (fc : FaultClass) (y : Exchange) (pos : Nat) (c : Condition) (chars : List LineChar),
    s.inReset = false ∧
    liveEdit s = some x ∧
    p ∈ deckPorts x.decks ∧
    s.holder p = .sequencer ∧
    recordMode x.mode = false ∧
    (s.port p).exchange = some y ∧
    readReply s.std (cmdKind y.cmd) chars = some (c, pos) ∧
    (s.port p).line = .online ∧
    movable (s.transport p).state = true ∧
    (s.transport p).motion = none ∧
    (c.remote = false ∨ c.mode = .noTape ∨ c.mode = .standby ∨
      (c.threaded = false ∧ (s.transport p).state ≠ .cueing ∧ ∃ o ∈ (s.transport p).condition, o.threaded = true)) ∧
    fc = (if p = x.decks.recorder then FaultClass.recorder else .player)) ∧
  (∃ (s : State) (x : Edit) (p : Port) (fc : FaultClass) (q : Cue),
    s.inReset = false ∧
    liveEdit s = some x ∧
    p ∈ deckPorts x.decks ∧
    s.holder p = .sequencer ∧
    recordMode x.mode = false ∧
    (s.transport p).state = .cueing ∧
    (s.transport p).cue = some q ∧
    q.requester = .sequencer ∧
    (s.profile p).cueTime * rate s.std ≤ q.elapsed ∧
    s.seq.phase ≠ .postroll ∧
    fc = .cue) :=
  ⟨⟨{ editing .edit .perform ⟨.p1, some .p2, none⟩ with seq := { (editing .edit .perform ⟨.p1, some .p2, none⟩).seq with engaged := true } },
     ⟨.perform, event1, ⟨.p1, some .p2, none⟩⟩, .abort [], .abort, by unfold Ready PollsShort; decide +kernel⟩,
   ⟨{ editing .postroll .preview ⟨.p1, some .p2, none⟩ with seq := { (editing .postroll .preview ⟨.p1, some .p2, none⟩).seq with postrollEnd := some 0 } },
     ⟨.preview, event1, ⟨.p1, some .p2, none⟩⟩, .postrollEnd, none, none, by unfold Ready PollsShort; decide +kernel⟩,
   ⟨(editing .edit .preview ⟨.p1, some .p2, none⟩), ⟨.preview, event1, ⟨.p1, some .p2, none⟩⟩, .abort [], .abort,
     by unfold Ready PollsShort; decide +kernel⟩,
   ⟨{ editing .preroll .review ⟨.p1, none, none⟩ with frame := 40, seq := { (editing .preroll .review ⟨.p1, none, none⟩).seq with rollFrame := some 0 } },
     ⟨.review, event1, ⟨.p1, none, none⟩⟩, .engageTimeout, .recorder, by unfold Ready PollsShort; decide +kernel⟩,
   ⟨(editing .postroll .review ⟨.p1, none, none⟩), ⟨.review, event1, ⟨.p1, none, none⟩⟩, .abort [], some .abort,
     by unfold Ready PollsShort; decide +kernel⟩,
   ⟨base, by unfold Ready PollsShort; decide +kernel⟩,
   ⟨base, .postrollEnd, by unfold PollsShort; decide +kernel⟩,
   ⟨((asked .p2 (editing .edit .preview ⟨.p1, some .p2, none⟩)).setPort .p2 { (asked .p2 (editing .edit .preview ⟨.p1, some .p2, none⟩)).port .p2 with misses := 3 }),
     ⟨.preview, event1, ⟨.p1, some .p2, none⟩⟩, .p2, .player, ⟨.status, 0⟩, by decide +kernel⟩,
   ⟨(asked .p1 (editing .edit .review ⟨.p1, none, none⟩)), ⟨.review, event1, ⟨.p1, none, none⟩⟩, .p1, .recorder,
     ⟨.status, 0⟩, 640, ⟨.standby, true, true, false, true, 0⟩,
     replyChars .f30D .status ⟨.standby, true, true, false, true, 0⟩ 640, by decide +kernel⟩,
   ⟨(asked .p2 (cueingTo ⟨.sequencer, 640, 1, true, 99999, none⟩ ((editing .cueing .preview ⟨.p1, some .p2, none⟩)))),
     ⟨.preview, event1, ⟨.p1, some .p2, none⟩⟩, .p2, .cue, ⟨.sequencer, 640, 1, true, 99999, none⟩,
     by decide +kernel⟩⟩

/-- States and operands that meet the hypotheses of RunTakesTheFirstEligibleEventAndAnswersItsResponses, clause by clause. -/
theorem witness_RunTakesTheFirstEligibleEventAndAnswersItsResponses :
  (∃ (s : State) (body : List Byte) (a : Nat) (ma : Bool) (b : Nat) (mb : Bool) (fm : FaultMode) (run : Run),
    Ready s ∧
    PollsShort s ∧
    s.list.ripple = none ∧
    body.length = 10 ∧
    s.seq.phase = .idle ∧
    s.ref.state = .present ∧
    s.recorder.isSome ∧
    readLabel s.std false (labelAt body 0) = some (a, ma) ∧
    readLabel s.std false (labelAt body 4) = some (b, mb) ∧
    faultModeOf (byteAt body 8) = some fm ∧
    byteAt body 9 ≤ 1 ∧
    a < b ∧
    run = {
      start := a, stop := b, faultMode := fm, redo := byteAt body 9 = 1, lastPair := none, done := 0, failed := 0
      skipped := 0 } ∧
    s.list.events.find? (fun e => decide (a ≤ e.recIn ∧ e.recIn < b ∧ (run.redo = true ∨ (e.status ≠ .done ∧ e.status ≠ .slipped)))) = none) ∧
  (∃ (s : State) (body : List Byte) (a : Nat) (ma : Bool) (b : Nat) (mb : Bool) (fm : FaultMode) (run : Run) (e : Event) (d : DeckSet) (r : Nat),
    Ready s ∧
    PollsShort s ∧
    s.list.ripple = none ∧
    body.length = 10 ∧
    s.seq.phase = .idle ∧
    s.ref.state = .present ∧
    s.recorder.isSome ∧
    readLabel s.std false (labelAt body 0) = some (a, ma) ∧
    readLabel s.std false (labelAt body 4) = some (b, mb) ∧
    faultModeOf (byteAt body 8) = some fm ∧
    byteAt body 9 ≤ 1 ∧
    a < b ∧
    run = {
      start := a, stop := b, faultMode := fm, redo := byteAt body 9 = 1, lastPair := none, done := 0, failed := 0
      skipped := 0 } ∧
    (s.list.events.map Event.key).Nodup ∧
    s.list.events.find? (fun e => decide (a ≤ e.recIn ∧ e.recIn < b ∧ (run.redo = true ∨ (e.status ≠ .done ∧ e.status ≠ .slipped)))) = some e ∧
    armChecks .run e [] s = .ok d ∧
    r = min (s.live.system.preroll * rate s.std) e.recIn) ∧
  (∃ (s : State) (body : List Byte) (a : Nat) (ma : Bool) (b : Nat) (mb : Bool) (fm : FaultMode) (run : Run) (e : Event) (why : Reason) (c : FaultClass) (u : RunEnd),
    Ready s ∧
    PollsShort s ∧
    s.list.ripple = none ∧
    body.length = 10 ∧
    s.seq.phase = .idle ∧
    s.ref.state = .present ∧
    s.recorder.isSome ∧
    readLabel s.std false (labelAt body 0) = some (a, ma) ∧
    readLabel s.std false (labelAt body 4) = some (b, mb) ∧
    faultModeOf (byteAt body 8) = some fm ∧
    byteAt body 9 ≤ 1 ∧
    a < b ∧
    run = {
      start := a, stop := b, faultMode := fm, redo := byteAt body 9 = 1, lastPair := none, done := 0, failed := 0
      skipped := 0 } ∧
    (s.list.events.map Event.key).Nodup ∧
    fm = .stop ∧
    s.list.events.find? (fun e => decide (a ≤ e.recIn ∧ e.recIn < b ∧ (run.redo = true ∨ (e.status ≠ .done ∧ e.status ≠ .slipped)))) = some e ∧
    armChecks .run e [] s = .error why ∧
    c = (if why = .noReference then .reference else if why = .inhibit then .recorder else if why = .held then .claim else .check) ∧
    u = {
      reason := .fault c, key := some e.key, done := 0, failed := 0, skipped := 1, start := a
      stop := b, faultMode := fm, redo := run.redo }) :=
  ⟨⟨up, [0, 1, 0, 2, 0, 2, 0, 2, 0, 0], 1800, false, 3598, false, .stop,
     { start := 1800, stop := 3598, faultMode := .stop, redo := false, lastPair := none, done := 0, failed := 0, skipped := 0 },
     by unfold Ready PollsShort; decide +kernel⟩,
   ⟨up, [0, 0, 0, 0, 0, 0, 33, 10, 0, 0], 0, false, 1000, false, .stop,
     { start := 0, stop := 1000, faultMode := .stop, redo := false, lastPair := none, done := 0, failed := 0, skipped := 0 },
     event1, ⟨.p1, some .p2, none⟩, 100, by unfold Ready PollsShort; decide +kernel⟩,
   ⟨{ up with reels := base.reels }, [0, 0, 0, 0, 0, 0, 33, 10, 0, 0], 0, false, 1000, false, .stop,
     { start := 0, stop := 1000, faultMode := .stop, redo := false, lastPair := none, done := 0, failed := 0, skipped := 0 },
     event1, .notMounted, .check,
     { reason := .fault .check, key := some 1, done := 0, failed := 0, skipped := 1, start := 0, stop := 1000, faultMode := .stop, redo := false },
     by unfold Ready PollsShort; decide +kernel⟩⟩

/-- States and operands that meet the hypotheses of ARunGoesOnOrEndsWhenItsWriteIsTaken, clause by clause. -/
theorem witness_ARunGoesOnOrEndsWhenItsWriteIsTaken :
  (∃ (s : State) (w : StatusWrite) (run : Run) (o : EditEnd) (e : Event) (d : DeckSet) (run1 : Run) (why : RunReason),
    s.inReset = false ∧
    PollsShort s ∧
    s.list.ripple = none ∧
    s.seq.handed = some (.final w) ∧
    s.seq.run = some run ∧
    s.seq.outcome = some o ∧
    s.seq.copy = some e ∧
    s.seq.decks = some d ∧
    run1 = finishEvent o.written e.recIn e.key run ∧
    (editResponse run.faultMode o = some why ∨ (editResponse run.faultMode o = none ∧ why = .complete ∧
      ∀ x ∈ (takeWrite s.seq.heldKey w s.list).events, ¬(eligible run1 x = true ∧ afterLast run1 x = true)))) ∧
  (∃ (s : State) (w : StatusWrite) (run : Run) (o : EditEnd) (e : Event) (d : DeckSet) (run1 : Run) (x : Event) (d2 : DeckSet),
    s.inReset = false ∧
    s.list.ripple = none ∧
    (s.list.events.map Event.key).Nodup ∧
    s.seq.handed = some (.final w) ∧
    s.seq.run = some run ∧
    s.seq.outcome = some o ∧
    s.seq.copy = some e ∧
    s.seq.decks = some d ∧
    run1 = finishEvent o.written e.recIn e.key run ∧
    editResponse run.faultMode o = none ∧
    (takeWrite s.seq.heldKey w s.list).events.find? (fun x => eligible run1 x && afterLast run1 x) = some x ∧
    armChecks .run x (deckPorts d) s = .ok d2) :=
  ⟨⟨{ editing .postroll .run ⟨.p1, some .p2, none⟩ with seq := { (editing .postroll .run ⟨.p1, some .p2, none⟩).seq with closing := true, outcome := some { key := 1, mode := .run, outcome := .complete, phase := .postroll, early := none, slip := true, written := some .done }, handed := some (.final { key := 1, status := some .done, previewed := false }), run := some { start := 0, stop := 1000, faultMode := .stop, redo := false, lastPair := none, done := 0, failed := 0, skipped := 0 } } },
     { key := 1, status := some .done, previewed := false },
     { start := 0, stop := 1000, faultMode := .stop, redo := false, lastPair := none, done := 0, failed := 0, skipped := 0 },
     { key := 1, mode := .run, outcome := .complete, phase := .postroll, early := none, slip := true, written := some .done },
     event1, ⟨.p1, some .p2, none⟩,
     { start := 0, stop := 1000, faultMode := .stop, redo := false, lastPair := some (100, 1), done := 1, failed := 0, skipped := 0 },
     .slip, by unfold PollsShort; decide +kernel⟩,
   ⟨{ editing .postroll .run ⟨.p1, some .p2, none⟩ with seq := { (editing .postroll .run ⟨.p1, some .p2, none⟩).seq with closing := true, outcome := some { key := 1, mode := .run, outcome := .complete, phase := .postroll, early := none, slip := false, written := some .done }, handed := some (.final { key := 1, status := some .done, previewed := false }), run := some { start := 0, stop := 1000, faultMode := .stop, redo := false, lastPair := none, done := 0, failed := 0, skipped := 0 } } },
     { key := 1, status := some .done, previewed := false },
     { start := 0, stop := 1000, faultMode := .stop, redo := false, lastPair := none, done := 0, failed := 0, skipped := 0 },
     { key := 1, mode := .run, outcome := .complete, phase := .postroll, early := none, slip := false, written := some .done },
     event1, ⟨.p1, some .p2, none⟩,
     { start := 0, stop := 1000, faultMode := .stop, redo := false, lastPair := some (100, 1), done := 1, failed := 0, skipped := 0 },
     event2, ⟨.p1, some .p3, some .p2⟩, by decide +kernel⟩⟩

/-- States and operands that meet the hypotheses of TheRampRisesToFullAndFlipFlops, clause by clause. -/
theorem witness_TheRampRisesToFullAndFlipFlops :
  (∃ (d : Nat) (j : Nat) (k : Nat),
    1 ≤ d ∧
    j ≤ k) ∧
  (∃ (s : State) (r : Ramp),
    s.inReset = false ∧
    PollsShort s ∧
    s.mix.ramp = some r ∧
    s.seq.fieldIndex = some (2 * r.duration + 1)) ∧
  (∃ (s : State),
    PollsShort s ∧
    (∀ r ∈ s.mix.ramp, s.seq.fieldIndex ≠ some (2 * r.duration + 1))) :=
  ⟨⟨1, 2, 2, by decide +kernel⟩,
   ⟨{ base with mix := { base.mix with ramp := some ⟨5, 10⟩ }, seq := { base.seq with fieldIndex := some 11 } },
     ⟨5, 10⟩, by unfold PollsShort; decide +kernel⟩,
   ⟨base, by unfold PollsShort; decide +kernel⟩⟩

/-- States and operands that meet the hypotheses of GpiLinesFireAndRunTheirPulses, clause by clause. -/
theorem witness_GpiLinesFireAndRunTheirPulses :
  (∃ (s : State) (l : Line) (n : Nat),
    s.inReset = false ∧
    PollsShort s ∧
    s.gpi.lines.get l = some (.pulse n) ∧
    (if (s.live.gpi.get l).long then 30 else 1) ≤ n) ∧
  (∃ (s : State) (l : Line),
    PollsShort s ∧
    (match s.gpi.lines.get l with
      | some (.pulse n) => decide (n < (if (s.live.gpi.get l).long then 30 else 1))
      | _ => true) = true) :=
  ⟨⟨{ base with gpi := { base.gpi with lines := base.gpi.lines.set .l2 (some (.pulse 1)) } }, .l2, 1,
     by unfold PollsShort; decide +kernel⟩,
   ⟨base, .l2, by unfold PollsShort; decide +kernel⟩⟩

/-- States and operands that meet the hypotheses of RepliesOfACueingDeckAreVerified, clause by clause. -/
theorem witness_RepliesOfACueingDeckAreVerified :
  (∃ (s : State) (p : Port) (x : Exchange) (c : Condition) (pos : Nat) (chars : List LineChar) (q : Cue),
    s.inReset = false ∧
    PollsShort s ∧
    (s.port p).exchange = some x ∧
    readReply s.std (cmdKind x.cmd) chars = some (c, pos) ∧
    s.holder p ≠ .sequencer ∧
    (s.port p).line = .online ∧
    c.remote = true ∧
    (s.transport p).state = .cueing ∧
    (s.transport p).cue = some q ∧
    c.mode ≠ .noTape ∧ c.mode ≠ .standby ∧
    (∀ o ∈ (s.transport p).condition, o.threaded = c.threaded ∧ o.inhibit = c.inhibit) ∧
    (c.tracks = 0 ∨ (s.port p).permission = true) ∧
    (q.acked = false ∨ (c.mode ≠ .parked ∧ c.mode ≠ .halted))) ∧
  (∃ (s : State) (p : Port) (x : Exchange) (c : Condition) (pos : Nat) (chars : List LineChar) (q : Cue) (off : Nat),
    s.inReset = false ∧
    PollsShort s ∧
    (s.port p).exchange = some x ∧
    readReply s.std (cmdKind x.cmd) chars = some (c, pos) ∧
    s.holder p ≠ .sequencer ∧
    (s.port p).line = .online ∧
    c.remote = true ∧
    (s.transport p).state = .cueing ∧
    (s.transport p).cue = some q ∧
    c.mode ≠ .noTape ∧ c.mode ≠ .standby ∧
    (∀ o ∈ (s.transport p).condition, o.threaded = c.threaded ∧ o.inhibit = c.inhibit) ∧
    (c.tracks = 0 ∨ (s.port p).permission = true) ∧
    q.acked = true ∧
    (c.mode = .parked ∨ c.mode = .halted) ∧
    off = (Int.tdiv (posDiff s.std pos q.target) 64).natAbs ∧
    off ≤ (s.profile p).cueTolerance) ∧
  (∃ (s : State) (p : Port) (x : Exchange) (c : Condition) (pos : Nat) (chars : List LineChar) (q : Cue) (off : Nat),
    s.inReset = false ∧
    PollsShort s ∧
    (s.port p).exchange = some x ∧
    readReply s.std (cmdKind x.cmd) chars = some (c, pos) ∧
    s.holder p ≠ .sequencer ∧
    (s.port p).line = .online ∧
    c.remote = true ∧
    (s.transport p).state = .cueing ∧
    (s.transport p).cue = some q ∧
    c.mode ≠ .noTape ∧ c.mode ≠ .standby ∧
    (∀ o ∈ (s.transport p).condition, o.threaded = c.threaded ∧ o.inhibit = c.inhibit) ∧
    (c.tracks = 0 ∨ (s.port p).permission = true) ∧
    q.acked = true ∧
    (c.mode = .parked ∨ c.mode = .halted) ∧
    off = (Int.tdiv (posDiff s.std pos q.target) 64).natAbs ∧
    (s.profile p).cueTolerance < off ∧
    q.attempts < (s.profile p).cueAttempts) ∧
  (∃ (s : State) (p : Port) (x : Exchange) (c : Condition) (pos : Nat) (chars : List LineChar) (q : Cue) (off : Nat),
    s.inReset = false ∧
    PollsShort s ∧
    (s.port p).exchange = some x ∧
    readReply s.std (cmdKind x.cmd) chars = some (c, pos) ∧
    s.holder p ≠ .sequencer ∧
    (s.port p).line = .online ∧
    c.remote = true ∧
    (s.transport p).state = .cueing ∧
    (s.transport p).cue = some q ∧
    c.mode ≠ .noTape ∧ c.mode ≠ .standby ∧
    (∀ o ∈ (s.transport p).condition, o.threaded = c.threaded ∧ o.inhibit = c.inhibit) ∧
    (c.tracks = 0 ∨ (s.port p).permission = true) ∧
    q.acked = true ∧
    (c.mode = .parked ∨ c.mode = .halted) ∧
    off = (Int.tdiv (posDiff s.std pos q.target) 64).natAbs ∧
    (s.profile p).cueTolerance < off ∧
    (s.profile p).cueAttempts ≤ q.attempts ∧
    q.requester ≠ .sequencer) :=
  ⟨⟨(asked .p2 (cueingTo ⟨.console, 640, 1, false, 5, none⟩ (held))), .p2, ⟨.status, 0⟩,
     ⟨.halted, true, true, false, true, 0⟩, 640, replyChars .f30D .status ⟨.halted, true, true, false, true, 0⟩ 640,
     ⟨.console, 640, 1, false, 5, none⟩, by unfold PollsShort; decide +kernel⟩,
   ⟨(asked .p2 (cueingTo ⟨.console, 640, 1, true, 5, none⟩ (held))), .p2, ⟨.status, 0⟩,
     ⟨.halted, true, true, false, true, 0⟩, 640, replyChars .f30D .status ⟨.halted, true, true, false, true, 0⟩ 640,
     ⟨.console, 640, 1, true, 5, none⟩, 0, by unfold PollsShort; decide +kernel⟩,
   ⟨(asked .p2 (cueingTo ⟨.console, 640, 1, true, 5, none⟩ (held))), .p2, ⟨.status, 0⟩,
     ⟨.halted, true, true, false, true, 0⟩, 6400,
     replyChars .f30D .status ⟨.halted, true, true, false, true, 0⟩ 6400, ⟨.console, 640, 1, true, 5, none⟩, 90,
     by unfold PollsShort; decide +kernel⟩,
   ⟨(asked .p2 (cueingTo ⟨.console, 640, 9, true, 5, none⟩ (held))), .p2, ⟨.status, 0⟩,
     ⟨.halted, true, true, false, true, 0⟩, 6400,
     replyChars .f30D .status ⟨.halted, true, true, false, true, 0⟩ 6400, ⟨.console, 640, 9, true, 5, none⟩, 90,
     by unfold PollsShort; decide +kernel⟩⟩

/-- States and operands that meet the hypotheses of RepliesThatChangeTheLineOrFindStandby, clause by clause. -/
theorem witness_RepliesThatChangeTheLineOrFindStandby :
  (∃ (s : State) (p : Port) (x : Exchange) (c : Condition) (pos : Nat) (chars : List LineChar),
    s.inReset = false ∧
    PollsShort s ∧
    (s.port p).exchange = some x ∧
    readReply s.std (cmdKind x.cmd) chars = some (c, pos) ∧
    s.holder p ≠ .sequencer ∧
    (s.port p).line = .online ∧
    c.remote = false ∧
    c.mode ≠ .noTape ∧
    (s.transport p).state ≠ .offline ∧
    (∀ q ∈ (s.transport p).cue, q.requester ≠ .sequencer) ∧
    (∀ m ∈ (s.transport p).motion, (motionCue m.motion).isNone)) ∧
  (∃ (s : State) (p : Port) (x : Exchange) (c : Condition) (pos : Nat) (chars : List LineChar),
    s.inReset = false ∧
    PollsShort s ∧
    (s.port p).exchange = some x ∧
    readReply s.std (cmdKind x.cmd) chars = some (c, pos) ∧
    s.holder p ≠ .sequencer ∧
    (s.port p).line = .panel ∧
    (s.transport p).state = .panel ∧
    (s.port p).commands = [] ∧
    c.remote = true ∧
    c.mode ≠ .noTape ∧
    (∀ o ∈ (s.transport p).condition, o.threaded = c.threaded ∧ o.inhibit = c.inhibit) ∧
    c.tracks = 0 ∧
    (c.mode = .standby ∨ (s.tracker p).known = false ∨ (s.tracker p).settle ≠ 0 ∨
      (posDiff s.std pos (s.tracker p).position).natAbs ≤ (s.profile p).plausibility * 64) ∧
    (s.transport p).cue = none) ∧
  (∃ (s : State) (p : Port) (x : Exchange) (c : Condition) (pos : Nat) (chars : List LineChar),
    s.inReset = false ∧
    PollsShort s ∧
    (s.port p).exchange = some x ∧
    readReply s.std (cmdKind x.cmd) chars = some (c, pos) ∧
    s.holder p ≠ .sequencer ∧
    (s.port p).line = .online ∧
    c.remote = true ∧
    (s.transport p).state = .empty ∧
    SlotsRight (s.port p) ∧
    c.mode ≠ .noTape ∧
    (c.tracks = 0 ∨ (s.port p).permission = true) ∧
    (s.transport p).cue = none) ∧
  (∃ (s : State) (p : Port) (x : Exchange) (c : Condition) (pos : Nat) (chars : List LineChar),
    s.inReset = false ∧
    PollsShort s ∧
    (s.port p).exchange = some x ∧
    readReply s.std (cmdKind x.cmd) chars = some (c, pos) ∧
    s.holder p ≠ .sequencer ∧
    (s.port p).line = .online ∧
    c.remote = true ∧
    c.mode = .standby ∧
    movable (s.transport p).state = true ∧
    (c.tracks = 0 ∨ (s.port p).permission = true) ∧
    (sampleTested (s.tracker p) (s.transport p) = false ∨ (posDiff s.std pos (s.tracker p).position).natAbs ≤ (s.profile p).plausibility * 64) ∧
    (∀ q ∈ (s.transport p).cue, q.requester ≠ .sequencer) ∧
    (s.transport p).motion = none) ∧
  (∃ (s : State) (p : Port) (x : Exchange) (c : Condition) (pos : Nat) (chars : List LineChar),
    s.inReset = false ∧
    PollsShort s ∧
    (s.port p).exchange = some x ∧
    readReply s.std (cmdKind x.cmd) chars = some (c, pos) ∧
    s.holder p ≠ .sequencer ∧
    (s.port p).line = .online ∧
    c.remote = true ∧
    ((s.transport p).state = .waking ∨ (s.transport p).state = .standby) ∧
    c.mode ≠ .noTape ∧
    (∀ o ∈ (s.transport p).condition, o.threaded = c.threaded ∧ o.inhibit = c.inhibit) ∧
    (c.tracks = 0 ∨ (s.port p).permission = true)) :=
  ⟨⟨(asked .p2 held), .p2, ⟨.status, 0⟩, ⟨.halted, false, true, false, true, 0⟩, 640,
     replyChars .f30D .status ⟨.halted, false, true, false, true, 0⟩ 640, by unfold PollsShort; decide +kernel⟩,
   ⟨(((asked .p2 (held.setTransport .p2 { held.transport .p2 with state := .panel }))).setPort .p2 { ((asked .p2 (held.setTransport .p2 { held.transport .p2 with state := .panel }))).port .p2 with line := .panel }),
     .p2, ⟨.status, 0⟩, ⟨.halted, true, true, false, true, 0⟩, 64,
     replyChars .f30D .status ⟨.halted, true, true, false, true, 0⟩ 64, by unfold PollsShort; decide +kernel⟩,
   ⟨(asked .p2 (held.setTransport .p2 { held.transport .p2 with state := .empty })), .p2, ⟨.status, 0⟩,
     ⟨.halted, true, true, false, true, 0⟩, 640, replyChars .f30D .status ⟨.halted, true, true, false, true, 0⟩ 640,
     by unfold PollsShort SlotsRight; decide +kernel⟩,
   ⟨(asked .p2 held), .p2, ⟨.status, 0⟩, ⟨.standby, true, true, false, true, 0⟩, 640,
     replyChars .f30D .status ⟨.standby, true, true, false, true, 0⟩ 640, by unfold PollsShort; decide +kernel⟩,
   ⟨(asked .p2 (held.setTransport .p2 { held.transport .p2 with state := .waking })), .p2, ⟨.status, 0⟩,
     ⟨.halted, true, true, false, true, 0⟩, 640, replyChars .f30D .status ⟨.halted, true, true, false, true, 0⟩ 640,
     by unfold PollsShort; decide +kernel⟩⟩

/-- States and operands that meet the hypotheses of TheSequencerFollowsTheRepliesOfItsDecks, clause by clause. -/
theorem witness_TheSequencerFollowsTheRepliesOfItsDecks :
  (∃ (s : State) (x : Edit) (p : Port) (y : Exchange) (c : Condition) (q : Cue) (pos2 : Nat) (chars : List LineChar),
    s.inReset = false ∧
    liveEdit s = some x ∧
    p ∈ deckPorts x.decks ∧
    s.holder p = .sequencer ∧
    (s.port p).exchange = some y ∧
    readReply s.std (cmdKind y.cmd) chars = some (c, pos2) ∧
    (s.port p).line = .online ∧
    c.remote = true ∧
    (s.transport p).state = .cueing ∧
    (s.transport p).cue = some q ∧
    q.requester = .sequencer ∧
    q.acked = true ∧
    (c.mode = .parked ∨ c.mode = .halted) ∧
    (Int.tdiv (posDiff s.std pos2 q.target) 64).natAbs ≤ (s.profile p).cueTolerance ∧
    (∀ o ∈ (s.transport p).condition, o.threaded = c.threaded ∧ o.inhibit = c.inhibit) ∧
    c.tracks = 0 ∧
    s.seq.phase = .cueing ∧
    (∀ o ∈ (s.transport p).condition, o.tracks = c.tracks)) ∧
  (∃ (s : State) (x : Edit) (p : Port) (y : Exchange) (q : Cue) (pos : Nat) (c : Condition) (chars : List LineChar) (st : EventStatus),
    s.inReset = false ∧
    liveEdit s = some x ∧
    p ∈ deckPorts x.decks ∧
    s.holder p = .sequencer ∧
    (s.port p).exchange = some y ∧
    readReply s.std (cmdKind y.cmd) chars = some (c, pos) ∧
    (s.port p).line = .online ∧
    c.remote = true ∧
    (s.transport p).state = .cueing ∧
    (s.transport p).cue = some q ∧
    q.requester = .sequencer ∧
    q.acked = true ∧
    (c.mode = .parked ∨ c.mode = .halted) ∧
    (s.profile p).cueTolerance < (Int.tdiv (posDiff s.std pos q.target) 64).natAbs ∧
    (s.profile p).cueAttempts ≤ q.attempts ∧
    (∀ o ∈ (s.transport p).condition, o.threaded = c.threaded ∧ o.inhibit = c.inhibit) ∧
    (∀ o ∈ (s.transport p).condition, o.tracks = c.tracks) ∧
    (c.tracks = 0 ∨ (s.port p).permission = true) ∧
    recordMode x.mode = true ∧
    s.seq.phase ≠ .postroll ∧
    st = (if s.seq.phase = .postroll then (if s.seq.slipped then EventStatus.slipped else .done) else if s.seq.engaged then .cut .cue else .failed .cue)) ∧
  (∃ (s : State) (x : Edit) (p : Port) (q : Cue) (st : EventStatus),
    s.inReset = false ∧
    liveEdit s = some x ∧
    p ∈ deckPorts x.decks ∧
    s.holder p = .sequencer ∧
    (s.transport p).state = .cueing ∧
    (s.transport p).cue = some q ∧
    q.requester = .sequencer ∧
    (s.profile p).cueTime * rate s.std ≤ q.elapsed ∧
    recordMode x.mode = true ∧
    s.seq.phase ≠ .postroll ∧
    st = (if s.seq.phase = .postroll then (if s.seq.slipped then EventStatus.slipped else .done) else if s.seq.engaged then .cut .cue else .failed .cue)) ∧
  (∃ (s : State) (x : Edit) (p : Port) (y : Exchange) (st : EventStatus),
    s.inReset = false ∧
    liveEdit s = some x ∧
    p ∈ deckPorts x.decks ∧
    s.holder p = .sequencer ∧
    (s.port p).exchange = some y ∧
    (s.port p).misses = 3 ∧
    (s.port p).line ≠ .offline ∧
    recordMode x.mode = true ∧
    st = (if s.seq.phase = .postroll then (if s.seq.slipped then EventStatus.slipped else .done) else if s.seq.engaged then .cut (if p = x.decks.recorder then FaultClass.recorder else .player) else .failed (if p = x.decks.recorder then FaultClass.recorder else .player))) ∧
  (∃ (s : State) (x : Edit) (p : Port) (y : Exchange) (pos : Nat) (c : Condition) (chars : List LineChar) (st : EventStatus),
    s.inReset = false ∧
    liveEdit s = some x ∧
    p ∈ deckPorts x.decks ∧
    s.holder p = .sequencer ∧
    (s.port p).exchange = some y ∧
    readReply s.std (cmdKind y.cmd) chars = some (c, pos) ∧
    (s.port p).line = .online ∧
    movable (s.transport p).state = true ∧
    (s.transport p).motion = none ∧
    (c.remote = false ∨ c.mode = .noTape ∨ c.mode = .standby ∨ (c.threaded = false ∧ (s.transport p).state ≠ .cueing ∧ ∃ o ∈ (s.transport p).condition, o.threaded = true)) ∧
    recordMode x.mode = true ∧
    st = (if s.seq.phase = .postroll then (if s.seq.slipped then EventStatus.slipped else .done) else if s.seq.engaged then .cut (if p = x.decks.recorder then FaultClass.recorder else .player) else .failed (if p = x.decks.recorder then FaultClass.recorder else .player))) ∧
  (∃ (s : State) (x : Edit) (p : Port) (y : Exchange) (pos : Nat) (c : Condition) (chars : List LineChar) (st : EventStatus),
    s.inReset = false ∧
    liveEdit s = some x ∧
    p ∈ deckPorts x.decks ∧
    s.holder p = .sequencer ∧
    (s.port p).exchange = some y ∧
    readReply s.std (cmdKind y.cmd) chars = some (c, pos) ∧
    (s.port p).line = .online ∧
    c.remote = true ∧
    (s.transport p).state ∈ [.idle, .parked, .rolling] ∧
    c.mode ≠ .noTape ∧
    c.mode ≠ .standby ∧
    p = x.decks.recorder ∧
    c.inhibit = true ∧
    (∃ o ∈ (s.transport p).condition, o.inhibit = false ∧ o.threaded = c.threaded) ∧
    recordMode x.mode = true ∧
    st = (if s.seq.phase = .postroll then (if s.seq.slipped then EventStatus.slipped else .done) else if s.seq.engaged then .cut .recorder else .failed .recorder)) ∧
  (∃ (s : State) (x : Edit) (p : Port) (y : Exchange) (pos : Nat) (c : Condition) (o : Condition) (chars : List LineChar),
    s.inReset = false ∧
    liveEdit s = some x ∧
    p ∈ deckPorts x.decks ∧
    s.holder p = .sequencer ∧
    (s.port p).exchange = some y ∧
    readReply s.std (cmdKind y.cmd) chars = some (c, pos) ∧
    (s.port p).line = .online ∧
    c.remote = true ∧
    (s.transport p).state = .rolling ∧
    c.mode ≠ .noTape ∧
    c.mode ≠ .standby ∧
    p = x.decks.recorder ∧
    (s.transport p).condition = some o ∧
    o.threaded = c.threaded ∧ o.inhibit = c.inhibit ∧
    o.tracks ≠ c.tracks ∧
    recordMode x.mode = true ∧
    s.seq.engaged = true ∧
    s.seq.confirmed = false) ∧
  (∃ (s : State) (x : Edit) (p : Port) (y : Exchange) (pos : Nat) (c : Condition) (o : Condition) (chars : List LineChar) (st : EventStatus),
    s.inReset = false ∧
    liveEdit s = some x ∧
    p ∈ deckPorts x.decks ∧
    s.holder p = .sequencer ∧
    (s.port p).exchange = some y ∧
    readReply s.std (cmdKind y.cmd) chars = some (c, pos) ∧
    (s.port p).line = .online ∧
    c.remote = true ∧
    (s.transport p).state = .rolling ∧
    c.mode ≠ .noTape ∧
    c.mode ≠ .standby ∧
    p = x.decks.recorder ∧
    (s.transport p).condition = some o ∧
    o.threaded = c.threaded ∧ o.inhibit = c.inhibit ∧
    o.tracks ≠ c.tracks ∧
    recordMode x.mode = true ∧
    s.seq.phase ≠ .postroll ∧
    s.seq.engaged = true ∧ s.seq.confirmed = true ∧ s.seq.released = false ∧
    x.event.tracks &&& c.tracks ≠ x.event.tracks ∧
    st = (if s.seq.phase = .postroll then (if s.seq.slipped then EventStatus.slipped else .done) else if s.seq.engaged then .cut .recorder else .failed .recorder)) :=
  ⟨⟨(asked .p2 (cueingTo ⟨.sequencer, 640, 1, true, 5, none⟩ ((editing .cueing .perform ⟨.p1, some .p2, none⟩)))),
     ⟨.perform, event1, ⟨.p1, some .p2, none⟩⟩, .p2, ⟨.status, 0⟩, ⟨.halted, true, true, false, true, 0⟩,
     ⟨.sequencer, 640, 1, true, 5, none⟩, 640, replyChars .f30D .status ⟨.halted, true, true, false, true, 0⟩ 640,
     by decide +kernel⟩,
   ⟨(asked .p2 (cueingTo ⟨.sequencer, 640, 9, true, 5, none⟩ ((editing .cueing .perform ⟨.p1, some .p2, none⟩)))),
     ⟨.perform, event1, ⟨.p1, some .p2, none⟩⟩, .p2, ⟨.status, 0⟩, ⟨.sequencer, 640, 9, true, 5, none⟩, 6400,
     ⟨.halted, true, true, false, true, 0⟩, replyChars .f30D .status ⟨.halted, true, true, false, true, 0⟩ 6400,
     .failed .cue, by decide +kernel⟩,
   ⟨(asked .p2 (cueingTo ⟨.sequencer, 640, 1, true, 99999, none⟩ ((editing .cueing .perform ⟨.p1, some .p2, none⟩)))),
     ⟨.perform, event1, ⟨.p1, some .p2, none⟩⟩, .p2, ⟨.sequencer, 640, 1, true, 99999, none⟩, .failed .cue,
     by decide +kernel⟩,
   ⟨((asked .p2 (editing .cueing .perform ⟨.p1, some .p2, none⟩)).setPort .p2 { (asked .p2 (editing .cueing .perform ⟨.p1, some .p2, none⟩)).port .p2 with misses := 3 }),
     ⟨.perform, event1, ⟨.p1, some .p2, none⟩⟩, .p2, ⟨.status, 0⟩, .failed .player, by decide +kernel⟩,
   ⟨(asked .p2 (editing .cueing .perform ⟨.p1, some .p2, none⟩)), ⟨.perform, event1, ⟨.p1, some .p2, none⟩⟩, .p2,
     ⟨.status, 0⟩, 640, ⟨.standby, true, true, false, true, 0⟩,
     replyChars .f30D .status ⟨.standby, true, true, false, true, 0⟩ 640, .failed .player, by decide +kernel⟩,
   ⟨(asked .p1 (editing .cueing .perform ⟨.p1, some .p2, none⟩)), ⟨.perform, event1, ⟨.p1, some .p2, none⟩⟩, .p1,
     ⟨.status, 0⟩, 640, ⟨.halted, true, true, true, true, 0⟩,
     replyChars .f30D .status ⟨.halted, true, true, true, true, 0⟩ 640, .failed .recorder, by decide +kernel⟩,
   ⟨((fun (s : State) => asked .p1 (s.setTransport .p1 { s.transport .p1 with state := .rolling, condition := some ⟨.halted, true, true, false, true, 0⟩ })) { (editing .edit .perform ⟨.p1, some .p2, none⟩) with seq := { (editing .edit .perform ⟨.p1, some .p2, none⟩).seq with engaged := true } }),
     ⟨.perform, event1, ⟨.p1, some .p2, none⟩⟩, .p1, ⟨.status, 0⟩, 640, ⟨.halted, true, true, false, true, 1⟩,
     ⟨.halted, true, true, false, true, 0⟩, replyChars .f30D .status ⟨.halted, true, true, false, true, 1⟩ 640,
     by decide +kernel⟩,
   ⟨((fun (s : State) => asked .p1 (s.setTransport .p1 { s.transport .p1 with state := .rolling, condition := some ⟨.halted, true, true, false, true, 1⟩ })) { (editing .edit .perform ⟨.p1, some .p2, none⟩) with seq := { (editing .edit .perform ⟨.p1, some .p2, none⟩).seq with engaged := true, confirmed := true } }),
     ⟨.perform, event1, ⟨.p1, some .p2, none⟩⟩, .p1, ⟨.status, 0⟩, 640, ⟨.halted, true, true, false, true, 0⟩,
     ⟨.halted, true, true, false, true, 1⟩, replyChars .f30D .status ⟨.halted, true, true, false, true, 0⟩ 640,
     .cut .recorder, by decide +kernel⟩⟩

/-- States and operands that meet the hypotheses of TheMomentsOfAnEdit, clause by clause. -/
theorem witness_TheMomentsOfAnEdit :
  (∃ (s : State) (x : Edit),
    liveEdit s = some x ∧
    s.seq.phase = .preroll ∧
    x.mode ≠ .review ∧
    reached x s ((x.event.recIn : Int) - ((s.profile x.decks.recorder).engageLead : Int)) = true ∧
    ¬((∀ q ∈ players x.decks, ∃ r ∈ s.chase q, r.state = .locked) ∧ ∃ o ∈ (s.transport x.decks.recorder).condition, o.servo = true) ∧
    recordMode x.mode = true) ∧
  (∃ (s : State) (x : Edit),
    liveEdit s = some x ∧
    s.seq.phase = .preroll ∧
    x.mode ≠ .review ∧
    reached x s ((x.event.recIn : Int) - ((s.profile x.decks.recorder).engageLead : Int)) = true ∧
    ((∀ q ∈ players x.decks, ∃ r ∈ s.chase q, r.state = .locked) ∧ ∃ o ∈ (s.transport x.decks.recorder).condition, o.servo = true) ∧
    ¬(s.live.system.windowStart ≤ x.event.recIn ∧ x.event.recOut ≤ s.live.system.windowStart + s.live.system.windowLength) ∧
    recordMode x.mode = true) ∧
  (∃ (s : State) (x : Edit),
    liveEdit s = some x ∧
    s.seq.phase = .preroll ∧
    x.mode ≠ .review ∧
    reached x s ((x.event.recIn : Int) - ((s.profile x.decks.recorder).engageLead : Int)) = true ∧
    s.seq.recordInFrame = none ∧
    s.seq.deadlineTaken = false ∧
    ((∀ q ∈ players x.decks, ∃ r ∈ s.chase q, r.state = .locked) ∧ ∃ o ∈ (s.transport x.decks.recorder).condition, o.servo = true) ∧
    (recordMode x.mode = true → s.live.system.windowStart ≤ x.event.recIn ∧ x.event.recOut ≤ s.live.system.windowStart + s.live.system.windowLength) ∧
    reached x s ((x.event.recIn : Int)) = false ∧
    reached x s ((x.event.recIn : Int) + 2) = false) ∧
  (∃ (s : State) (x : Edit),
    liveEdit s = some x ∧
    s.seq.phase = .edit ∧
    x.mode ≠ .review ∧
    s.seq.recordInFrame = none ∧
    reached x s ((x.event.recIn : Int)) = true ∧
    reached x s ((x.event.recIn : Int) + 2) = false ∧
    reached x s ((x.event.recOut : Int) - (if x.mode = .review then 0 else ((s.profile x.decks.recorder).releaseLead : Int))) = false ∧
    (∀ f ∈ s.seq.engageFrame, s.frame < f + (s.profile x.decks.recorder).engageLead + (x.event.recOut - x.event.recIn) + rate s.std)) ∧
  (∃ (s : State) (x : Edit),
    liveEdit s = some x ∧
    s.seq.phase = .preroll ∧
    x.mode = .review ∧
    s.seq.recordInFrame = none ∧
    reached x s ((x.event.recIn : Int)) = true) ∧
  (∃ (s : State) (x : Edit),
    liveEdit s = some x ∧
    s.seq.phase = .edit ∧
    recordMode x.mode = true ∧
    s.seq.recordInFrame ≠ none ∧
    s.seq.deadlineTaken = false ∧
    reached x s ((x.event.recIn : Int) + 2) = true ∧
    s.seq.confirmed = true ∧
    reached x s ((x.event.recOut : Int) - (if x.mode = .review then 0 else ((s.profile x.decks.recorder).releaseLead : Int))) = false ∧
    (∀ f ∈ s.seq.engageFrame, s.frame < f + (s.profile x.decks.recorder).engageLead + (x.event.recOut - x.event.recIn) + rate s.std)) ∧
  (∃ (s : State) (x : Edit),
    liveEdit s = some x ∧
    s.seq.phase = .edit ∧
    recordMode x.mode = true ∧
    s.seq.recordInFrame ≠ none ∧
    s.seq.deadlineTaken = false ∧
    reached x s ((x.event.recIn : Int) + 2) = true ∧
    s.seq.confirmed = false) ∧
  (∃ (s : State) (x : Edit),
    liveEdit s = some x ∧
    s.seq.phase = .edit ∧
    (s.seq.recordInFrame ≠ none ∨ reached x s ((x.event.recIn : Int)) = false) ∧
    (s.seq.deadlineTaken = true ∨ reached x s ((x.event.recIn : Int) + 2) = false ∨ x.mode = .preview ∨ x.mode = .review) ∧
    (∃ f ∈ (if x.mode = .review then s.seq.recordInFrame else s.seq.engageFrame), f < s.frame) ∧
    reached x s ((x.event.recOut : Int) - (if x.mode = .review then 0 else ((s.profile x.decks.recorder).releaseLead : Int))) = true ∧
    (recordMode x.mode = true → s.seq.confirmed = true)) ∧
  (∃ (s : State) (x : Edit),
    liveEdit s = some x ∧
    s.seq.phase = .edit ∧
    recordMode x.mode = true ∧
    (s.seq.recordInFrame ≠ none ∨ reached x s ((x.event.recIn : Int)) = false) ∧
    (s.seq.deadlineTaken = true ∨ reached x s ((x.event.recIn : Int) + 2) = false) ∧
    (∃ f ∈ s.seq.engageFrame, f < s.frame) ∧
    reached x s ((x.event.recOut : Int) - (if x.mode = .review then 0 else ((s.profile x.decks.recorder).releaseLead : Int))) = true ∧
    s.seq.confirmed = false) ∧
  (∃ (s : State) (x : Edit),
    liveEdit s = some x ∧
    s.seq.phase = .preroll ∧
    x.mode ≠ .review ∧
    reached x s ((x.event.recIn : Int) - ((s.profile x.decks.recorder).engageLead : Int)) = true ∧
    ¬((∀ q ∈ players x.decks, ∃ r ∈ s.chase q, r.state = .locked) ∧ ∃ o ∈ (s.transport x.decks.recorder).condition, o.servo = true) ∧
    x.mode = .preview) ∧
  (∃ (s : State) (x : Edit) (_r : ChaseReport),
    liveEdit s = some x) ∧
  (∃ (s : State) (_r : ChaseReport),
    SequencerWhole s ∧
    liveEdit s = none) :=
  ⟨⟨(recorderAt 98 (editing .preroll .perform ⟨.p1, some .p2, none⟩)), ⟨.perform, event1, ⟨.p1, some .p2, none⟩⟩,
     by decide +kernel⟩,
   ⟨(fun (s : State) => { s with live := { s.live with system := { s.live.system with windowLength := 5 } } }) (synchronous (recorderAt 98 (editing .preroll .perform ⟨.p1, some .p2, none⟩))),
     ⟨.perform, event1, ⟨.p1, some .p2, none⟩⟩, by decide +kernel⟩,
   ⟨(synchronous (recorderAt 98 (editing .preroll .perform ⟨.p1, some .p2, none⟩))),
     ⟨.perform, event1, ⟨.p1, some .p2, none⟩⟩, by decide +kernel⟩,
   ⟨(recorderAt 100 (editing .edit .perform ⟨.p1, some .p2, none⟩)), ⟨.perform, event1, ⟨.p1, some .p2, none⟩⟩,
     by decide +kernel⟩,
   ⟨(recorderAt 100 (editing .preroll .review ⟨.p1, none, none⟩)), ⟨.review, event1, ⟨.p1, none, none⟩⟩,
     by decide +kernel⟩,
   ⟨(recorderAt 102 { (editing .edit .perform ⟨.p1, some .p2, none⟩) with frame := 5, seq := { (editing .edit .perform ⟨.p1, some .p2, none⟩).seq with recordInFrame := some 3, engaged := true, confirmed := true } }),
     ⟨.perform, event1, ⟨.p1, some .p2, none⟩⟩, by decide +kernel⟩,
   ⟨(recorderAt 102 { (editing .edit .perform ⟨.p1, some .p2, none⟩) with frame := 5, seq := { (editing .edit .perform ⟨.p1, some .p2, none⟩).seq with recordInFrame := some 3, engaged := true } }),
     ⟨.perform, event1, ⟨.p1, some .p2, none⟩⟩, by decide +kernel⟩,
   ⟨(recorderAt 101 { (editing .edit .perform ⟨.p1, some .p2, none⟩) with frame := 5, seq := { (editing .edit .perform ⟨.p1, some .p2, none⟩).seq with recordInFrame := some 3, engageFrame := some 1, engaged := true, confirmed := true, copy := some { event1 with recOut := 101 } } }),
     ⟨.perform, { event1 with recOut := 101 }, ⟨.p1, some .p2, none⟩⟩, by decide +kernel⟩,
   ⟨(recorderAt 101 { (editing .edit .perform ⟨.p1, some .p2, none⟩) with frame := 5, seq := { (editing .edit .perform ⟨.p1, some .p2, none⟩).seq with recordInFrame := some 3, engageFrame := some 1, engaged := true, copy := some { event1 with recOut := 101 } } }),
     ⟨.perform, { event1 with recOut := 101 }, ⟨.p1, some .p2, none⟩⟩, by decide +kernel⟩,
   ⟨(recorderAt 98 (editing .preroll .preview ⟨.p1, some .p2, none⟩)), ⟨.preview, event1, ⟨.p1, some .p2, none⟩⟩,
     by decide +kernel⟩,
   ⟨(editing .edit .perform ⟨.p1, some .p2, none⟩), ⟨.perform, event1, ⟨.p1, some .p2, none⟩⟩, .lost,
     by decide +kernel⟩,
   ⟨up, .lost, by unfold SequencerWhole editDecks; decide +kernel⟩⟩

/-- States and operands that meet the hypotheses of AManualChaserFollowsItsMastersCondition, clause by clause. -/
theorem witness_AManualChaserFollowsItsMastersCondition :
  (∃ (s : State) (p : Port) (c : Chase) (x : Nat),
    s.chase p = some c ∧
    c.kind = .manual ∧
    s.holder p = .console ∧
    movable (s.transport p).state = true ∧
    x = chaseTarget s.std c (s.tracker c.master).position ∧
    masterCondition s c.master = .unavailable) ∧
  (∃ (s : State) (p : Port) (c : Chase) (x : Nat),
    s.chase p = some c ∧
    c.kind = .manual ∧
    s.holder p = .console ∧
    movable (s.transport p).state = true ∧
    x = chaseTarget s.std c (s.tracker c.master).position ∧
    masterCondition s c.master = .stopped ∧
    (∃ q ∈ c.cuePoint, (posDiff s.std x q).natAbs ≤ (s.profile p).cueTolerance * 64)) ∧
  (∃ (s : State) (p : Port) (c : Chase) (x : Nat),
    s.chase p = some c ∧
    c.kind = .manual ∧
    s.holder p = .console ∧
    movable (s.transport p).state = true ∧
    x = chaseTarget s.std c (s.tracker c.master).position ∧
    masterCondition s c.master = .stopped ∧
    (∀ q ∈ c.cuePoint, (s.profile p).cueTolerance * 64 < (posDiff s.std x q).natAbs)) ∧
  (∃ (s : State) (p : Port) (c : Chase) (x : Nat) (e : Int),
    s.chase p = some c ∧
    c.kind = .manual ∧
    s.holder p = .console ∧
    movable (s.transport p).state = true ∧
    x = chaseTarget s.std c (s.tracker c.master).position ∧
    masterCondition s c.master = .running ∧
    c.state = .parked ∧
    e = posDiff s.std x (s.tracker p).position ∧
    (s.profile p).captureWindow * 64 < e.natAbs) ∧
  (∃ (s : State) (p : Port) (c : Chase) (x : Nat) (e : Int),
    s.chase p = some c ∧
    c.kind = .manual ∧
    s.holder p = .console ∧
    movable (s.transport p).state = true ∧
    x = chaseTarget s.std c (s.tracker c.master).position ∧
    masterCondition s c.master = .running ∧
    c.state = .parked ∧
    e = posDiff s.std x (s.tracker p).position ∧
    e.natAbs ≤ (s.profile p).captureWindow * 64 ∧
    ((s.transport p).state = .rolling → (s.transport p).cue = none)) ∧
  (∃ (s : State) (p : Port) (c : Chase) (x : Nat),
    s.chase p = some c ∧
    c.kind = .manual ∧
    s.holder p = .console ∧
    movable (s.transport p).state = true ∧
    x = chaseTarget s.std c (s.tracker c.master).position ∧
    masterCondition s c.master = .running ∧
    c.state = .seeking) ∧
  (∃ (s : State) (p : Port) (c : Chase) (x : Nat) (w : Int),
    s.chase p = some c ∧
    c.kind = .manual ∧
    s.holder p = .console ∧
    movable (s.transport p).state = true ∧
    x = chaseTarget s.std c (s.tracker c.master).position ∧
    masterCondition s c.master = .running ∧
    c.state = .waiting ∧
    w = posDiff s.std (s.tracker p).position x ∧
    (w < 0 ∨ 3 * rate s.std * 64 < w)) ∧
  (∃ (s : State) (p : Port) (c : Chase) (x : Nat) (w : Int),
    s.chase p = some c ∧
    c.kind = .manual ∧
    s.holder p = .console ∧
    movable (s.transport p).state = true ∧
    x = chaseTarget s.std c (s.tracker c.master).position ∧
    masterCondition s c.master = .running ∧
    c.state = .waiting ∧
    w = posDiff s.std (s.tracker p).position x ∧
    0 ≤ w ∧ w ≤ 3 * rate s.std * 64) ∧
  (∃ (s : State) (p : Port) (c : Chase) (x : Nat),
    s.chase p = some c ∧
    c.kind = .manual ∧
    s.holder p = .console ∧
    movable (s.transport p).state = true ∧
    x = chaseTarget s.std c (s.tracker c.master).position ∧
    masterCondition s c.master = .running ∧
    (c.state = .capturing ∨ c.state = .locked) ∧
    ((s.transport p).state = .idle ∨ (s.transport p).state = .parked)) ∧
  (∃ (s : State) (p : Port) (c : Chase) (x : Nat) (e : Int),
    s.chase p = some c ∧
    c.kind = .manual ∧
    s.holder p = .console ∧
    movable (s.transport p).state = true ∧
    x = chaseTarget s.std c (s.tracker c.master).position ∧
    masterCondition s c.master = .running ∧
    c.state = .capturing ∧
    (s.transport p).state = .rolling ∧
    (s.tracker p).settle = 0 ∧ (s.tracker p).age < 8 ∧ (s.tracker c.master).age < 8 ∧
    e = posDiff s.std x (s.tracker p).position ∧
    (s.profile p).captureWindow * 64 < e.natAbs ∧
    (s.profile p).lockWindow < e.natAbs ∧ 1 ≤ (s.profile p).lockCount) ∧
  (∃ (s : State) (p : Port) (c : Chase) (x : Nat),
    s.chase p = some c ∧
    c.kind = .manual ∧
    ((s.transport p).state = .waking ∨ (s.transport p).state = .offline) ∧
    x = chaseTarget s.std c (s.tracker c.master).position) :=
  ⟨⟨(chasing { manualChase .f30D .p3 0 with state := .locked } .winding .winding 0), .p2,
     { manualChase .f30D .p3 0 with state := .locked }, 0, by decide +kernel⟩,
   ⟨(chasing { manualChase .f30D .p3 0 with state := .parked, cuePoint := some 0 } .idle .halted 0), .p2,
     { manualChase .f30D .p3 0 with state := .parked, cuePoint := some 0 }, 0, by decide +kernel⟩,
   ⟨(chasing { manualChase .f30D .p3 0 with state := .parked } .idle .halted 0), .p2,
     { manualChase .f30D .p3 0 with state := .parked }, 0, by decide +kernel⟩,
   ⟨(((chasing { manualChase .f30D .p3 0 with state := .parked } .rolling .moving 1024)).setTracker .p2 { following.tracker .p2 with position := 1000000 }),
     .p2, { manualChase .f30D .p3 0 with state := .parked }, 0, -1000000, by decide +kernel⟩,
   ⟨(chasing { manualChase .f30D .p3 0 with state := .parked } .rolling .moving 1024), .p2,
     { manualChase .f30D .p3 0 with state := .parked }, 0, 0, by decide +kernel⟩,
   ⟨(chasing { manualChase .f30D .p3 0 with state := .seeking } .rolling .moving 1024), .p2,
     { manualChase .f30D .p3 0 with state := .seeking }, 0, by decide +kernel⟩,
   ⟨(((chasing { manualChase .f30D .p3 0 with state := .waiting } .rolling .moving 1024)).setTracker .p2 { following.tracker .p2 with position := 1000000 }),
     .p2, { manualChase .f30D .p3 0 with state := .waiting }, 0, 1000000, by decide +kernel⟩,
   ⟨(((chasing { manualChase .f30D .p3 0 with state := .waiting } .rolling .moving 1024)).setTracker .p2 { following.tracker .p2 with position := 64 }),
     .p2, { manualChase .f30D .p3 0 with state := .waiting }, 0, 64, by decide +kernel⟩,
   ⟨(chasing { manualChase .f30D .p3 0 with state := .locked } .rolling .moving 1024), .p2,
     { manualChase .f30D .p3 0 with state := .locked }, 0, by decide +kernel⟩,
   ⟨(((((chasing { manualChase .f30D .p3 0 with state := .capturing } .rolling .moving 1024)).setTracker .p2 { following.tracker .p2 with position := 1000000 })).setTransport .p2 { held.transport .p2 with state := .rolling }),
     .p2, { manualChase .f30D .p3 0 with state := .capturing }, 0, -1000000, by decide +kernel⟩,
   ⟨(((chasing { manualChase .f30D .p3 0 with state := .parked } .rolling .moving 1024)).setTransport .p2 { held.transport .p2 with state := .waking }),
     .p2, { manualChase .f30D .p3 0 with state := .parked }, 0, by decide +kernel⟩⟩

/-- A queue with a command at its front. -/
theorem witness_StepTakesTheFrontCommand : ∃ (s : State) (c : Instr) (rest : List Instr), s.pending = c :: rest :=
  ⟨{ base with pending := [.selectAsserted, .fetch 1] }, .selectAsserted, [.fetch 1], rfl⟩

/-- The state after a step. -/
def next (s : State) : State :=
  match step s with
  | .next t => t
  | _ => s

/-- What a command leaves, as the only one of the queue. -/
def after (c : Instr) (s : State) : State := next { s with pending := [c] }

/-- A step that takes a field pulse answers next. -/
theorem step_fieldPulse {s : State} {a : Nat} {b c : Bool} {rest : List Instr}
    (h : s.pending = .fieldPulse a b c :: rest) : step s = .next (next s) := by
  unfold next step
  rw [h]
  rfl

/-- Event 1 in PREROLL, its player locked, its recorder one frame before the engage moment, and the field pulse that
brings that moment at the front of the queue. -/
def engaging : State :=
  let s := editing .preroll .perform ⟨.p1, some .p2, none⟩
  { s with
    pending := [.fieldPulse 20020 true false, .statusWrite]
    transports := s.transports.mapAll (fun _ t => { t with state := .rolling, speed := 1024, lastKind := some .play })
    trackers := ⟨{ Tracker.initial with known := true, age := 0, position := 97 * 64 },
      { Tracker.initial with known := true, age := 0, position := 497 * 64 }, .initial, .initial, .initial, .initial⟩
    chases := (PerPort.const none).set .p2 (some {
      kind := .sequencer, master := .p1, masterAnchor := 100 * 64, chaserAnchor := 500 * 64, rate := 1024
      state := .locked, lockRun := 10, outOfCapture := false, cuePoint := none, lastTarget := none, lastError := none })
    notices := [.lock .p2 true, .rippleEnd]
    snapshot := some .defaults }

/-- A state that meets every invariant, with a step that answers next: the hypotheses of the statements that a step
keeps NoticesOrdered, PollsShort, ResetStill, SequencerWhole, TransportsAgree and CommandsRight, PositionsOnDay,
ListRight, HeldWorked, ReelsRight, SettingsRight and OutputsRight. -/
theorem witness_EveryInvariant : ∃ s t : State, step s = .next t ∧
    (NoticesOrdered s ∧ PollsShort s ∧ ResetStill s ∧ SequencerWhole s) ∧
    (TransportsAgree s ∧ CommandsRight s) ∧ PositionsOnDay s ∧ ListRight s.std s.list ∧ (HeldWorked s ∧ ReelsRight s) ∧
    (SettingsRight s.live ∧ ∀ x ∈ s.snapshot, SettingsRight x) ∧ OutputsRight s := by
  refine ⟨engaging, next engaging, step_fieldPulse (rest := [.statusWrite]) rfl, ⟨?_, ?_, ?_, ?_⟩, ⟨?_, ?_⟩, ?_, ?_, ⟨?_, ?_⟩, ⟨?_, ?_⟩, ?_⟩
  · unfold NoticesOrdered; decide +kernel
  · unfold PollsShort; decide +kernel
  · unfold ResetStill; decide +kernel
  · unfold SequencerWhole editDecks; decide +kernel
  · unfold TransportsAgree TransportAgrees; decide +kernel
  · unfold CommandsRight SlotsRight NoMotionWaits; decide +kernel
  · have h : ∀ n ∈ engaging.notices, NoticeOnDay engaging.std n := by
      have : engaging.notices = [.lock .p2 true, .rippleEnd] := by decide +kernel
      simp [this, NoticeOnDay]
    refine ⟨?_, ?_, ?_, ?_, h⟩
    · unfold PortOnDay OnDay; decide +kernel
    · decide +kernel
    · unfold CuePointsOnDay OnDay; decide +kernel
    · decide +kernel
  · unfold ListRight RangeRight FieldsRight SourceRight TriggerRight RippleRight; decide +kernel
  · unfold HeldWorked; decide +kernel
  · unfold ReelsRight; decide +kernel
  · unfold SettingsRight SystemRight ProfileRight; decide +kernel
  · unfold SettingsRight SystemRight ProfileRight; decide +kernel
  · unfold OutputsRight; decide +kernel

/-- A step that hands ENGAGE where none was pending, for EngageIsHandedOnlyByARecordingEditInItsWindow. -/
theorem witness_EngageIsHandedOnlyByARecordingEditInItsWindow : ∃ (s t : State) (p : Port) (tracks : TrackSet),
    SequencerWhole s ∧ ResetStill s ∧ step s = .next t ∧ DeckCmd.engage tracks ∈ (t.port p).commands ∧
    ∀ other, DeckCmd.engage other ∉ (s.port p).commands := by
  refine ⟨engaging, next engaging, .p1, 1, ?_, ?_, step_fieldPulse (rest := [.statusWrite]) rfl, ?_, ?_⟩
  · unfold SequencerWhole editDecks; decide +kernel
  · unfold ResetStill; decide +kernel
  · decide +kernel
  · intro other
    have : (engaging.port .p1).commands = [] := by decide +kernel
    simp [this]

/-- A key that stays held over a step, for HeldEventIsFrozen. -/
theorem witness_HeldEventIsFrozen : engaging.seq.heldKey = some 1 ∧ (next engaging).seq.heldKey = some 1 := by
  decide +kernel

/-- A request that spells a transfer, for EveryRequestTransferSpellsItsCommand. -/
theorem witness_EveryRequestTransferSpellsItsCommand :
    (Instr.readByKey [0, 7]).wf = true ∧ transferOf (.readByKey [0, 7]) = some [0x02, 0, 7] := by decide +kernel

/-- Settings in their ranges, for AStoredImageLoadsTheSameSettings. -/
theorem witness_AStoredImageLoadsTheSameSettings : SettingsRight .defaults := by
  unfold SettingsRight SystemRight ProfileRight; decide +kernel

/-! ## WellFormed refuses what the pins and lines cannot present -/

/-- A settings load reads bytes 0 to 153. -/
theorem test_wf_settings_load :
    (Instr.settingsLoadEnd (some (List.replicate 153 0)) 0).wf = false ∧
    (Instr.settingsLoadEnd (some (List.replicate 154 0)) 0).wf = true := by decide +kernel

/-- A reply has ten characters. -/
theorem test_wf_deck_reply : (Instr.deckReply .p1 (List.replicate 9 ⟨0, false⟩)).wf = false := by decide +kernel

/-- A sample is a position of some day. -/
theorem test_wf_sample_jump :
    (Instr.sampleJump .p1 165888000).wf = false ∧ (Instr.sampleJump .p1 165887999).wf = true := by decide +kernel

/-- A fetch clocks at least the byte that names it. -/
theorem test_wf_fetch : (Instr.fetch 0).wf = false := by decide +kernel

/-- An unknown request has no code of a request and not that of FETCH. -/
theorem test_wf_unknown_request :
    (Instr.unknownRequest 0x2C []).wf = false ∧ (Instr.unknownRequest 0x80 []).wf = false ∧
    (Instr.unknownRequest 0x2D []).wf = true ∧ (Instr.unknownRequest 0 []).wf = true := by decide +kernel

/-- A store stops inside the 153 bytes it writes. -/
theorem test_wf_store_end : (Instr.storeEnd (some (.body 153))).wf = false := by decide +kernel

/-! ## The manual's worked values -/

/-- Section 1.4: 01:23:45:12 under the three standards, and back. -/
theorem test_labels :
    frameOf .f30D ⟨1, 23, 45, 12⟩ = 150612 ∧ frameOf .f30N ⟨1, 23, 45, 12⟩ = 150762 ∧
    frameOf .f25 ⟨1, 23, 45, 12⟩ = 125637 ∧ labelOf .f30D 150612 = ⟨1, 23, 45, 12⟩ ∧
    frameOf .f30D ⟨0, 10, 0, 0⟩ = 17982 ∧ frameOf .f30D ⟨24, 0, 0, 0⟩ = 2589408 := by decide +kernel

/-- R4: both labels left out in minute 1 are taken as ff 2; the one of minute 10 is taken unchanged. -/
theorem test_left_out_labels :
    readLabel .f30D false ⟨0, 1, 0, 0⟩ = readLabel .f30D false ⟨0, 1, 0, 1⟩ ∧
    readLabel .f30D false ⟨0, 1, 0, 0⟩ = some (frameOf .f30D ⟨0, 1, 0, 2⟩, true) ∧
    readLabel .f30D false ⟨0, 10, 0, 0⟩ = some (17982, false) := by decide +kernel

/-- R9: two seconds past 23:59:58;00 and back. -/
theorem test_positions_wrap :
    posAdd .f30D 165718272 7680 = 3840 ∧ posAdd .f30D 3840 (-7680) = 165718272 := by decide +kernel

/-- Section 7.3.1: a deck at speed 1049 over four frames. -/
theorem test_prediction :
    advanceBy .f30D 1049 6400000 0 = (6400065, 9) ∧ advanceBy .f30D 1049 6400070 0 = (6400135, 9) ∧
    advanceBy .f30D 1049 6400135 9 = (6400201, 2) ∧ advanceBy .f30D 1049 6400201 2 = (6400266, 11) := by decide +kernel

/-- Section 7.5.1: targets with chase rate 512, and corrections with gain 16 and limit 64. -/
theorem test_chase_figures :
    (let c : Chase := { manualChase .f30D .p2 0 with rate := 512, masterAnchor := 6400, chaserAnchor := 6400 }
     chaseTarget .f30D c 7400 = 6900 ∧ chaseTarget .f30D c 6099 = 6249 ∧ chaseTarget .f30D c 6100 = 6250) ∧
    [100, -300, 5, -5, -3].map (chaseSpeed .defaults 1024) = [1049, 960, 1025, 1023, 1024] ∧
    [100, -300, 5, -5, -3].map (chaseSpeed .defaults 512) = [537, 448, 513, 511, 512] := by decide +kernel

/-- Section 8.8.1: the cue points of a dissolve, the preroll taken whole. -/
theorem test_cue_points :
    cuePointsFor .f30D ⟨.p1, some .p3, some .p2⟩
      { event2 with recIn := 150612, recOut := 150912, toSrc := ⟨2, 200000⟩, transition := .dissolve ⟨1, 100000⟩ 15 } 150 =
      ⟨9629568, some 12790400, some 6390400⟩ := by decide +kernel

/-- R174 and section 10.2.1: the coefficients of ramps of 1 and 15 frames. -/
theorem test_ramp :
    rampCoef 1 1 = 512 ∧ rampCoef 1 2 = 1023 ∧
    [1, 2, 11, 12, 15, 21, 22, 30].map (rampCoef 15) = [34, 68, 375, 409, 512, 716, 750, 1023] := by decide +kernel

/-- R39: with rate 768 a trim of record in by -3 and then +3 moves the to-source in by -2 and back. -/
theorem test_trim_truncates :
    (trimEvent .f30D 0 (-3) { event1 with rate := some 768 }).toSrc.start = 498 ∧
    (trimEvent .f30D 0 3 (trimEvent .f30D 0 (-3) { event1 with rate := some 768 })).toSrc.start = 500 := by decide +kernel

/-- R73: an unlock window of 20 below a lock window of 30 is raised to it. -/
theorem test_profile_raised :
    (clampProfile { Profile.defaults with lockWindow := 30, unlockWindow := 20 }).unlockWindow = 30 := by decide +kernel

/-- R59 and R197: the frames of STATUS and of a SEEK to 00:10:00;00, with their check bytes. -/
theorem test_command_frames :
    cmdFrame .f30D .status = [0x20, 0x20] ∧
    cmdFrame .f30D (.seek 1150848) = [0x25, 0x00, 0x10, 0x00, 0x00, 0x00, 0x35] := by decide +kernel

/-- R60: a reply of section 5.9 written out, 00:09:59;26 phase 40 in PARKED; with a wrong check byte it is a miss. -/
def parkedReply (check : Byte) : List LineChar :=
  [0x20, 4, 0x0B, 0, 0x00, 0x09, 0x59, 0x26, 40, check].map (fun b => ⟨b, false⟩)

/-- The reply reads as position 1,150,632. -/
theorem test_reply :
    readReply .f30D .status (parkedReply 0xDF) = some (⟨.parked, true, true, false, true, 0⟩, 1150632) ∧
    readReply .f30D .status (parkedReply 0xDE) = none := by decide +kernel

/-! ## Single steps -/

/-- SELECT_ASSERTED and FETCH (R187, R189): the link byte has working in bit 0, ready in bit 1, notice in bit 2. -/
theorem test_fetch :
    (after (.fetch 7) (after .selectAsserted { base with
      notices := [.rippleEnd], link := { base.link with answer := some (deny 0x04 .badFrame) } })).link.shifted
      = [6, 0x04, 4, 10, 0, 0, 0] := by decide +kernel

/-- A request transfer is told by its first byte (R187, R188). -/
theorem test_transfers :
    commandOfTransfer [0x0D, 2, 0, 10, 0, 0] = some (.cue [2, 0, 10, 0, 0]) ∧
    commandOfTransfer [0x80, 0, 0] = some (.fetch 3) ∧ commandOfTransfer [0x2D] = some (.unknownRequest 0x2D []) := by
  decide +kernel

/-- SETTINGS_LOAD_END with an absent memory (R195): defaults, and the notice that says so. -/
theorem test_load_absent :
    (after (.settingsLoadEnd none 0) State.reset).notices = [.settings .defaults] ∧
    (after (.settingsLoadEnd none 0) State.reset).inReset = false := by decide +kernel

/-- Section 5.9: a CUE to a deck in STANDBY begins a wake. -/
theorem test_cue_from_standby :
    (let s := up.setTransport .p2 { up.transport .p2 with state := .standby }
     let t := after (.cue [2, 0, 10, 0, 0]) (s.setHolder .p2 .console)
     (t.transport .p2).state = .waking ∧ (t.transport .p2).wakeCount = 50 ∧
       (t.transport .p2).motion = some ⟨.console, .cue 1150848 0⟩ ∧ (t.port .p2).commands = [.wake]) := by decide +kernel

/-- Port 2 cueing to 00:10:00;00, its SEEK acknowledged, with a STATUS in flight. -/
def cueing : State :=
  let s := up.setTransport .p2 { up.transport .p2 with
    state := .cueing, lastKind := some .seek, cue := some ⟨.console, 1150848, 1, true, 190, none⟩ }
  (s.setPort .p2 { s.port .p2 with exchange := some ⟨.status, 0⟩ }).setHolder .p2 .console

/-- Section 5.9, frame 5,190: three frames short, a second SEEK. -/
theorem test_verify_fails :
    ((after (.deckReply .p2 (parkedReply 0xDF)) cueing).transport .p2).cue
      = some ⟨.console, 1150848, 2, false, 190, some 17978⟩ ∧
    ((after (.deckReply .p2 (parkedReply 0xDF)) cueing).port .p2).commands = [.seek 1150848] := by decide +kernel

/-- Section 5.9, frame 5,230: 12 steps past the target, parked. -/
theorem test_verify_passes :
    (let t := after (.deckReply .p2 ([0x20, 4, 0x0B, 0, 0x00, 0x10, 0x00, 0x00, 12, 0x4B].map (fun b => ⟨b, false⟩))) cueing
     (t.transport .p2).state = .parked ∧
       Notice.cueEnd .p2 ⟨.parked, .console, 1, some 17982⟩ ∈ t.notices) := by decide +kernel

/-- The list of section 2.7.1. -/
def example27 : State :=
  let cutEvent (k : Nat) (tracks : TrackSet) (a b : Nat) : Event :=
    { event1 with key := k, tracks := tracks, recIn := a, recOut := b }
  { listed with
    list := {
      events := [cutEvent 1 3 107892 108192, cutEvent 3 4 108042 108342, cutEvent 2 3 108192 108642]
      keyCounter := 4, ripple := none } }

/-- The INSERT of section 2.7.2 on a set of tracks: 01:00:08;00 to 01:00:12;00, reel 1. -/
def insert27 (tracks : Byte) : Instr :=
  .insert ([0, 0, 0, tracks, 0, 1, 0, 8, 0, 1, 0, 12, 0, 1, 0, 0, 0, 0] ++ List.replicate 15 0 ++ [0])

/-- Section 2.7.2: on A1 it overlaps event 1. -/
theorem test_insert_overlap :
    (after (insert27 2) example27).link.answer = some (deny 0x05 .overlap) ∧
    (after (insert27 2) example27).list = example27.list := by decide +kernel

/-- Section 2.7.2: on A3 it becomes key 4 at position 3. -/
theorem test_insert :
    (after (insert27 8) example27).list.events.map Event.key = [1, 3, 4, 2] ∧
    (after (insert27 8) example27).list.keyCounter = 5 := by decide +kernel

/-- R64: the fourth miss in a row takes the port OFFLINE. -/
theorem test_fourth_miss :
    (let s := up.setPort .p4 { up.port .p4 with misses := 3, exchange := some ⟨.status, 0⟩ }
     ((after (.replyTimeout .p4) s).port .p4).line = .offline) := by decide +kernel

/-- R142, R143: the engage moment hands ENGAGE with the event's tracks and begins EDIT. -/
theorem test_engage :
    ((next engaging).port .p1).commands = [.engage 1] ∧ (next engaging).seq.phase = .edit := by decide +kernel

/-- R4 and R197: of the labels of a request the one left out comes back as the label used, the others as absent. -/
theorem test_label_used :
    bUsedLabels .f30D [some ⟨0, 10, 0, 0⟩, some ⟨0, 1, 0, 1⟩, none] = [0, 0, 0, 0, 0, 1, 0, 1, 0, 2, 0, 0, 0, 0, 0] := by decide +kernel

/-- R69: tracks shown by the reply to a DISENGAGE hand no second one. -/
theorem test_disengage_in_flight :
    (let s := (asked .p2 up).setPort .p2 { (asked .p2 up).port .p2 with exchange := some ⟨.disengage, 0⟩ }
     ((after (.deckReply .p2 (replyChars .f30D .disengage { standing with tracks := 1 } 0)) s).port .p2).commands = [] ∧
       ((after (.deckReply .p2 (replyChars .f30D .status { standing with tracks := 1 } 0)) (asked .p2 up)).port
         .p2).commands = [.disengage]) := by decide +kernel

/-- R91: the motion that waits for a deck found in STANDBY is not sent to it. -/
theorem test_standby_drops_motion :
    (let s := (asked .p2 held).setPort .p2 { (asked .p2 held).port .p2 with commands := [.play 1024, .disengage] }
     let t := after (.deckReply .p2 (replyChars .f30D .status { standing with mode := .standby } 0)) s
     (t.transport .p2).state = .standby ∧ (t.port .p2).commands = [.disengage]) := by decide +kernel

/-- R2 and R7: the last stopped frame 86,400 of a pending CUE END, taken after a change of standard to 25, is sent as the
label of frame 86,400 under 25. -/
theorem test_notice_after_change :
    (let report : CueReport := { outcome := .parked, requester := .console, attempts := 1, lastStop := some 86400 }
     let s := changeStandard .f25 { base with notices := [.cueEnd .p1 report] }
     s.notices.flatMap (bContent .f25) = [0, 0, 0, 0, 0, 1, 1, 0, 57, 36, 0]) := by decide +kernel

/-- The EDIT END of a recording cut short (R155): key, mode, outcome, phase, no early mark, slip flag, and the status
written, PARTIAL, as one byte after its presence byte (R197). -/
theorem test_edit_end_bytes :
    bEditEnd { key := 258, mode := .perform, outcome := .fault .recorder, phase := .edit, early := none, slip := true,
               written := some (.cut .recorder) } = [1, 2, 0, 3, 3, 0, 0, 1, 1, 3] := by decide


end Sys2Proof.Tests
end

-- ==== Labels, frame numbers and positions ====
section
/-! Labels, frame numbers and positions on the day circle (R1 to R10): the facts every later section uses, and the three
statements about them. -/

namespace Sys2Proof.Machine

/-! ## The day and the label rate (R1) -/

/-- A day of labels is never empty. -/
theorem fday_pos (std : FrameStd) : 0 < fday std := by cases std <;> decide

/-- A day of positions is never empty. -/
theorem dayLength_pos (std : FrameStd) : 0 < dayLength std := by cases std <;> decide

/-- A position on the day lies in a frame of the day. -/
theorem OnDay.frame_lt {std : FrameStd} {x : Nat} (h : OnDay std x) : x / 64 < fday std := by
  unfold OnDay dayLength at h
  omega

/-- A phase of a frame of the day is a position on the day. -/
theorem onDay_of_frame {std : FrameStd} {n k : Nat} (hn : n < fday std) (hk : k ≤ 63) : OnDay std (n * 64 + k) := by
  unfold OnDay dayLength
  omega

/-- The start of a frame of the day is a position on the day. -/
theorem onDay_of_frame_start {std : FrameStd} {n : Nat} (hn : n < fday std) : OnDay std (n * 64) := by
  unfold OnDay dayLength
  omega

/-! ## Labels in range and labels left out (R3, R4) -/

/-- The component ranges of R3, one by one. -/
theorem Label.inRange_iff {std : FrameStd} {l : Label} :
    l.inRange std = true ↔ l.hh ≤ 23 ∧ l.mm ≤ 59 ∧ l.ss ≤ 59 ∧ l.ff < rate std := by
  simp [Label.inRange, and_assoc]

/-- The labels that name no frame (R4). -/
theorem Label.leftOut_iff {std : FrameStd} {l : Label} :
    l.leftOut std = true ↔ std = .f30D ∧ l.ss = 0 ∧ l.ff ≤ 1 ∧ l.mm % 10 ≠ 0 := by
  simp [Label.leftOut, and_assoc]

/-- Only 30D leaves labels out. -/
theorem Label.leftOut_of_ne {std : FrameStd} (h : std ≠ .f30D) (l : Label) : l.leftOut std = false := by
  simp [Label.leftOut, h]

/-- A label that names a frame is used as it is. -/
theorem Label.moved_of_not_leftOut {std : FrameStd} {l : Label} (h : l.leftOut std = false) : l.moved std = l := by
  simp [Label.moved, h]

/-- A label that names none is moved to ff = 2. -/
theorem Label.moved_of_leftOut {std : FrameStd} {l : Label} (h : l.leftOut std = true) : l.moved std = { l with ff := 2 } := by
  simp [Label.moved, h]

/-- The label used names a frame. -/
theorem Label.moved_not_leftOut (std : FrameStd) (l : Label) : (l.moved std).leftOut std = false := by
  cases h : l.leftOut std with
  | false => rw [Label.moved_of_not_leftOut h, h]
  | true => simp [Label.moved_of_leftOut h, Label.leftOut]

/-- The label used is in range when the label received is. -/
theorem Label.moved_inRange {std : FrameStd} {l : Label} (h : l.inRange std = true) : (l.moved std).inRange std = true := by
  cases hl : l.leftOut std with
  | false => rwa [Label.moved_of_not_leftOut hl]
  | true =>
    obtain ⟨rfl, -, -, -⟩ := Label.leftOut_iff.1 hl
    rw [Label.moved_of_leftOut hl]
    rw [Label.inRange_iff] at h ⊢
    exact ⟨h.1, h.2.1, h.2.2.1, (by decide : 2 < 30)⟩

/-! ## Label to frame number (R6) -/

/-- The frame number of a label under 25 and 30N. -/
theorem frameOf_of_ne {std : FrameStd} (h : std ≠ .f30D) (l : Label) :
    frameOf std l = (3600 * l.hh + 60 * l.mm + l.ss) * rate std + l.ff := by
  cases std
  · rfl
  · rfl
  · exact absurd rfl h

/-- The frame number of a label under 30D, with the labels left out before it added back. -/
theorem frameOf_f30D (l : Label) :
    frameOf .f30D l + 2 * ((60 * l.hh + l.mm) - (60 * l.hh + l.mm) / 10) = (3600 * l.hh + 60 * l.mm + l.ss) * 30 + l.ff := by
  simp only [frameOf]
  omega

/-- A valid label that names a frame names a frame of the day. -/
theorem frameOf_lt {std : FrameStd} {l : Label} (h : l.inRange std = true) (hl : l.leftOut std = false) :
    frameOf std l < fday std := by
  obtain ⟨h1, h2, h3, h4⟩ := Label.inRange_iff.1 h
  by_cases hs : std = .f30D
  · subst hs
    have hf := frameOf_f30D l
    simp only [rate, fday] at *
    omega
  · rw [frameOf_of_ne hs]
    cases std
    · simp only [rate, fday] at *
      omega
    · simp only [rate, fday] at *
      omega
    · exact absurd rfl hs

/-- 24:00:00:00 is the closed end of the day. -/
theorem frameOf_endLabel (std : FrameStd) : frameOf std ⟨24, 0, 0, 0⟩ = fday std := by cases std <;> decide

end Sys2Proof.Machine

open Sys2Proof Sys2Proof.Machine

/-- Settles O15: R6's sum for 25 and 30N, its count without the labels left out for 30D, and the bound of the day. -/
theorem labelsBecomeFrameNumbersByR6 : Obligations.LabelsBecomeFrameNumbersByR6 := by
  unfold Obligations.LabelsBecomeFrameNumbersByR6
  refine ⟨fun l h => ⟨rfl, ?_⟩, fun l h => ⟨rfl, ?_⟩, fun l h hl => ⟨frameOf_f30D l, ?_⟩, frameOf_endLabel⟩
  · exact frameOf_lt h (Label.leftOut_of_ne (by decide) l)
  · exact frameOf_lt h (Label.leftOut_of_ne (by decide) l)
  · exact frameOf_lt h hl

namespace Sys2Proof.Machine

/-! ## Frame number to label (R7) -/

/-- A count of labels taken apart and put together again. -/
theorem count_of_labelOfCount (r n : Nat) :
    (3600 * (labelOfCount r n).hh + 60 * (labelOfCount r n).mm + (labelOfCount r n).ss) * r + (labelOfCount r n).ff = n := by
  have hs : 3600 * (n / r / 3600) + 60 * (n / r / 60 % 60) + n / r % 60 = n / r := by omega
  simp only [labelOfCount, hs]
  exact Nat.div_add_mod' n r

/-- A label put together and taken apart again. -/
theorem labelOfCount_of_label {r : Nat} {l : Label} (hm : l.mm ≤ 59) (hs : l.ss ≤ 59) (hf : l.ff < r) :
    labelOfCount r ((3600 * l.hh + 60 * l.mm + l.ss) * r + l.ff) = l := by
  have hr : 0 < r := by omega
  have hd : ((3600 * l.hh + 60 * l.mm + l.ss) * r + l.ff) / r = 3600 * l.hh + 60 * l.mm + l.ss := by
    rw [Nat.add_comm, Nat.add_mul_div_right _ _ hr, Nat.div_eq_of_lt hf, Nat.zero_add]
  have hq : ((3600 * l.hh + 60 * l.mm + l.ss) * r + l.ff) % r = l.ff := by
    rw [Nat.add_comm, Nat.add_mul_mod_self_right, Nat.mod_eq_of_lt hf]
  have h1 : (3600 * l.hh + 60 * l.mm + l.ss) / 3600 = l.hh := by omega
  have h2 : (3600 * l.hh + 60 * l.mm + l.ss) / 60 % 60 = l.mm := by omega
  have h3 : (3600 * l.hh + 60 * l.mm + l.ss) % 60 = l.ss := by omega
  simp only [labelOfCount, hd, hq, h1, h2, h3]

/-- The components of a count below one day of labels are in range. -/
theorem labelOfCount_inRange {std : FrameStd} {n : Nat} (h : n < 86400 * rate std) :
    (labelOfCount (rate std) n).inRange std = true := by
  have hr : 0 < rate std := by cases std <;> decide
  have hd : n / rate std < 86400 := Nat.div_lt_of_lt_mul (by rwa [Nat.mul_comm])
  rw [Label.inRange_iff]
  simp only [labelOfCount]
  exact ⟨by omega, by omega, by omega, Nat.mod_lt _ hr⟩

/-- The label of a frame number under 25 and 30N. -/
theorem labelOf_of_ne {std : FrameStd} (h : std ≠ .f30D) (n : Nat) : labelOf std n = labelOfCount (rate std) n := by
  cases std
  · rfl
  · rfl
  · exact absurd rfl h

/-- The nominal count, its minute and the rest of its minute (R7): of the ten minutes of a cycle only the first holds
1,800 frames, the others begin at ff = 2. -/
theorem nominalCount_spec (n : Nat) :
    nominalCount n = n + 2 * (nominalCount n / 1800 - nominalCount n / 18000) ∧
      (nominalCount n % 1800 ≤ 1 → nominalCount n / 1800 % 10 = 0) := by
  have hm : nominalCount n = if 2 ≤ n % 17982 then n + 18 * (n / 17982) + 2 * ((n % 17982 - 2) / 1798)
    else n + 18 * (n / 17982) := rfl
  generalize nominalCount n = m at *
  split at hm <;> omega

/-- The nominal count of the frame `w` of minute `k` of the ten-minute cycle `q` (R7). -/
theorem nominalCount_cycle {q k w : Nat} (hk : k ≤ 9) (hw : w < 1800) (h : k = 0 ∨ 2 ≤ w) :
    nominalCount (17982 * q + 1798 * k + w) = 18000 * q + 1800 * k + w := by
  have hq : (17982 * q + 1798 * k + w) / 17982 = q := by omega
  have hr : (17982 * q + 1798 * k + w) % 17982 = 1798 * k + w := by omega
  simp only [nominalCount, hq, hr]
  split <;> omega

/-- The count of a label under 30D that names a frame gives its frame number. -/
theorem nominalCount_frameOf {l : Label} (h : l.inRange .f30D = true) (hl : l.leftOut .f30D = false) :
    nominalCount (frameOf .f30D l) = (3600 * l.hh + 60 * l.mm + l.ss) * 30 + l.ff := by
  obtain ⟨h1, h2, h3, h4⟩ := Label.inRange_iff.1 h
  simp only [rate] at h4
  have hn : l.mm % 10 = 0 ∨ 2 ≤ l.ss * 30 + l.ff := by
    by_contra hc
    have : l.leftOut .f30D = true := Label.leftOut_iff.2 ⟨rfl, by omega, by omega, by omega⟩
    simp [hl] at this
  have hf : frameOf .f30D l = 17982 * (6 * l.hh + l.mm / 10) + 1798 * (l.mm % 10) + (l.ss * 30 + l.ff) := by
    have := frameOf_f30D l
    omega
  rw [hf, nominalCount_cycle (by omega) (by omega) hn]
  omega

/-- The label of a frame number gives the frame number back, up to the end of the day (R6, R7). -/
theorem frameOf_labelOf (std : FrameStd) (n : Nat) : frameOf std (labelOf std n) = n := by
  by_cases h : std = .f30D
  · subst h
    have hc := count_of_labelOfCount 30 (nominalCount n)
    have hs := (nominalCount_spec n).1
    have hf := frameOf_f30D (labelOf .f30D n)
    have hl : labelOf .f30D n = labelOfCount 30 (nominalCount n) := rfl
    rw [hl] at hf ⊢
    generalize hm : labelOfCount 30 (nominalCount n) = l at *
    have hff : l.ff < 30 := by rw [← hm]; exact Nat.mod_lt _ (by decide)
    have hss : l.ss < 60 := by rw [← hm]; exact Nat.mod_lt _ (by decide)
    omega
  · rw [labelOf_of_ne h, frameOf_of_ne h, count_of_labelOfCount]

/-- A valid label that names a frame is the label of its frame number (R6, R7). -/
theorem labelOf_frameOf {std : FrameStd} {l : Label} (h : l.inRange std = true) (hl : l.leftOut std = false) :
    labelOf std (frameOf std l) = l := by
  obtain ⟨h1, h2, h3, h4⟩ := Label.inRange_iff.1 h
  by_cases hs : std = .f30D
  · subst hs
    show labelOfCount 30 (nominalCount (frameOf .f30D l)) = l
    rw [nominalCount_frameOf h hl]
    exact labelOfCount_of_label h2 h3 h4
  · rw [labelOf_of_ne hs, frameOf_of_ne hs, labelOfCount_of_label h2 h3 h4]

/-- The label of a frame of the day is valid. -/
theorem labelOf_inRange {std : FrameStd} {n : Nat} (h : n < fday std) : (labelOf std n).inRange std = true := by
  by_cases hs : std = .f30D
  · subst hs
    refine labelOfCount_inRange (std := .f30D) ?_
    have := (nominalCount_spec n).1
    simp only [fday, rate] at *
    omega
  · rw [labelOf_of_ne hs]
    refine labelOfCount_inRange ?_
    cases std
    · exact h
    · exact h
    · exact absurd rfl hs

/-- The label of a frame number is never one that R4 would move. -/
theorem labelOf_not_leftOut (std : FrameStd) (n : Nat) : (labelOf std n).leftOut std = false := by
  by_cases hs : std = .f30D
  · subst hs
    by_contra hc
    obtain ⟨-, hss, hff, hmm⟩ := Label.leftOut_iff.1 (Bool.not_eq_false _ ▸ hc)
    have hk := (nominalCount_spec n).2
    simp only [labelOf, labelOfCount] at hss hff hmm
    omega
  · exact Label.leftOut_of_ne hs _

/-- The end of the day is 24:00:00:00. -/
theorem labelOf_fday (std : FrameStd) : labelOf std (fday std) = ⟨24, 0, 0, 0⟩ := by cases std <;> decide

end Sys2Proof.Machine

/-- Settles O16: R7's split of the count, and R6 and R7 inverse to each other. -/
theorem labelsAndFrameNumbersAreInverse : Obligations.LabelsAndFrameNumbersAreInverse := by
  unfold Obligations.LabelsAndFrameNumbersAreInverse
  refine ⟨fun std n hs _ => ?_, fun n m _ hm => ?_, fun std n _ => ⟨frameOf_labelOf std n, fun h => ?_⟩,
    fun std l h hl => labelOf_frameOf h hl, labelOf_fday⟩
  · rw [labelOf_of_ne hs]
    rfl
  · subst hm
    rfl
  · exact ⟨labelOf_inRange h, labelOf_not_leftOut std n⟩

namespace Sys2Proof.Machine

/-! ## Labels from the console (R3, R4, R6) -/

/-- A label read outside record out fields is its own label used. -/
theorem readLabel_false (std : FrameStd) (l : Label) :
    readLabel std false l = if l.inRange std = true then some (frameOf std (l.moved std), l.leftOut std) else none := by
  simp [readLabel]

/-- A label read outside record out fields is valid, and its frame number and flag are those of the label used. -/
theorem readLabel_false_eq_some {std : FrameStd} {l : Label} {n : Nat} {moved : Bool}
    (h : readLabel std false l = some (n, moved)) :
    l.inRange std = true ∧ n = frameOf std (l.moved std) ∧ moved = l.leftOut std := by
  rw [readLabel_false] at h
  split at h
  · rename_i hr
    simp only [Option.some.injEq, Prod.mk.injEq] at h
    exact ⟨hr, h.1.symm, h.2.symm⟩
  · simp at h

/-- The label used of a valid label names a frame of the day. -/
theorem frameOf_moved_lt {std : FrameStd} {l : Label} (h : l.inRange std = true) : frameOf std (l.moved std) < fday std :=
  frameOf_lt (Label.moved_inRange h) (Label.moved_not_leftOut std l)

/-- A label accepted outside record out fields gives a frame of the day. -/
theorem readLabel_lt {std : FrameStd} {l : Label} {n : Nat} {moved : Bool} (h : readLabel std false l = some (n, moved)) :
    n < fday std := by
  obtain ⟨hr, rfl, -⟩ := readLabel_false_eq_some h
  exact frameOf_moved_lt hr

/-- In a record out field the end of the day is read as well (R3). -/
theorem readLabel_true_of_ne {std : FrameStd} {l : Label} (h : l ≠ endLabel) : readLabel std true l = readLabel std false l := by
  simp [readLabel, h]

/-- The optional field of a label that a request carries: the label used where it was moved (log entry 18). -/
theorem bUsedLabels_some (std : FrameStd) (l : Label) (ls : List (Option Label)) :
    bUsedLabels std (some l :: ls) =
      bOpt 4 bLabel (if l.leftOut std = true then some { l with ff := 2 } else none) ++ bUsedLabels std ls := by
  cases h : l.leftOut std <;> simp [bUsedLabels, usedLabel, h, Label.moved_of_leftOut]

/-! ## Positions (R8 to R10) -/

/-- A whole number of phase steps brought onto the day circle lies on the day. -/
theorem onDay_onDay (std : FrameStd) (x : Int) : OnDay std (onDay std x) := by
  have h := dayLength_pos std
  unfold OnDay onDay
  have h1 := Int.emod_nonneg x (b := (dayLength std : Int)) (by omega)
  have h2 := Int.emod_lt_of_pos x (b := (dayLength std : Int)) (by omega)
  omega

/-- As a whole number it is the remainder by the day. -/
theorem onDay_cast (std : FrameStd) (x : Int) : (onDay std x : Int) = x % (dayLength std : Int) := by
  have h := dayLength_pos std
  unfold onDay
  exact Int.toNat_of_nonneg (Int.emod_nonneg _ (by omega))

/-- A position on the day stands where it is. -/
theorem onDay_of_lt {std : FrameStd} {x : Nat} (h : OnDay std x) : onDay std (x : Int) = x := by
  have : (onDay std (x : Int) : Int) = x := by
    rw [onDay_cast]
    exact Int.emod_eq_of_lt (by omega) (by unfold OnDay at h; omega)
  omega

/-- Whole days do not matter. -/
theorem onDay_congr {std : FrameStd} {x y : Int} (h : x % (dayLength std : Int) = y % (dayLength std : Int)) :
    onDay std x = onDay std y := by
  unfold onDay
  rw [h]

/-- A sum lies on the day. -/
theorem onDay_posAdd (std : FrameStd) (a : Nat) (b : Int) : OnDay std (posAdd std a b) := onDay_onDay std _

/-- Two offsets one after the other are their sum. -/
theorem posAdd_posAdd (std : FrameStd) (a : Nat) (x y : Int) : posAdd std (posAdd std a x) y = posAdd std a (x + y) := by
  unfold posAdd
  refine onDay_congr ?_
  rw [onDay_cast, Int.emod_add_emod, Int.add_assoc]

/-- No offset changes nothing. -/
theorem posAdd_zero {std : FrameStd} {a : Nat} (h : OnDay std a) : posAdd std a 0 = a := by
  unfold posAdd
  rw [Int.add_zero, onDay_of_lt h]

/-- The way round from `b` up to `a`, as a number below a day. -/
theorem onDay_sub {std : FrameStd} {a b : Nat} (ha : OnDay std a) (hb : OnDay std b) :
    onDay std ((a : Int) - b) = (a + dayLength std - b) % dayLength std := by
  have hc := onDay_cast std ((a : Int) - b)
  unfold OnDay at ha hb
  generalize dayLength std = m at *
  by_cases h : b ≤ a
  · have h1 : (a + m - b) % m = a - b := by
      rw [show a + m - b = a - b + m by omega, Nat.add_mod_right, Nat.mod_eq_of_lt (by omega)]
    rw [Int.emod_eq_of_lt (by omega) (by omega)] at hc
    omega
  · have h1 : (a + m - b) % m = a + m - b := Nat.mod_eq_of_lt (by omega)
    rw [← Int.add_emod_right, Int.emod_eq_of_lt (by omega) (by omega)] at hc
    omega

/-- The shortest signed difference (R10): the way up when it is less than half a day, else the way down. -/
theorem posDiff_eq {std : FrameStd} {a b : Nat} (ha : OnDay std a) (hb : OnDay std b) :
    posDiff std a b = if (a + dayLength std - b) % dayLength std < 32 * fday std
      then (((a + dayLength std - b) % dayLength std : Nat) : Int)
      else (((a + dayLength std - b) % dayLength std : Nat) : Int) - dayLength std := by
  unfold posDiff
  rw [onDay_sub ha hb]
  dsimp only
  split <;> split <;> omega

/-- The shortest signed difference added to the second position gives the first (R9, R10). -/
theorem posAdd_posDiff {std : FrameStd} {a b : Nat} (ha : OnDay std a) : posAdd std b (posDiff std a b) = a := by
  have hd : posDiff std a b % (dayLength std : Int) = ((a : Int) - b) % (dayLength std : Int) := by
    unfold posDiff
    dsimp only
    split
    · rw [Int.sub_emod_right, onDay_cast, Int.emod_emod_of_dvd _ (Int.dvd_refl _)]
    · rw [onDay_cast, Int.emod_emod_of_dvd _ (Int.dvd_refl _)]
  calc posAdd std b (posDiff std a b) = onDay std ((b : Int) + ((a : Int) - b)) := by
        refine onDay_congr ?_
        rw [← Int.add_emod_emod, hd, Int.add_emod_emod]
    _ = onDay std (a : Int) := by rw [show (b : Int) + ((a : Int) - b) = a by omega]
    _ = a := onDay_of_lt ha

end Sys2Proof.Machine

/-- Settles O17: labels of the console refused, read or moved, the labels used in an answer, and the arithmetic of the
day circle. -/
theorem consoleLabelsAndDifferencesOnTheDay : Obligations.ConsoleLabelsAndDifferencesOnTheDay := by
  unfold Obligations.ConsoleLabelsAndDifferencesOnTheDay
  refine ⟨fun std l => ?refused, fun std l n moved h => ?read, fun std l h => readLabel_true_of_ne h,
    fun std l ls => ⟨?used, rfl, rfl⟩, fun std => ⟨by cases std <;> decide, by cases std <;> decide⟩,
    fun std a b ha hb => ?difference, fun std a d _ => ⟨onDay_onDay std _, ?sum⟩⟩
  case refused =>
    rw [← Label.inRange_iff, readLabel_false]
    split
    · rename_i h
      simp [h]
    · rename_i h
      simp [h]
  case read =>
    obtain ⟨hr, rfl, rfl⟩ := readLabel_false_eq_some h
    refine ⟨frameOf_moved_lt hr, Label.leftOut_iff, ?_⟩
    rw [labelOf_frameOf (Label.moved_inRange hr) (Label.moved_not_leftOut std l)]
    rfl
  case used =>
    rw [bUsedLabels_some]
    by_cases h : std = .f30D ∧ l.ss = 0 ∧ l.ff ≤ 1 ∧ l.mm % 10 ≠ 0
    · rw [if_pos h, if_pos (Label.leftOut_iff.2 h)]
      obtain ⟨-, hs, -, -⟩ := h
      simp [bOpt, bLabel, b1, hs]
    · rw [if_neg h, if_neg (fun hl => h (Label.leftOut_iff.1 hl))]
      rfl
  case difference =>
    have hab := posDiff_eq ha hb
    have hba := posDiff_eq hb ha
    have hm : dayLength std = 64 * fday std := rfl
    have hlt := Nat.mod_lt (a + dayLength std - b) (dayLength_pos std)
    refine ⟨?_, ?_, posAdd_posDiff ha, ?_, fun half => ?_⟩
    · split at hab <;> omega
    · split at hab <;> omega
    · split at hab <;> omega
    · have hback : (b + dayLength std - a) % dayLength std = 32 * fday std := by
        generalize dayLength std = m at *
        by_cases h : b ≤ a
        · rw [show a + m - b = a - b + m by omega, Nat.add_mod_right, Nat.mod_eq_of_lt (by omega)] at half
          rw [Nat.mod_eq_of_lt (by omega)]
          omega
        · rw [Nat.mod_eq_of_lt (by omega)] at half
          rw [show b + m - a = b - a + m by omega, Nat.add_mod_right, Nat.mod_eq_of_lt (by omega)]
          omega
      rw [half] at hab
      rw [hback] at hba
      rw [hab, hba, if_neg (Nat.lt_irrefl _)]
      omega
  case sum =>
    have hc : (posAdd std a d : Int) = ((a : Int) + d) % (dayLength std : Int) := onDay_cast std _
    rw [hc, Int.emod_sub_emod, Int.sub_self, Int.zero_emod]

end

-- ==== Positions on the day, record by record ====
section
/-! The positions of each record of the state (R2, R112), and what an update of the state has to put there to keep them on
the day. -/

namespace Sys2Proof.Machine

/-! ## The records -/

/-- The SEEK target of a command lies on the day. -/
def CmdDay (std : FrameStd) (c : DeckCmd) : Prop := ∀ x ∈ seekTarget c, OnDay std x

/-- The positions of a deck port lie on the day: SEEK targets and the last reply. -/
structure PortDay (std : FrameStd) (d : DeckPort) : Prop where
  commands : ∀ c ∈ d.commands, CmdDay std c
  exchange : ∀ e ∈ d.exchange, CmdDay std e.cmd
  lastReply : ∀ r ∈ d.lastReply, OnDay std r.position

/-- The positions of a cue record lie on the day. -/
def CueDay (std : FrameStd) (c : Cue) : Prop := OnDay std c.target ∧ ∀ f ∈ c.lastStop, f < fday std

/-- The target of a pending motion lies on the day. -/
def MotionDay (std : FrameStd) (m : PendingMotion) : Prop := ∀ x ∈ cueTarget m.motion, OnDay std x

/-- The positions of a transport record lie on the day. -/
structure TransportDay (std : FrameStd) (t : Transport) : Prop where
  cue : ∀ c ∈ t.cue, CueDay std c
  motion : ∀ m ∈ t.motion, MotionDay std m

/-- The positions of a chase record lie on the day. -/
structure ChaseDay (std : FrameStd) (c : Chase) : Prop where
  masterAnchor : OnDay std c.masterAnchor
  chaserAnchor : OnDay std c.chaserAnchor
  cuePoint : ∀ x ∈ c.cuePoint, OnDay std x
  lastTarget : ∀ x ∈ c.lastTarget, OnDay std x

/-- The range of a run lies on the day. -/
def RunDay (std : FrameStd) (r : Run) : Prop := r.start < fday std ∧ r.stop < fday std

/-- Every position the ES-6 holds lies on the day of the frame standard in force, which is `std`. -/
structure OnTheDay (std : FrameStd) (s : State) : Prop where
  std_eq : s.std = std
  port : ∀ p, PortDay std (s.port p)
  transport : ∀ p, TransportDay std (s.transport p)
  tracker : ∀ p, OnDay std (s.tracker p).position
  chase : ∀ p, ∀ c ∈ s.chase p, ChaseDay std c
  recorderFrame : s.recorderFrame < fday std
  cuePoints : ∀ c ∈ s.seq.cuePoints, CuePointsOnDay std c
  run : ∀ r ∈ s.seq.run, RunDay std r
  notices : ∀ n ∈ s.notices, NoticeOnDay std n

/-- The positions of one port, record by record. -/
theorem portOnDay_iff {std : FrameStd} {d : DeckPort} {t : Transport} {k : Tracker} {c : Option Chase} :
    PortOnDay std d t k c ↔
      OnDay std k.position ∧ PortDay std d ∧ TransportDay std t ∧ ∀ r ∈ c, ChaseDay std r := by
  constructor
  · rintro ⟨h1, h2, h3, h4, h5, h6, h7⟩
    exact ⟨h1, ⟨h2, h3, h4⟩, ⟨h5, h6⟩, fun r hr =>
      let ⟨a, b, c, d⟩ := h7 r hr
      ⟨a, b, c, d⟩⟩
  · rintro ⟨h1, ⟨h2, h3, h4⟩, ⟨h5, h6⟩, h7⟩
    exact ⟨h1, h2, h3, h4, h5, h6, fun r hr =>
      let ⟨a, b, c, d⟩ := h7 r hr
      ⟨a, b, c, d⟩⟩

/-- The invariant, record by record. -/
theorem positionsOnDay_iff {s : State} : PositionsOnDay s ↔ OnTheDay s.std s := by
  constructor
  · rintro ⟨hp, hf, hc, hr, hn⟩
    have h := fun p => portOnDay_iff.1 (hp p (mem_allPorts p))
    exact { std_eq := rfl, tracker := fun p => (h p).1, port := fun p => (h p).2.1, transport := fun p => (h p).2.2.1,
            chase := fun p => (h p).2.2.2, recorderFrame := hf, cuePoints := hc, run := hr, notices := hn }
  · intro h
    exact ⟨fun p _ => portOnDay_iff.2 ⟨h.tracker p, h.port p, h.transport p, h.chase p⟩, h.recorderFrame, h.cuePoints,
      h.run, h.notices⟩

/-- The invariant under the name of the standard in force. -/
theorem OnTheDay.positionsOnDay {std : FrameStd} {s : State} (h : OnTheDay std s) : PositionsOnDay s := by
  obtain rfl := h.std_eq
  exact positionsOnDay_iff.2 h

/-! ## Records without positions -/

/-- A command other than SEEK carries no position. -/
theorem cmdDay_of_none {std : FrameStd} {c : DeckCmd} (h : seekTarget c = none) : CmdDay std c := by
  intro x hx
  simp [h] at hx

/-- A SEEK to a position on the day. -/
theorem cmdDay_seek {std : FrameStd} {x : Nat} (h : OnDay std x) : CmdDay std (.seek x) := by
  intro y hy
  obtain rfl : x = y := by simpa [seekTarget] using hy
  exact h

/-- A CUE of a position on the day, as a pending motion. -/
theorem motionDay_cue {std : FrameStd} {r : Requester} {x n : Nat} (h : OnDay std x) : MotionDay std ⟨r, .cue x n⟩ := by
  intro y hy
  obtain rfl : x = y := by simpa [cueTarget] using hy
  exact h

/-- Another pending motion carries no position. -/
theorem motionDay_of_none {std : FrameStd} {m : PendingMotion} (h : cueTarget m.motion = none) : MotionDay std m := by
  intro x hx
  simp [h] at hx

/-- The pending motion of an action carries no position. -/
theorem motionDay_actionMotion {std : FrameStd} {r : Requester} {a : Action} :
    ∀ m ∈ actionMotion r a, MotionDay std m := by
  intro m hm
  refine motionDay_of_none ?_
  cases a <;> simp only [actionMotion, Option.mem_def, Option.some.injEq, reduceCtorEq] at hm
  all_goals
    subst hm
    rfl

/-- The command of an action carries no position. -/
theorem seekTarget_actionCmd (a : Action) : seekTarget (actionCmd a) = none := by cases a <;> rfl

/-- The commands among the pending ones after one was put there. -/
theorem mem_enqueue {c d : DeckCmd} {cs : List DeckCmd} (h : d ∈ enqueue c cs) : d = c ∨ d ∈ cs := by
  induction cs with
  | nil => simpa [enqueue] using h
  | cons e rest ih =>
    unfold enqueue at h
    split at h
    · simp only [List.mem_cons] at h ⊢
      tauto
    · simp only [List.mem_cons] at h ⊢
      tauto

/-! ## Updates of the state -/

section
variable {std : FrameStd} {s : State}

/-- A deck port put. -/
theorem OnTheDay.setPort (h : OnTheDay std s) {p : Port} {d : DeckPort} (hd : PortDay std d) :
    OnTheDay std (s.setPort p d) :=
  { h with
    port := fun q => by
      rw [State.setPort_port]
      split
      · exact hd
      · exact h.port q }

/-- A transport record put. -/
theorem OnTheDay.setTransport (h : OnTheDay std s) {p : Port} {t : Transport} (ht : TransportDay std t) :
    OnTheDay std (s.setTransport p t) :=
  { h with
    transport := fun q => by
      rw [State.setTransport_transport]
      split
      · exact ht
      · exact h.transport q }

/-- A tracker record put. -/
theorem OnTheDay.setTracker (h : OnTheDay std s) {p : Port} {k : Tracker} (hk : OnDay std k.position) :
    OnTheDay std (s.setTracker p k) :=
  { h with
    tracker := fun q => by
      rw [State.setTracker_tracker]
      split
      · exact hk
      · exact h.tracker q }

/-- A chase record put or removed. -/
theorem OnTheDay.setChase (h : OnTheDay std s) {p : Port} {c : Option Chase} (hc : ∀ r ∈ c, ChaseDay std r) :
    OnTheDay std (s.setChase p c) :=
  { h with
    chase := fun q => by
      rw [State.setChase_chase]
      split
      · exact hc
      · exact h.chase q }

/-- A notice raised. -/
theorem OnTheDay.raise (h : OnTheDay std s) {n : Notice} (hn : NoticeOnDay std n) : OnTheDay std (raise n s) :=
  { h with
    notices := fun m hm => by
      rcases mem_putNotice hm with rfl | hm
      · exact hn
      · exact h.notices m hm }

/-- The sequencer record changed. -/
theorem OnTheDay.setSeq (h : OnTheDay std s) {f : Sequencer → Sequencer}
    (hc : ∀ c ∈ (f s.seq).cuePoints, CuePointsOnDay std c) (hr : ∀ r ∈ (f s.seq).run, RunDay std r) :
    OnTheDay std (setSeq f s) :=
  { h with cuePoints := hc, run := hr }

/-- A holder put. -/
theorem OnTheDay.setHolder (h : OnTheDay std s) {p : Port} {x : Holder} : OnTheDay std (s.setHolder p x) := { h with }

/-- A command handed to a port. -/
theorem OnTheDay.handCommand (h : OnTheDay std s) {p : Port} {c : DeckCmd} (hc : CmdDay std c) :
    OnTheDay std (handCommand p c s) := by
  refine h.setPort { h.port p with commands := fun d hd => ?_ }
  dsimp only at hd
  split at hd
  · rcases mem_enqueue hd with rfl | hd
    · exact hc
    · exact (h.port p).commands d hd
  · exact (h.port p).commands d hd

/-- The list unit's record changed. -/
theorem OnTheDay.setList (h : OnTheDay std s) {l : ListUnit} : OnTheDay std { s with list := l } := { h with }

end

end Sys2Proof.Machine

end

-- ==== The work for one port ====
section
/-! What the transport controller and the chase servo can do for one port, said once for each of their operations: the
fields they may change, the ports they leave alone, and that positions stay on the day. -/

namespace Sys2Proof.Machine

/-- A REFERENCE notice stays pending when a notice of another kind is put. -/
theorem reference_mem_putNotice {b : Bool} {n : Notice} {ns : List Notice} (h : Notice.reference b ∈ ns)
    (hn : ∀ b, n ≠ .reference b) : Notice.reference b ∈ putNotice n ns := by
  refine putNotice_keeps h ?_
  have portNum_le (p : Port) : portNum p ≤ 6 := by cases p <;> decide
  cases n with
  | reference b' => exact absurd rfl (hn b')
  | deck p _ => have := portNum_le p; simp only [noticeSlot]; omega
  | lock p _ => have := portNum_le p; simp only [noticeSlot]; omega
  | cueEnd p _ => have := portNum_le p; simp only [noticeSlot]; omega
  | reel p _ _ => simp only [noticeSlot]; omega
  | _ => simp [noticeSlot]

/-- `t` comes from `s` by work of the transport controller and the chase servo for port `p`: nothing but deck, transport,
tracker and chase records and notices differ, and of these only those of `p`; of its deck record the commands alone, of
its tracker record the settle count alone; and a REFERENCE notice stays pending. Where a standard is named in `day`, every
position lies on its day afterwards. -/
structure PortWork (day : Option FrameStd) (p : Port) (s t : State) : Prop where
  only : { t with ports := s.ports, transports := s.transports, trackers := s.trackers, chases := s.chases,
                  notices := s.notices } = s
  port : ∃ cs, t.port p = { s.port p with commands := cs }
  tracker : ∃ n, t.tracker p = { s.tracker p with settle := n }
  other : ∀ q, q ≠ p → t.port q = s.port q ∧ t.transport q = s.transport q ∧ t.tracker q = s.tracker q ∧
    t.chase q = s.chase q
  reference : ∀ b, Notice.reference b ∈ s.notices → Notice.reference b ∈ t.notices
  onDay : ∀ std ∈ day, OnTheDay std t

/-- No work yet. -/
theorem PortWork.refl {day : Option FrameStd} {s : State} (p : Port) (h : ∀ std ∈ day, OnTheDay std s) :
    PortWork day p s s :=
  ⟨rfl, ⟨_, rfl⟩, ⟨_, rfl⟩, fun _ _ => ⟨rfl, rfl, rfl, rfl⟩, fun _ => id, h⟩

/-- No work yet, and nothing said of positions. -/
theorem PortWork.start (p : Port) (s : State) : PortWork none p s s := PortWork.refl p (by simp)

/-- No work yet on positions that lie on the day. -/
theorem OnTheDay.work {std : FrameStd} {s : State} (h : OnTheDay std s) (p : Port) : PortWork (some std) p s s :=
  PortWork.refl p (by rintro _ ⟨⟩; exact h)

section
variable {day : Option FrameStd} {p : Port} {s0 s : State}

/-- Work after work. -/
theorem PortWork.trans {t : State} (h : PortWork day p s0 s) (k : PortWork day p s t) : PortWork day p s0 t := by
  obtain ⟨cs, hcs⟩ := h.port
  obtain ⟨cs', hcs'⟩ := k.port
  obtain ⟨n, hn⟩ := h.tracker
  obtain ⟨n', hn'⟩ := k.tracker
  refine ⟨?_, ⟨cs', by rw [hcs', hcs]⟩, ⟨n', by rw [hn', hn]⟩, fun q hq => ?_,
    fun b hb => k.reference b (h.reference b hb), k.onDay⟩
  · exact (congrArg (fun u : State => { u with
      ports := s0.ports, transports := s0.transports, trackers := s0.trackers, chases := s0.chases,
      notices := s0.notices }) k.only).trans h.only
  · obtain ⟨a, b, c, d⟩ := h.other q hq
    obtain ⟨a', b', c', d'⟩ := k.other q hq
    exact ⟨a'.trans a, b'.trans b, c'.trans c, d'.trans d⟩

/-- The standard in force stays. -/
theorem PortWork.std_eq {day : Option FrameStd} {p : Port} {s t : State} (h : PortWork day p s t) : t.std = s.std :=
  (congrArg State.std h.only :)

/-- The holders stay. -/
theorem PortWork.holders {day : Option FrameStd} {p : Port} {s t : State} (h : PortWork day p s t) : t.holders = s.holders :=
  (congrArg State.holders h.only :)

/-- The sequencer record stays. -/
theorem PortWork.seq {day : Option FrameStd} {p : Port} {s t : State} (h : PortWork day p s t) : t.seq = s.seq :=
  (congrArg State.seq h.only :)

/-! ## The single updates -/

/-- The transport record of the port put. -/
theorem PortWork.setTransport (h : PortWork day p s0 s) {t : Transport} (ht : ∀ std ∈ day, TransportDay std t) :
    PortWork day p s0 (s.setTransport p t) :=
  h.trans ⟨rfl, ⟨_, rfl⟩, ⟨_, rfl⟩, fun _ hq => ⟨rfl, State.setTransport_ne _ _ hq, rfl, rfl⟩, fun _ => id,
    fun std hs => (h.onDay std hs).setTransport (ht std hs)⟩

/-- The chase record of the port put. -/
theorem PortWork.setChase (h : PortWork day p s0 s) {c : Option Chase} (hc : ∀ std ∈ day, ∀ r ∈ c, ChaseDay std r) :
    PortWork day p s0 (s.setChase p c) :=
  h.trans ⟨rfl, ⟨_, rfl⟩, ⟨_, rfl⟩, fun _ hq => ⟨rfl, rfl, rfl, State.setChase_ne _ _ hq⟩, fun _ => id,
    fun std hs => (h.onDay std hs).setChase (hc std hs)⟩

/-- A notice raised. -/
theorem PortWork.raise (h : PortWork day p s0 s) {n : Notice} (hr : ∀ b, n ≠ .reference b)
    (hn : ∀ std ∈ day, NoticeOnDay std n) : PortWork day p s0 (raise n s) :=
  h.trans ⟨rfl, ⟨_, rfl⟩, ⟨_, rfl⟩, fun _ _ => ⟨rfl, rfl, rfl, rfl⟩, fun _ hb => reference_mem_putNotice hb hr,
    fun std hs => (h.onDay std hs).raise (hn std hs)⟩

/-- The settle count of the port put. -/
theorem PortWork.setSettle (h : PortWork day p s0 s) (n : Nat) :
    PortWork day p s0 (s.setTracker p { s.tracker p with settle := n }) :=
  h.trans ⟨rfl, ⟨_, rfl⟩, ⟨n, State.setTracker_self _ _ _⟩, fun _ hq => ⟨rfl, rfl, State.setTracker_ne _ _ hq, rfl⟩,
    fun _ => id, fun std hs => (h.onDay std hs).setTracker ((h.onDay std hs).tracker p)⟩

/-- A command that is not of the record class leaves the permission. -/
theorem permissionAfter_of_not_record {c : DeckCmd} (h : recordClass c = false) (b : Bool) : permissionAfter c b = b := by
  cases c with
  | engage _ => cases h
  | disengage => cases h
  | _ => rfl

/-- A command that is not of the record class handed to the port. -/
theorem PortWork.handCommand (h : PortWork day p s0 s) {c : DeckCmd} (hr : recordClass c = false)
    (hc : ∀ std ∈ day, CmdDay std c) : PortWork day p s0 (handCommand p c s) := by
  refine h.trans ⟨rfl, ⟨if (s.port p).line = .online then enqueue c (s.port p).commands else (s.port p).commands, ?_⟩,
    ⟨_, rfl⟩, fun q hq => ⟨?_, rfl, rfl, rfl⟩, fun _ => id, fun std hs => (h.onDay std hs).handCommand (hc std hs)⟩
  · rw [handCommand_port, if_pos rfl, permissionAfter_of_not_record hr]
  · rw [handCommand_port, if_neg hq]

/-! ## The operations the blocks share (R82 to R92) -/

/-- A command of the transport controller. -/
theorem PortWork.handTransport (h : PortWork day p s0 s) {c : DeckCmd} (hr : recordClass c = false)
    (hc : ∀ std ∈ day, CmdDay std c) : PortWork day p s0 (handTransport p c s) := by
  have h2 := (h.handCommand hr hc).setTransport
    (t := { s.transport p with speed := commandSpeed c, lastKind := some (cmdKind c), standbyTimer := 0 })
    (fun std hs => { (h.onDay std hs).transport p with })
  unfold Machine.handTransport
  dsimp only
  split
  · exact h2.setSettle _
  · exact h2

/-- A state entered. -/
theorem PortWork.enterState (h : PortWork day p s0 s) (st : TransportState) : PortWork day p s0 (enterState p st s) :=
  h.setTransport (fun std hs => { (h.onDay std hs).transport p with })

/-- A cancellation told. -/
theorem PortWork.tellCancelled (h : PortWork day p s0 s) (asker owner : Requester) (n : Nat) :
    PortWork day p s0 (tellCancelled asker owner p n s) := by
  unfold Machine.tellCancelled
  split
  · exact h.raise nofun (fun _ _ => by simp [NoticeOnDay])
  · exact h

/-- A cue record removed. -/
theorem PortWork.dropCue (h : PortWork day p s0 s) (asker : Requester) : PortWork day p s0 (dropCue asker p s) := by
  unfold Machine.dropCue
  split
  · exact h
  · refine PortWork.tellCancelled (h.setTransport fun std hs => ?_) _ _ _
    exact { (h.onDay std hs).transport p with cue := by simp }

/-- A pending motion put. -/
theorem PortWork.putMotion (h : PortWork day p s0 s) (asker : Requester) {m : Option PendingMotion}
    (hm : ∀ std ∈ day, ∀ x ∈ m, MotionDay std x) : PortWork day p s0 (putMotion asker p m s) := by
  have h1 := h.setTransport (t := { s.transport p with motion := m })
    (fun std hs => { (h.onDay std hs).transport p with motion := hm std hs })
  unfold Machine.putMotion
  dsimp only
  split
  · exact h1.tellCancelled _ _ _
  · exact h1

/-- A wake begun. -/
theorem PortWork.beginWake (h : PortWork day p s0 s) {m : PendingMotion} (hm : ∀ std ∈ day, MotionDay std m) :
    PortWork day p s0 (beginWake p m s) := by
  have h1 := (h.handTransport (c := .wake) rfl (fun _ _ => cmdDay_of_none rfl)).enterState .waking
  refine h1.setTransport (fun std hs => { (h1.onDay std hs).transport p with motion := ?_ })
  rintro x ⟨⟩
  exact hm std hs

/-- An action carried out. -/
theorem PortWork.act (h : PortWork day p s0 s) (r : Requester) (a : Action) : PortWork day p s0 (act r p a s) := by
  have hm : ∀ std ∈ day, ∀ m ∈ actionMotion r a, MotionDay std m := fun _ _ => motionDay_actionMotion
  have hr : recordClass (actionCmd a) = false := by cases a <;> rfl
  unfold Machine.act
  split
  · exact h
  · exact h
  · exact h
  · split
    · exact h
    · rename_i m hs
      exact h.beginWake (fun std hd => hm std hd m hs)
  · exact h.putMotion r hm
  · exact ((h.dropCue r).handTransport hr (fun _ _ => cmdDay_of_none (seekTarget_actionCmd a))).enterState _

/-- A cue started. -/
theorem PortWork.startCue (h : PortWork day p s0 s) (r : Requester) {x : Nat} (n : Nat) (hx : ∀ std ∈ day, OnDay std x) :
    PortWork day p s0 (startCue r p x n s) := by
  have h1 := (h.handTransport (c := .seek x) rfl (fun std hs => cmdDay_seek (hx std hs))).enterState .cueing
  refine h1.setTransport (fun std hs => { (h1.onDay std hs).transport p with cue := ?_ })
  rintro c ⟨⟩
  exact ⟨hx std hs, by simp⟩

/-- A cue begun. -/
theorem PortWork.beginCue (h : PortWork day p s0 s) (r : Requester) {x : Nat} (hx : ∀ std ∈ day, OnDay std x) :
    PortWork day p s0 (beginCue r p x s) := by
  unfold Machine.beginCue
  split
  · exact h
  · exact h
  · exact h
  · exact h.beginWake (fun std hs => motionDay_cue (hx std hs))
  · exact h.putMotion r (by rintro std hs _ ⟨⟩; exact motionDay_cue (hx std hs))
  · exact (h.dropCue r).startCue r 0 hx

/-- A cue asked by the sequencer. -/
theorem PortWork.seqCue (h : PortWork day p s0 s) {x : Nat} (hx : ∀ std ∈ day, OnDay std x) :
    PortWork day p s0 (seqCue p x s) := by
  unfold Machine.seqCue
  split
  · exact h.beginCue _ hx
  · exact h

/-- An action asked by the sequencer. -/
theorem PortWork.seqAct (h : PortWork day p s0 s) (a : Action) : PortWork day p s0 (seqAct p a s) := by
  unfold Machine.seqAct
  split
  · exact h.act _ a
  · exact h

/-- A cue asked by the chase servo. -/
theorem PortWork.chaseCue (h : PortWork day p s0 s) {x : Nat} (hx : ∀ std ∈ day, OnDay std x) :
    PortWork day p s0 (chaseCue p x s) := by
  unfold Machine.chaseCue
  split
  · exact h.beginCue _ hx
  · exact h

/-- An action asked by the chase servo. -/
theorem PortWork.chaseAct (h : PortWork day p s0 s) (a : Action) : PortWork day p s0 (chaseAct p a s) := by
  unfold Machine.chaseAct
  split
  · exact h.act _ a
  · exact h

/-- A correction speed handed. -/
theorem PortWork.chaseCorrection (h : PortWork day p s0 s) (n : Nat) : PortWork day p s0 (chaseCorrection p n s) := by
  unfold Machine.chaseCorrection
  split
  · exact h.handTransport rfl (fun _ _ => cmdDay_of_none rfl)
  · exact h

/-- A DECK notice raised. -/
theorem PortWork.raiseDeck (h : PortWork day p s0 s) (c : Option Condition) : PortWork day p s0 (raiseDeck p c s) :=
  h.raise nofun (fun _ _ => trivial)

/-- A pending RELEASE overridden. -/
theorem PortWork.overrideRelease (h : PortWork day p s0 s) : PortWork day p s0 (overrideRelease p s) := by
  unfold Machine.overrideRelease
  split
  · have h1 := (h.handTransport (c := .halt) rfl (fun _ _ => cmdDay_of_none rfl)).enterState .idle
    exact h1.setTransport (fun std hs => ⟨by simp, by simp⟩)
  · exact h

/-! ## The transport controller's work for a frame (R86 to R91) -/

/-- A deck the ES-6 no longer moves. -/
theorem PortWork.stillDeck (h : PortWork day p s0 s) : PortWork day p s0 (stillDeck p s) :=
  h.setTransport (fun std hs => { (h.onDay std hs).transport p with })

/-- The CUE END of a cue. -/
theorem PortWork.raiseCueEnd (h : PortWork day p s0 s) (o : CueOutcome) (r : Requester) (n : Nat) {f : Option Nat}
    (hf : ∀ std ∈ day, ∀ x ∈ f, x < fday std) : PortWork day p s0 (raiseCueEnd p o r n f s) :=
  h.raise nofun hf

/-- A cue given up. -/
theorem PortWork.cueGivenUp (h : PortWork day p s0 s) (why : CueReason) {c : Cue} (hc : ∀ std ∈ day, CueDay std c) :
    PortWork day p s0 (cueGivenUp p why c s) := by
  have h1 := (h.handTransport (c := .halt) rfl (fun _ _ => cmdDay_of_none rfl)).enterState .idle
  have h2 := h1.setTransport (t := { (Machine.enterState p .idle (Machine.handTransport p .halt s)).transport p with
    cue := none })
    (fun std hs => { (h1.onDay std hs).transport p with cue := by simp })
  exact h2.raiseCueEnd _ _ _ (fun std hs => (hc std hs).2)

/-- A deck sent to standby. -/
theorem PortWork.sendToStandby (h : PortWork day p s0 s) : PortWork day p s0 (sendToStandby p s) :=
  ((h.handTransport (c := .release) rfl (fun _ _ => cmdDay_of_none rfl)).enterState .standby).stillDeck.raiseDeck _

/-- The standby timer's work for a frame. -/
theorem PortWork.standbyFrame (h : PortWork day p s0 s) : PortWork day p s0 (standbyFrame p s) := by
  have h1 := h.setTransport (t := { s.transport p with standbyTimer := (s.transport p).standbyTimer + 1 })
    (fun std hs => { (h.onDay std hs).transport p with })
  unfold Machine.standbyFrame
  split
  · dsimp only
    split
    · exact h1.sendToStandby
    · exact h1
  · exact h

/-- A cue whose time is over. -/
theorem PortWork.cueTimesOut (h : PortWork day p s0 s) : PortWork day p s0 (cueTimesOut p s).1 := by
  unfold Machine.cueTimesOut
  split
  · rename_i c _ hc
    split
    · exact h.cueGivenUp .time (fun std hs => ((h.onDay std hs).transport p).cue c hc)
    · exact h
  · split
    · refine PortWork.raiseCueEnd (h.setTransport fun std hs => ?_) _ _ _ (fun std hs => by simp)
      exact { (h.onDay std hs).transport p with motion := by simp }
    · exact h
  · exact h

/-- The elapsed frames of a cue counted. -/
theorem PortWork.countElapsed (h : PortWork day p s0 s) : PortWork day p s0 (countElapsed p s) := by
  unfold Machine.countElapsed
  dsimp only
  split
  · rename_i c _ hc
    refine h.setTransport (fun std hs => { (h.onDay std hs).transport p with cue := ?_ })
    rintro _ ⟨⟩
    exact ((h.onDay std hs).transport p).cue c hc
  · rename_i owner x n _ hm
    refine h.setTransport (fun std hs => { (h.onDay std hs).transport p with motion := ?_ })
    rintro _ ⟨⟩
    exact fun y hy => ((h.onDay std hs).transport p).motion ⟨owner, .cue x n⟩ hm y hy
  · exact h

/-- The end of a wake. -/
theorem PortWork.endWake (h : PortWork day p s0 s) : PortWork day p s0 (endWake p s) := by
  have h1 := h.enterState .idle
  have h2 := h1.setTransport (t := { (Machine.enterState p .idle s).transport p with motion := none })
    (fun std hs => { (h1.onDay std hs).transport p with motion := by simp })
  unfold Machine.endWake
  dsimp only
  split
  · exact h2
  · exact h2.act _ _
  · exact h2.act _ _
  · exact h2.act _ _
  · rename_i owner x n hm
    exact h2.startCue _ _ (fun std hs => ((h.onDay std hs).transport p).motion _ hm x rfl)

/-- The wake count's work for a frame. -/
theorem PortWork.wakeFrame (h : PortWork day p s0 s) : PortWork day p s0 (wakeFrame p s) := by
  have h1 := h.setTransport (t := { s.transport p with wakeCount := (s.transport p).wakeCount - 1 })
    (fun std hs => { (h.onDay std hs).transport p with })
  unfold Machine.wakeFrame
  dsimp only
  split
  · split
    · exact h1.endWake
    · exact h1
  · exact h

/-- One port's transport work for a frame. -/
theorem PortWork.transportPort (h : PortWork day p s0 s) : PortWork day p s0 (transportPort p s).1 := by
  unfold Machine.transportPort
  split
  · exact h.standbyFrame
  · exact h.standbyFrame
  · exact h.countElapsed.cueTimesOut
  · exact h.countElapsed.cueTimesOut.wakeFrame
  · exact h

/-! ## The chase servo's work for a frame (R117 to R130) -/

/-- A chase record removed. -/
theorem PortWork.removeChase (h : PortWork day p s0 s) : PortWork day p s0 (removeChase p s) := h.setChase (by simp)

/-- A changed record whose positions stand as they were put. -/
theorem PortWork.putChase (h : PortWork day p s0 s) {c : Chase} (hc : ∀ std ∈ day, ChaseDay std c) :
    PortWork day p s0 (s.setChase p (some c)) :=
  h.setChase (by rintro std hs _ ⟨⟩; exact hc std hs)

/-- A correction made. -/
theorem PortWork.correct (h : PortWork day p s0 s) (c : Chase) (e : Int) : PortWork day p s0 (correct p c e s) := by
  unfold Machine.correct
  dsimp only
  split
  · exact h
  · exact h.chaseCorrection _

/-- The LOCK notice of a lock test. -/
theorem PortWork.lockOutcome (h : PortWork day p s0 s) (o : Option Bool) : PortWork day p s0 (lockOutcome p o s) := by
  unfold Machine.lockOutcome
  split
  · exact h.raise nofun (fun _ _ => trivial)
  · exact h

/-- The LOCK notice of a record that leaves LOCKED. -/
theorem PortWork.loseLock (h : PortWork day p s0 s) (c : Chase) : PortWork day p s0 (loseLock p c s) := by
  unfold Machine.loseLock
  split
  · exact h.raise nofun (fun _ _ => trivial)
  · exact h

/-- The chase seeks. -/
theorem PortWork.chaseSeek (h : PortWork day p s0 s) {c : Chase} (x : Nat) (hc : ∀ std ∈ day, ChaseDay std c) :
    PortWork day p s0 (chaseSeek p c x s) := by
  have hx : ∀ std ∈ day, OnDay std (posAdd s.std x ((2 * rate s.std * 64 : Nat) : Int)) := by
    intro std hs
    rw [(h.onDay std hs).std_eq]
    exact onDay_posAdd _ _ _
  refine PortWork.chaseCue (h.putChase fun std hs => ?_) hx
  exact { hc std hs with cuePoint := by rintro _ ⟨⟩; exact hx std hs }

/-- A held frame leaves the positions of the record. -/
theorem ChaseDay.holdChase {std : FrameStd} {c : Chase} (h : ChaseDay std c) : ChaseDay std (holdChase c) := by
  unfold Machine.holdChase
  split
  · exact { h with }
  · exact h

/-- A lock test leaves the positions of the record. -/
theorem ChaseDay.lockTest {std : FrameStd} {c : Chase} (h : ChaseDay std c) (f : Profile) (e : Int) :
    ChaseDay std (lockTest f e c).1 := by
  unfold Machine.lockTest
  split
  · dsimp only
    generalize (if e.natAbs ≤ f.lockWindow then min 63 (c.lockRun + 1) else 0) = run
    split
    · exact { h with }
    · exact { h with }
  · split
    · exact { h with }
    · exact h
  · exact h

/-- A record worked. -/
theorem PortWork.workChase (h : PortWork day p s0 s) {c : Chase} (x : Nat) (hc : ∀ std ∈ day, ChaseDay std c) :
    PortWork day p s0 (workChase p c x s).1 := by
  unfold Machine.workChase
  split
  · exact h.putChase (fun std hs => (hc std hs).holdChase)
  · dsimp only
    have hl : ∀ std ∈ day, ∀ e f, ChaseDay std (Machine.lockTest f e { c with lastError := some e }).1 := by
      intro std hs e f
      have hd : ChaseDay std { c with lastError := some e } := { hc std hs with }
      exact hd.lockTest f e
    split
    · split
      · exact (h.lockOutcome _).chaseSeek x (fun std hs => hl std hs _ _)
      · refine PortWork.correct (PortWork.putChase (h.lockOutcome _) fun std hs => ?_) _ _
        exact { hl std hs _ _ with }
    · refine PortWork.correct (PortWork.putChase (h.lockOutcome _) fun std hs => ?_) _ _
      exact { hl std hs _ _ with }

/-- A manual record parked. -/
theorem PortWork.parkChase (h : PortWork day p s0 s) {c : Chase} (hc : ∀ std ∈ day, ChaseDay std c) :
    PortWork day p s0 (parkChase p c s) := by
  refine PortWork.loseLock (h.putChase fun std hs => ?_) c
  exact { hc std hs with cuePoint := by simp }

/-- The work under an UNAVAILABLE master. -/
theorem PortWork.masterGone (h : PortWork day p s0 s) {c : Chase} (hc : ∀ std ∈ day, ChaseDay std c) :
    PortWork day p s0 (masterGone p c s) := by
  unfold Machine.masterGone
  dsimp only
  split
  · exact h.parkChase hc
  · exact (h.chaseAct _).parkChase hc

/-- The work under a STOPPED master. -/
theorem PortWork.masterStopped (h : PortWork day p s0 s) {c : Chase} {x : Nat} (hc : ∀ std ∈ day, ChaseDay std c)
    (hx : ∀ std ∈ day, OnDay std x) : PortWork day p s0 (masterStopped p c x s) := by
  unfold Machine.masterStopped
  dsimp only
  split
  · exact (h.loseLock c).putChase (fun std hs => { hc std hs with })
  · refine PortWork.chaseCue (PortWork.putChase (h.loseLock c) fun std hs => ?_) hx
    exact { hc std hs with cuePoint := by rintro _ ⟨⟩; exact hx std hs }

/-- A PARKED record under a RUNNING master. -/
theorem PortWork.startChase (h : PortWork day p s0 s) {c : Chase} (x : Nat) (hc : ∀ std ∈ day, ChaseDay std c) :
    PortWork day p s0 (startChase p c x s) := by
  unfold Machine.startChase
  dsimp only
  split
  · exact h.chaseSeek x (fun std hs => { hc std hs with })
  · split
    · exact h.putChase (fun std hs => { hc std hs with })
    · refine PortWork.chaseAct (h.putChase fun std hs => ?_) _
      exact { hc std hs with }

/-- A WAITING record under a RUNNING master. -/
theorem PortWork.waitChase (h : PortWork day p s0 s) {c : Chase} (x : Nat) (hc : ∀ std ∈ day, ChaseDay std c) :
    PortWork day p s0 (waitChase p c x s) := by
  unfold Machine.waitChase
  dsimp only
  split
  · exact h.chaseSeek x hc
  · split
    · refine PortWork.chaseAct (h.putChase fun std hs => ?_) _
      exact { hc std hs with }
    · exact h

/-- A CAPTURING or LOCKED record under a RUNNING master. -/
theorem PortWork.followChase (h : PortWork day p s0 s) {c : Chase} (x : Nat) (hc : ∀ std ∈ day, ChaseDay std c) :
    PortWork day p s0 (followChase p c x s) := by
  unfold Machine.followChase
  dsimp only
  split
  · exact h.parkChase (fun std hs => (hc std hs).holdChase)
  · exact h.workChase x hc

/-- One manual record's work for a frame. -/
theorem PortWork.workManual (h : PortWork day p s0 s) {c : Chase} {x : Nat} (hc : ∀ std ∈ day, ChaseDay std c)
    (hx : ∀ std ∈ day, OnDay std x) : PortWork day p s0 (workManual p c x s) := by
  unfold Machine.workManual
  split
  · exact h.parkChase hc
  · exact h
  · split
    · exact h.masterGone hc
    · exact h.masterStopped hc hx
    · split
      · exact h.startChase x hc
      · exact h
      · exact h.waitChase x hc
      · exact h.followChase x hc
      · exact h.followChase x hc

/-- One port's chase work for a frame. -/
theorem PortWork.chasePort (h : PortWork day p s0 s) : PortWork day p s0 (chasePort p s).1 := by
  unfold Machine.chasePort
  split
  · exact h
  · rename_i c hc
    dsimp only
    have hx : ∀ std ∈ day, OnDay std (chaseTarget s.std c (s.tracker c.master).position) := by
      intro std hs
      rw [(h.onDay std hs).std_eq]
      exact onDay_posAdd _ _ _
    have hd : ∀ std ∈ day, ChaseDay std { c with lastTarget := some (chaseTarget s.std c (s.tracker c.master).position) } := by
      intro std hs
      refine { (h.onDay std hs).chase p c hc with lastTarget := ?_ }
      rintro _ ⟨⟩
      exact hx std hs
    split
    · exact (h.putChase hd).workChase _ hd
    · exact (h.putChase hd).workManual hd hx

/-- A failure reported to the chase servo. -/
theorem PortWork.chaseCueFailed (h : PortWork day p s0 s) (why : CueReason) : PortWork day p s0 (chaseCueFailed p why s) := by
  unfold Machine.chaseCueFailed
  split
  · split
    · exact h.removeChase
    · exact h
  · split
    · exact h.removeChase
    · exact h
  · exact h

end

end Sys2Proof.Machine

end

-- ==== The work of the sequencer ====
section
/-! What the sequencer can do in a frame or at a report, said once for each of its operations: the fields it may change, and
that positions stay on the day. -/

namespace Sys2Proof.Machine

/-- `t` comes from `s` by work of the transport controller, the chase servo and the sequencer: the timebase, the list, the
reels, the settings, the link and the queue stand, every poll countdown and the count of field strobes stand, and of a
tracker record the settle count alone differs; a REFERENCE notice stays pending. Where a standard is named in `day`, every
position lies on its day afterwards. -/
structure BlockWork (day : Option FrameStd) (s t : State) : Prop where
  only : { t with ports := s.ports, transports := s.transports, trackers := s.trackers, chases := s.chases,
                  notices := s.notices, holders := s.holders, seq := s.seq, recorderFrame := s.recorderFrame,
                  mix := s.mix, gpi := s.gpi } = s
  strobes : t.mix.strobes = s.mix.strobes
  countdown : ∀ p, (t.port p).countdown = (s.port p).countdown
  tracker : ∀ p, ∃ n, t.tracker p = { s.tracker p with settle := n }
  reference : ∀ b, Notice.reference b ∈ s.notices → Notice.reference b ∈ t.notices
  onDay : ∀ std ∈ day, OnTheDay std t

/-- No work yet. -/
theorem BlockWork.refl {day : Option FrameStd} {s : State} (h : ∀ std ∈ day, OnTheDay std s) : BlockWork day s s :=
  ⟨rfl, rfl, fun _ => rfl, fun _ => ⟨_, rfl⟩, fun _ => id, h⟩

/-- No work yet, and nothing said of positions. -/
theorem BlockWork.start (s : State) : BlockWork none s s := BlockWork.refl (by simp)

/-- No work yet on positions that lie on the day. -/
theorem OnTheDay.blocks {std : FrameStd} {s : State} (h : OnTheDay std s) : BlockWork (some std) s s :=
  BlockWork.refl (by rintro _ ⟨⟩; exact h)

section
variable {day : Option FrameStd} {s0 s : State}

/-- Work after work. -/
theorem BlockWork.trans {t : State} (h : BlockWork day s0 s) (k : BlockWork day s t) : BlockWork day s0 t := by
  refine ⟨?_, k.strobes.trans h.strobes, fun p => (k.countdown p).trans (h.countdown p), fun p => ?_,
    fun b hb => k.reference b (h.reference b hb), k.onDay⟩
  · exact (congrArg (fun u : State => { u with
      ports := s0.ports, transports := s0.transports, trackers := s0.trackers, chases := s0.chases,
      notices := s0.notices, holders := s0.holders, seq := s0.seq, recorderFrame := s0.recorderFrame,
      mix := s0.mix, gpi := s0.gpi }) k.only).trans h.only
  · obtain ⟨n, hn⟩ := h.tracker p
    obtain ⟨n', hn'⟩ := k.tracker p
    exact ⟨n', by rw [hn', hn]⟩

/-- The standard in force stays. -/
theorem BlockWork.std_eq {s t : State} (h : BlockWork day s t) : t.std = s.std := (congrArg State.std h.only :)

/-- Work for one port is work of the blocks. -/
theorem PortWork.blocks {p : Port} {s t : State} (k : PortWork day p s t) : BlockWork day s t := by
  obtain ⟨cs, hcs⟩ := k.port
  obtain ⟨n, hn⟩ := k.tracker
  have hmix : t.mix = s.mix := (congrArg State.mix k.only :)
  refine ⟨?_, by rw [hmix], fun q => ?_, fun q => ?_, k.reference, k.onDay⟩
  · exact congrArg (fun u : State => { u with
      holders := s.holders, seq := s.seq, recorderFrame := s.recorderFrame, mix := s.mix, gpi := s.gpi }) k.only
  · by_cases hq : q = p
    · subst hq
      rw [hcs]
    · rw [(k.other q hq).1]
  · by_cases hq : q = p
    · subst hq
      exact ⟨n, hn⟩
    · exact ⟨_, (k.other q hq).2.2.1⟩

/-- Work for a port after work of the blocks. -/
theorem BlockWork.port {p : Port} {t : State} (h : BlockWork day s0 s) (k : PortWork day p s s → PortWork day p s t) :
    BlockWork day s0 t :=
  h.trans (k (PortWork.refl p h.onDay)).blocks

/-- Work done for each entry of a list. -/
theorem BlockWork.foldl {α : Type} {f : State → α → State} (h : BlockWork day s0 s)
    (hf : ∀ s a, BlockWork day s0 s → BlockWork day s0 (f s a)) (l : List α) : BlockWork day s0 (l.foldl f s) :=
  List.foldlRecOn l f h (fun s hs a _ => hf s a hs)

/-! ## The single updates -/

/-- A command of any class handed. -/
theorem BlockWork.handCommand (h : BlockWork day s0 s) (p : Port) {c : DeckCmd} (hc : seekTarget c = none) :
    BlockWork day s0 (handCommand p c s) := by
  refine h.trans ⟨rfl, rfl, fun q => ?_, fun _ => ⟨_, rfl⟩, fun _ => id,
    fun std hs => (h.onDay std hs).handCommand (cmdDay_of_none hc)⟩
  rw [handCommand_port]
  split
  · rename_i hq
    rw [hq]
  · rfl

/-- The sequencer record changed with its cue points and its run standing. -/
theorem BlockWork.setSeq (h : BlockWork day s0 s) {f : Sequencer → Sequencer} (hc : (f s.seq).cuePoints = s.seq.cuePoints)
    (hr : (f s.seq).run = s.seq.run) : BlockWork day s0 (setSeq f s) :=
  h.trans ⟨rfl, rfl, fun _ => rfl, fun _ => ⟨_, rfl⟩, fun _ => id, fun std hs =>
    (h.onDay std hs).setSeq (by rw [hc]; exact (h.onDay std hs).cuePoints) (by rw [hr]; exact (h.onDay std hs).run)⟩

/-- A notice raised. -/
theorem BlockWork.raise (h : BlockWork day s0 s) {n : Notice} (hr : ∀ b, n ≠ .reference b)
    (hn : ∀ std, NoticeOnDay std n) : BlockWork day s0 (raise n s) :=
  h.trans ⟨rfl, rfl, fun _ => rfl, fun _ => ⟨_, rfl⟩, fun _ hb => reference_mem_putNotice hb hr,
    fun std hs => (h.onDay std hs).raise (hn std)⟩

/-- The outputs changed, the strobes standing. -/
theorem BlockWork.outputs {t : State} (h : BlockWork day s0 s) (ho : { t with mix := s.mix, gpi := s.gpi } = s)
    (hs : t.mix.strobes = s.mix.strobes) : BlockWork day s0 t := by
  obtain ⟨m, hm⟩ : ∃ m, m = t.mix := ⟨_, rfl⟩
  obtain ⟨g, hg⟩ : ∃ g, g = t.gpi := ⟨_, rfl⟩
  have ht : t = { s with mix := m, gpi := g } := by
    rw [← ho, hm, hg]
  subst ht
  exact h.trans ⟨rfl, hs, fun _ => rfl, fun _ => ⟨_, rfl⟩, fun _ => id, fun std hd => { h.onDay std hd with }⟩

/-- Ports made FREE. -/
theorem BlockWork.freePorts (h : BlockWork day s0 s) (ps : List Port) : BlockWork day s0 (freePorts ps s) :=
  h.foldl (f := fun s p => s.setHolder p .free) (fun _ _ hs => hs.trans
    ⟨rfl, rfl, fun _ => rfl, fun _ => ⟨_, rfl⟩, fun _ => id, fun std hd => (hs.onDay std hd).setHolder⟩) ps

/-! ## The outputs (R172 to R184) -/

/-- The GPI unit is all that a trigger fired changes. -/
theorem fireLine_only (m : Mode) (l : Line) (s : State) : { fireLine m l s with gpi := s.gpi } = s := by
  unfold fireLine
  dsimp only
  split <;> rfl

/-- The GPI unit is all that the triggers change. -/
theorem fireReached_only (m : Mode) (reached : Nat → Bool) (ts : List ArmedTrigger) (s : State) :
    { (fireReached m reached ts s).1 with gpi := s.gpi } = s := by
  induction ts generalizing s with
  | nil => rfl
  | cons t rest ih =>
    simp only [fireReached]
    split
    · exact (congrArg (fun u : State => { u with gpi := s.gpi }) (ih _)).trans (fireLine_only _ _ _)
    · exact ih s

/-- The GPI unit is all that the test of the armed triggers changes. -/
theorem testTriggers_only (reached : Nat → Bool) (s : State) : { testTriggers reached s with gpi := s.gpi } = s := by
  unfold testTriggers
  split
  · rfl
  · exact fireReached_only _ _ _ s

/-- What changes the GPI unit alone leaves the mix port. -/
theorem mix_of_gpi_only {s t : State} (h : { t with gpi := s.gpi } = s) : t.mix = s.mix := (congrArg State.mix h :)

/-- The armed triggers tested. -/
theorem BlockWork.testTriggers (h : BlockWork day s0 s) (reached : Nat → Bool) :
    BlockWork day s0 (testTriggers reached s) := by
  have hg := testTriggers_only reached s
  have hm := mix_of_gpi_only hg
  refine h.outputs ?_ (by rw [hm])
  rw [← hm]
  exact hg

/-- The triggers of an event handed. -/
theorem BlockWork.armTriggers (h : BlockWork day s0 s) (m : Mode) (e : Event) (pos : Nat) :
    BlockWork day s0 (armTriggers m e pos s) := by
  unfold Machine.armTriggers
  refine BlockWork.testTriggers (h.outputs ?_ ?_) _
  · rfl
  · rfl

/-- The GPI unit told of an end. -/
theorem BlockWork.endGpi (h : BlockWork day s0 s) (completed : Bool) : BlockWork day s0 (endGpi completed s) := by
  unfold Machine.endGpi
  dsimp only
  split
  · exact (h.testTriggers _).outputs rfl rfl
  · exact h.outputs rfl rfl

/-- The outputs told of an end. -/
theorem BlockWork.endOutputs (h : BlockWork day s0 s) (m : Mode) (completed : Bool) :
    BlockWork day s0 (endOutputs m completed s) := by
  unfold Machine.endOutputs
  split
  · exact h
  · refine BlockWork.endGpi (h.outputs ?_ ?_) completed
    · rfl
    · rfl

/-- The transition of an event started. -/
theorem BlockWork.startTransition (h : BlockWork day s0 s) (e : Event) : BlockWork day s0 (startTransition e s) := by
  unfold Machine.startTransition
  split
  · exact h.outputs rfl rfl
  · exact h

/-! ## The endings (R153 to R155) -/

/-- The DISENGAGE of an ending. -/
theorem BlockWork.disengageIfEngaged (h : BlockWork day s0 s) (p : Port) :
    BlockWork day s0 (disengageIfEngaged p s) := by
  unfold Machine.disengageIfEngaged
  split
  · exact (h.handCommand p rfl).setSeq rfl rfl
  · exact h

/-- The SEQUENCER chase records removed. -/
theorem BlockWork.removeSeqChases (h : BlockWork day s0 s) (d : DeckSet) : BlockWork day s0 (removeSeqChases d s) := by
  refine h.foldl (fun s p hs => ?_) _
  split
  · exact hs.port (p := p) (fun k => k.removeChase)
  · exact hs

/-- The final step of an edit. -/
theorem BlockWork.finalStep (h : BlockWork day s0 s) : BlockWork day s0 (finalStep s) := by
  have h1 := h.freePorts ((s.seq.decks.map deckPorts).getD [])
  have h2 := h1.trans (t := Machine.setSeq (fun _ => .idle) (Machine.freePorts ((s.seq.decks.map deckPorts).getD []) s))
    ⟨rfl, rfl, fun _ => rfl, fun _ => ⟨_, rfl⟩, fun _ => id, fun std hs =>
      (h1.onDay std hs).setSeq (by simp [Sequencer.idle]) (by simp [Sequencer.idle])⟩
  unfold Machine.finalStep
  dsimp only
  split
  · exact h2.raise nofun (fun _ => trivial)
  · exact h2

/-- The ending of an edit. -/
theorem BlockWork.endEdit (h : BlockWork day s0 s) (x : Edit) (o : EditOutcome) (early : Option FaultClass)
    (completed : Bool) : BlockWork day s0 (endEdit x o early completed s) := by
  have h2 := (h.disengageIfEngaged x.decks.recorder).foldl (f := fun s p => seqAct p .halt s)
    (fun s p hs => hs.port (fun k => k.seqAct .halt)) (deckPorts x.decks)
  have h4 := ((h2.removeSeqChases x.decks).endOutputs x.mode completed).setSeq
    (f := fun q => { q with
      closing := true
      outcome := some (endReport x o early (finalWrite x.mode o s.seq.slipped s.seq.engaged x.event.key) q) }) rfl rfl
  unfold Machine.endEdit
  dsimp only
  split
  · exact h4.setSeq rfl rfl
  · exact BlockWork.finalStep (h4.setSeq rfl rfl)

/-- A fault of the running edit. -/
theorem BlockWork.faultEdit (h : BlockWork day s0 s) (c : FaultClass) : BlockWork day s0 (faultEdit c s) := by
  unfold Machine.faultEdit
  split
  · exact h
  · split
    · exact h
    · exact h.endEdit _ _ _ _

/-- A fault that in POSTROLL cuts the edit short. -/
theorem BlockWork.faultOrCutShort (h : BlockWork day s0 s) (c : FaultClass) :
    BlockWork day s0 (faultOrCutShort c s) := by
  unfold Machine.faultOrCutShort
  split
  · exact h
  · split
    · exact h.endEdit _ _ _ _
    · exact h.endEdit _ _ _ _

/-! ## The reports (R140, R145, R146, R150 to R152) -/

/-- A deck of the edit lost. -/
theorem BlockWork.deckFault (h : BlockWork day s0 s) (p : Port) : BlockWork day s0 (deckFault p s) := by
  unfold Machine.deckFault
  split
  · exact h
  · split
    · exact h.faultOrCutShort _
    · exact h

/-- A cue success reported. -/
theorem BlockWork.seqCued (h : BlockWork day s0 s) (p : Port) : BlockWork day s0 (seqCued p s) := by
  unfold Machine.seqCued
  split
  · exact h.setSeq rfl rfl
  · exact h

/-- A cue failure reported. -/
theorem BlockWork.seqCueFailed (h : BlockWork day s0 s) (p : Port) (why : CueReason) :
    BlockWork day s0 (seqCueFailed p why s) := by
  unfold Machine.seqCueFailed
  split
  · split
    · exact h.faultEdit _
    · exact h.faultEdit _
    · exact h
  · exact h

/-- A change of the recording tracks reported. -/
theorem BlockWork.confirmTracks (h : BlockWork day s0 s) (x : Edit) (k : TrackSet) :
    BlockWork day s0 (confirmTracks x k s) := by
  unfold Machine.confirmTracks
  split
  · exact h
  · split
    · split
      · exact h.setSeq rfl rfl
      · exact h
    · split
      · exact h.faultEdit _
      · exact h

/-- The record inhibit flag set. -/
theorem BlockWork.inhibitFault (h : BlockWork day s0 s) (x : Edit) : BlockWork day s0 (inhibitFault x s) := by
  unfold Machine.inhibitFault
  split
  · exact h.faultOrCutShort _
  · exact h

/-- A change of condition reported. -/
theorem BlockWork.seqCondition (h : BlockWork day s0 s) (p : Port) (old new : Condition) :
    BlockWork day s0 (seqCondition p old new s) := by
  have threaded : BlockWork day s0 (if old.threaded ∧ !new.threaded ∧ (s.transport p).state ≠ .standby ∧
      (s.transport p).state ≠ .waking then Machine.deckFault p s else s) := by
    split
    · exact h.deckFault p
    · exact h
  have inhibit : ∀ u, BlockWork day s0 u → BlockWork day s0 (match liveEdit u with
      | some x => if p = x.decks.recorder ∧ new.inhibit ∧ !old.inhibit then Machine.inhibitFault x u else u
      | none => u) := by
    intro u hu
    split
    · split
      · exact hu.inhibitFault _
      · exact hu
    · exact hu
  have tracks : ∀ u, BlockWork day s0 u → BlockWork day s0 (match liveEdit u with
      | some x => if p = x.decks.recorder ∧ old.tracks ≠ new.tracks then Machine.confirmTracks x new.tracks u else u
      | none => u) := by
    intro u hu
    split
    · split
      · exact hu.confirmTracks _ _
      · exact hu
    · exact hu
  exact tracks _ (inhibit _ threaded)

/-- A report of the chase servo. -/
theorem BlockWork.seqChaseReport (h : BlockWork day s0 s) (r : ChaseReport) :
    BlockWork day s0 (seqChaseReport r s) := by
  unfold Machine.seqChaseReport
  split
  · exact h
  · split
    · exact h.setSeq rfl rfl
    · exact h.faultEdit _
    · exact h.faultEdit _
    · exact h

/-- The loss of the reference reported. -/
theorem BlockWork.seqReferenceLost (h : BlockWork day s0 s) : BlockWork day s0 (seqReferenceLost s) := by
  unfold Machine.seqReferenceLost
  split
  · split
    · exact h.faultEdit _
    · exact h
  · exact h

/-- A cue failure reported to its requester. -/
theorem BlockWork.reportCueFailed (h : BlockWork day s0 s) (f : CueFailure) :
    BlockWork day s0 (reportCueFailed f s) := by
  unfold Machine.reportCueFailed
  split
  · exact h
  · exact h.seqCueFailed _ _
  · exact h.port (p := f.port) (fun k => k.chaseCueFailed f.reason)

/-! ## The roll and the moments (R140 to R148) -/

/-- A new SEQUENCER chase record has its anchors on the day. -/
theorem chaseDay_seqChase (std : FrameStd) (x : Edit) (n k : Nat) : ChaseDay std (seqChase std x n k) := by
  have master : OnDay std (onDay std (x.event.recIn * 64)) := onDay_onDay _ _
  have chaser : OnDay std (onDay std (n * 64)) := onDay_onDay _ _
  exact ⟨master, chaser, by simp [seqChase], by simp [seqChase]⟩

/-- The chase records of a roll. -/
theorem BlockWork.setSeqChases (h : BlockWork day s0 s) (x : Edit) : BlockWork day s0 (setSeqChases x s) := by
  have put : ∀ u p n k, BlockWork day s0 u → s.std = u.std →
      BlockWork day s0 (u.setChase p (some (seqChase s.std x n k))) := by
    intro u p n k hu hstd
    refine hu.port (p := p) (fun w => w.putChase fun std hd => ?_)
    rw [hstd, (hu.onDay std hd).std_eq]
    exact chaseDay_seqChase _ _ _ _
  have toPort : BlockWork day s0 (match x.decks.toPort with
      | some p => s.setChase p (some (seqChase s.std x x.event.toSrc.start (eventRate x.event)))
      | none => s) := by
    split
    · exact put _ _ _ _ h rfl
    · exact h
  have hstd : s.std = (match x.decks.toPort with
      | some p => s.setChase p (some (seqChase s.std x x.event.toSrc.start (eventRate x.event)))
      | none => s).std := by
    split <;> rfl
  unfold Machine.setSeqChases
  dsimp only
  split
  · exact put _ _ _ _ toPort hstd
  · exact toPort

/-- The PLAYs of a roll. -/
theorem BlockWork.askPlays (h : BlockWork day s0 s) (x : Edit) : BlockWork day s0 (askPlays x s) := by
  have play : ∀ n : Nat, ∀ s p, BlockWork day s0 s → BlockWork day s0 (seqAct p (.play n) s) :=
    fun n s p hs => hs.port (fun k => k.seqAct (.play n))
  exact ((play 1024 _ _ h).foldl (play _) _).foldl (play 1024) _

/-- The roll. -/
theorem BlockWork.roll (h : BlockWork day s0 s) (x : Edit) : BlockWork day s0 (roll x s) := by
  have h1 := h.setSeq (f := fun q => { q with rollFrame := some s.frame }) rfl rfl
  unfold Machine.roll
  dsimp only
  split
  · exact BlockWork.setSeq (h1.askPlays x) rfl rfl
  · refine BlockWork.setSeq (BlockWork.armTriggers (((h1.setSeqChases x).askPlays x).outputs ?_ ?_) _ _ _) rfl rfl
    · rfl
    · rfl

/-- The engage moment. -/
theorem BlockWork.engageMoment (h : BlockWork day s0 s) (x : Edit) : BlockWork day s0 (engageMoment x s) := by
  unfold Machine.engageMoment
  dsimp only
  split
  · split
    · exact h.faultEdit _
    · split
      · exact h.faultEdit _
      · unfold engage
        dsimp only
        split
        · exact BlockWork.setSeq (h.handCommand _ rfl) rfl rfl
        · exact h.setSeq rfl rfl
  · exact h

/-- The record-in moment. -/
theorem BlockWork.recordInMoment (h : BlockWork day s0 s) (x : Edit) : BlockWork day s0 (recordInMoment x s) := by
  unfold Machine.recordInMoment
  extract_lets phase
  split
  · split
    · exact h.setSeq rfl rfl
    · exact BlockWork.startTransition (h.setSeq rfl rfl) _
  · exact h

/-- The confirmation deadline. -/
theorem BlockWork.deadlineMoment (h : BlockWork day s0 s) (x : Edit) : BlockWork day s0 (deadlineMoment x s) := by
  have h1 := h.setSeq (f := fun q => { q with deadlineTaken := true }) rfl rfl
  unfold Machine.deadlineMoment
  dsimp only
  split
  · split
    · exact h1
    · exact h1.faultEdit _
  · exact h

/-- The release moment. -/
theorem BlockWork.releaseMoment (h : BlockWork day s0 s) (x : Edit) : BlockWork day s0 (releaseMoment x s) := by
  unfold Machine.releaseMoment
  split
  · split
    · exact h.faultEdit _
    · unfold release
      dsimp only
      split
      · exact BlockWork.setSeq (h.handCommand _ rfl) rfl rfl
      · exact h.setSeq rfl rfl
  · exact h

/-- The bound on the engage moment. -/
theorem BlockWork.engageTimeout (h : BlockWork day s0 s) : BlockWork day s0 (engageTimeout s) := by
  unfold Machine.engageTimeout
  split
  · exact h.faultEdit _
  · exact h

/-- The bound on the release moment. -/
theorem BlockWork.releaseTimeout (h : BlockWork day s0 s) (x : Edit) : BlockWork day s0 (releaseTimeout x s) := by
  unfold Machine.releaseTimeout
  split
  · exact h.faultEdit _
  · exact h

/-- The completion of an edit. -/
theorem BlockWork.postrollEndWork (h : BlockWork day s0 s) (x : Edit) : BlockWork day s0 (postrollEndWork x s) := by
  unfold Machine.postrollEndWork
  split
  · exact h.endEdit _ _ _ _
  · exact h

/-- The recorder's frame given to the GPI unit. -/
theorem BlockWork.gpiMoment (h : BlockWork day s0 s) (x : Edit) : BlockWork day s0 (gpiMoment x s) := by
  unfold Machine.gpiMoment
  split
  · exact h.testTriggers _
  · exact h

/-- The moments of one frame. -/
theorem BlockWork.moments (h : BlockWork day s0 s) (x : Edit) : BlockWork day s0 (moments x s) :=
  (((((((h.engageMoment x).recordInMoment x).deadlineMoment x).releaseMoment x).engageTimeout).releaseTimeout
    x).postrollEndWork x).gpiMoment x

/-- The recorder's frame taken from its tracker. -/
theorem BlockWork.recorderFrame (h : BlockWork day s0 s) (x : Edit) :
    BlockWork day s0 { s with recorderFrame := recorderPos x s / 64 } :=
  h.trans ⟨rfl, rfl, fun _ => rfl, fun _ => ⟨_, rfl⟩, fun _ => id, fun std hs =>
    { h.onDay std hs with recorderFrame := ((h.onDay std hs).tracker x.decks.recorder).frame_lt }⟩

/-- The sequencer's work for a frame. -/
theorem BlockWork.seqFrame (h : BlockWork day s0 s) : BlockWork day s0 (seqFrame s) := by
  unfold Machine.seqFrame
  split
  · exact h
  · dsimp only
    split
    · split
      · exact (h.recorderFrame _).roll _
      · exact h.recorderFrame _
    · exact (h.recorderFrame _).moments _

/-! ## A frame (R62, R86, R112, R117, R140) -/

/-- Failures reported one after another. -/
theorem BlockWork.reportCues {r : State × List CueFailure} (h : BlockWork day s0 r.1) : BlockWork day s0 (reportCues r) :=
  h.foldl (fun _ _ hs => hs.reportCueFailed _) _

/-- The transport controller's work for a frame. -/
theorem BlockWork.transportFrame (h : BlockWork day s0 s) : BlockWork day s0 (transportFrame s) := by
  refine BlockWork.reportCues ?_
  exact List.foldlRecOn (motive := fun r : State × List CueFailure => BlockWork day s0 r.1) allPorts _ h
    (fun _ hr _ _ => hr.port (fun k => k.transportPort))

/-- The chase servo's work for a frame. -/
theorem BlockWork.chaseFrame (h : BlockWork day s0 s) : BlockWork day s0 (chaseFrame s).1 :=
  List.foldlRecOn (motive := fun r : State × List ChaseReport => BlockWork day s0 r.1) allPorts _ h
    (fun _ hr _ _ => hr.port (fun k => k.chasePort))

/-- The chase servo's work for a frame with its reports. -/
theorem BlockWork.chaseAndReport (h : BlockWork day s0 s) : BlockWork day s0 (chaseAndReport s) :=
  h.chaseFrame.foldl (fun _ _ hs => hs.seqChaseReport _) _

end

end Sys2Proof.Machine

end

-- ==== Positions through every operation ====
section
/-! Positions stay on the day (R2, R112) through the field events, the replies, the requests and the settings, and so
through every step. -/

namespace Sys2Proof.Machine

section
variable {std : FrameStd} {s : State}

/-- Work for one port keeps positions on the day. -/
theorem OnTheDay.viaPort {t : State} (h : OnTheDay std s) (p : Port)
    (k : PortWork (some std) p s s → PortWork (some std) p s t) : OnTheDay std t :=
  (k (h.work p)).onDay std rfl

/-- Work of the blocks keeps positions on the day. -/
theorem OnTheDay.viaBlocks {t : State} (h : OnTheDay std s) (k : BlockWork (some std) s s → BlockWork (some std) s t) :
    OnTheDay std t :=
  (k h.blocks).onDay std rfl

/-- Work done for each entry of a list. -/
theorem OnTheDay.foldl {α : Type} {f : State → α → State} (h : OnTheDay std s)
    (hf : ∀ s a, OnTheDay std s → OnTheDay std (f s a)) (l : List α) : OnTheDay std (l.foldl f s) :=
  List.foldlRecOn l f h (fun s hs a _ => hf s a hs)

/-! ## Field events (R12 to R19, R112) -/

/-- A tracker carried one frame on stays on the day. -/
theorem onDay_predict {k : Tracker} (h : OnDay std k.position) (v : Int) : OnDay std (predict std v k).position := by
  unfold predict advanceBy
  dsimp only
  split
  · exact h
  · exact onDay_posAdd _ _ _

/-- The trackers' work for a frame. -/
theorem OnTheDay.trackerFrame (h : OnTheDay std s) : OnTheDay std (trackerFrame s) := by
  refine { h with tracker := fun p => ?_ }
  have : (Machine.trackerFrame s).tracker p = predict s.std (s.transport p).speed (s.tracker p) := PerPort.get_mapAll _ _ _
  rw [this, h.std_eq]
  exact onDay_predict (h.tracker p) _

/-- The poll countdowns changed. -/
theorem OnTheDay.countdowns (h : OnTheDay std s) (f : Port → DeckPort → Nat) :
    OnTheDay std { s with ports := s.ports.mapAll (fun p d => { d with countdown := f p d }) } := by
  refine { h with port := fun p => ?_ }
  have : ({ s with ports := s.ports.mapAll (fun p d => { d with countdown := f p d }) } : State).port p =
      { s.port p with countdown := f p (s.port p) } := PerPort.get_mapAll _ _ _
  rw [this]
  exact { h.port p with }

/-- The countdowns shortened at the end of a command. -/
theorem OnTheDay.shortenPolls (h : OnTheDay std s) : OnTheDay std (shortenPolls s) :=
  h.countdowns (fun p d => min d.countdown (cadence s p))

/-- The work of every block for a frame event. -/
theorem OnTheDay.frameWork (h : OnTheDay std s) : OnTheDay std (frameWork s) := by
  have h1 : OnTheDay std (countdownFrame { s with frame := s.frame + 1 }) :=
    OnTheDay.countdowns (s := { s with frame := s.frame + 1 }) { h with } (fun _ d => d.countdown - 1)
  exact h1.trackerFrame.viaBlocks (fun k => k.transportFrame.chaseAndReport.seqFrame)

/-- The field index counted. -/
theorem OnTheDay.indexField (h : OnTheDay std s) : OnTheDay std (indexField s) := by
  unfold Machine.indexField
  split
  · exact { h with }
  · exact h

/-- The outputs held when an edit's stop comes before its field. -/
theorem OnTheDay.stopBeforeField (h : OnTheDay std s) (before worked : State) :
    OnTheDay std (stopBeforeField before worked s) := by
  unfold Machine.stopBeforeField
  split
  · exact { h with }
  · exact h

/-- A field event. -/
theorem OnTheDay.fieldEvent (h : OnTheDay std s) (y : Parity) (stopFirst : Bool) :
    OnTheDay std (fieldEvent y stopFirst s) := by
  have h1 : OnTheDay std (gpiField (mixField (Machine.indexField { s with ref := { s.ref with parity := y } }))) :=
    { OnTheDay.indexField (s := { s with ref := { s.ref with parity := y } }) { h with } with }
  unfold Machine.fieldEvent
  dsimp only
  split
  · exact h1
  · split
    · exact h1.frameWork.stopBeforeField _ _
    · exact h1.frameWork

/-- The loss of the reference. -/
theorem OnTheDay.loseReference (h : OnTheDay std s) (m : Nat) (lossFirst stopFirst : Bool) :
    OnTheDay std (loseReference m lossFirst stopFirst s) := by
  have lost : ∀ u, OnTheDay std u → OnTheDay std (seqReferenceLost u) :=
    fun u hu => hu.viaBlocks (fun k => k.seqReferenceLost)
  have h1 : OnTheDay std { s with ref := { s.ref with state := .lost, goodRun := 0, lastSeen := none, lastField := m } } :=
    { h with }
  unfold Machine.loseReference
  dsimp only
  cases lossFirst
  · exact lost _ ((h1.fieldEvent _ _).raise trivial)
  · exact ((lost _ h1).fieldEvent _ _).raise trivial

/-- The reference restored. -/
theorem OnTheDay.restoreReference (h : OnTheDay std s) (time : Nat) : OnTheDay std (restoreReference time s) :=
  OnTheDay.raise (s := { s with ref := { s.ref with state := .present, lastAccepted := some time } }) { h with } trivial

/-- A pulse while LOST. -/
theorem OnTheDay.lostPulse (h : OnTheDay std s) (time : Nat) : OnTheDay std (lostPulse time s) := by
  have h1 : ∀ run, OnTheDay std { s with ref := { s.ref with goodRun := run, lastSeen := some time } } := fun _ => { h with }
  unfold Machine.lostPulse
  extract_lets good run
  split
  · exact (h1 run).restoreReference time
  · exact h1 run

/-- A field pulse. -/
theorem OnTheDay.fieldPulseWork (h : OnTheDay std s) (time : Nat) (field1 stopFirst : Bool) :
    OnTheDay std (fieldPulseWork time field1 stopFirst s) := by
  have accept : OnTheDay std (acceptPulse time field1 stopFirst s) :=
    OnTheDay.fieldEvent (s := { s with ref := { s.ref with lastAccepted := some time } }) { h with } _ _
  unfold Machine.fieldPulseWork
  split
  · exact h.lostPulse time
  · split
    · exact accept
    · split
      · exact (h.loseReference _ _ _).lostPulse time
      · split
        · exact accept
        · exact h

/-- The loss timer. -/
theorem OnTheDay.referenceLossWork (h : OnTheDay std s) (lossFirst stopFirst : Bool) :
    OnTheDay std (referenceLossWork lossFirst stopFirst s) := by
  unfold Machine.referenceLossWork
  split
  · exact h.loseReference _ _ _
  · exact h

/-- The restoration by itself. -/
theorem OnTheDay.referenceRestoredWork (h : OnTheDay std s) : OnTheDay std (referenceRestoredWork s) := by
  unfold Machine.referenceRestoredWork
  split
  · split
    · exact h.restoreReference _
    · exact h
  · exact h

/-- A field of the internal timebase. -/
theorem OnTheDay.internalFieldWork (h : OnTheDay std s) (stopFirst : Bool) :
    OnTheDay std (internalFieldWork stopFirst s) := by
  unfold Machine.internalFieldWork
  split
  · exact OnTheDay.fieldEvent (s := { s with ref := { s.ref with lastField := s.ref.lastField + period s.std } }) { h with } _ _
  · exact h

/-! ## Samples (R113 to R115) -/

/-- A sample accepted as a jump. -/
theorem OnTheDay.jump (h : OnTheDay std s) (p : Port) {x : Nat} (hx : OnDay std x) : OnTheDay std (jump p x s) := by
  have h1 := h.setTracker (p := p) (k := acceptSample x (s.tracker p)) hx
  unfold Machine.jump
  dsimp only
  split
  · rename_i c hc
    refine h1.setChase ?_
    rintro _ ⟨⟩
    exact { h.chase p c hc with }
  · exact h1

/-- A sample taken. -/
theorem OnTheDay.takeSample (h : OnTheDay std s) (p : Port) (tested : Bool) {x : Nat} (hx : OnDay std x) :
    OnTheDay std (takeSample p tested x s) := by
  unfold Machine.takeSample
  dsimp only
  split
  · exact h.setTracker hx
  · split
    · exact h.jump p hx
    · exact h.setTracker (h.tracker p)

/-- A jump by itself. -/
theorem OnTheDay.sampleJumpWork (h : OnTheDay std s) (p : Port) (x : Nat) : OnTheDay std (sampleJumpWork p x s) := by
  have hx : OnDay std (onDay s.std x) := by
    rw [h.std_eq]
    exact onDay_onDay _ _
  unfold Machine.sampleJumpWork
  dsimp only
  split
  · exact h.jump p hx
  · exact h

/-- The known flag cleared. -/
theorem OnTheDay.forgetPosition (h : OnTheDay std s) (p : Port) : OnTheDay std (forgetPosition p s) :=
  h.setTracker (h.tracker p)

/-! ## The deck's line and modes (R65 to R69, R76 to R80) -/

/-- A cue failure told. -/
theorem OnTheDay.tellCueFailed (h : OnTheDay std s) (p : Port) (why : CueReason) (r : Requester) (n : Nat) {f : Option Nat}
    (hf : ∀ x ∈ f, x < fday std) : OnTheDay std (tellCueFailed p why r n f s) :=
  OnTheDay.viaBlocks (h.raise (n := .cueEnd p ⟨.failed why, r, n, f⟩) hf) (fun k => k.reportCueFailed _)

/-- The motions of a deck failed. -/
theorem OnTheDay.failMotions (h : OnTheDay std s) (p : Port) (why : CueReason) : OnTheDay std (failMotions p why s) := by
  have h1 : OnTheDay std (s.setTransport p { s.transport p with cue := none, motion := none }) :=
    h.setTransport ⟨by simp, by simp⟩
  have h2 : OnTheDay std (match (s.transport p).cue with
      | some c => Machine.tellCueFailed p why c.requester c.attempts c.lastStop
          (s.setTransport p { s.transport p with cue := none, motion := none })
      | none => s.setTransport p { s.transport p with cue := none, motion := none }) := by
    split
    · rename_i c hc
      exact h1.tellCueFailed _ _ _ _ ((h.transport p).cue c hc).2
    · exact h1
  unfold Machine.failMotions
  dsimp only
  split
  · exact h2.tellCueFailed _ _ _ _ (by simp)
  · exact h2

/-- A cue that succeeds. -/
theorem OnTheDay.cueSucceeds (h : OnTheDay std s) (p : Port) {c : Cue} (hc : CueDay std c) :
    OnTheDay std (cueSucceeds p c s) := by
  have h1 : OnTheDay std (enterState p .parked s) := h.viaPort p (fun k => k.enterState _)
  have h2 := h1.setTransport (p := p) (t := { (enterState p .parked s).transport p with cue := none })
    { h1.transport p with cue := by simp }
  have h3 := h2.raise (n := .cueEnd p ⟨.parked, c.requester, c.attempts, c.lastStop⟩) hc.2
  unfold Machine.cueSucceeds
  dsimp only
  split
  · exact h3
  · exact h3.viaBlocks (fun k => k.seqCued p)
  · refine OnTheDay.viaPort h3 p (fun k => ?_)
    unfold chaseCued
    split
    · rename_i r hr
      split
      · exact k.putChase (fun std' hd => { (k.onDay std' hd).chase p r hr with })
      · exact k
    · exact k

/-- The sequencer told of a deck it holds, or not. -/
theorem OnTheDay.deckFaultIf (h : OnTheDay std s) (p : Port) :
    OnTheDay std (if s.holder p = .sequencer then deckFault p s else s) := by
  split
  · exact h.viaBlocks (fun k => k.deckFault p)
  · exact h

/-- The line of a deck down. -/
theorem OnTheDay.lineDown (h : OnTheDay std s) (p : Port) (st : TransportState) : OnTheDay std (lineDown p st s) := by
  have h1 : OnTheDay std (enterState p st s) := h.viaPort p (fun k => k.enterState _)
  have h2 := (h1.setTransport (p := p) (t := { (enterState p st s).transport p with wakeCount := 0, wakeTaken := false })
    { h1.transport p with }).viaPort p (fun k => k.stillDeck)
  have h3 := h2.failMotions p .line
  refine OnTheDay.deckFaultIf ?_ p
  split
  · exact h3.forgetPosition p
  · exact h3.viaPort p (fun k => k.removeChase)

/-- A tape lost. -/
theorem OnTheDay.tapeLost (h : OnTheDay std s) (p : Port) : OnTheDay std (tapeLost p s) :=
  (h.forgetPosition p).viaPort p (fun k => k.removeChase)

/-- The waiting motions of a deck in STANDBY removed. -/
theorem OnTheDay.dropMotionCmds (h : OnTheDay std s) (p : Port) : OnTheDay std (dropMotionCmds p s) :=
  h.setPort { h.port p with commands := fun c hc => (h.port p).commands c (List.mem_of_mem_filter hc) }

/-- A state entered by a deck that stands. -/
theorem OnTheDay.stand (h : OnTheDay std s) (p : Port) (st : TransportState) :
    OnTheDay std (stillDeck p (enterState p st s)) :=
  h.viaPort p (fun k => (k.enterState st).stillDeck)

/-- The transport state taken from a mode. -/
theorem OnTheDay.stateFromMode (h : OnTheDay std s) (p : Port) (m : DeckMode) : OnTheDay std (stateFromMode p m s) := by
  have halted : OnTheDay std (handTransport p .halt s) :=
    h.viaPort p (fun k => k.handTransport rfl (fun _ _ => cmdDay_of_none rfl))
  unfold Machine.stateFromMode
  split
  · exact (h.stand p _).tapeLost p
  · exact (h.stand p _).dropMotionCmds p
  · exact h.stand p _
  · exact h.stand p _
  · exact halted.stand p _

/-- A DECK notice raised. -/
theorem OnTheDay.raiseDeck (h : OnTheDay std s) (p : Port) (c : Option Condition) : OnTheDay std (raiseDeck p c s) :=
  h.raise trivial

/-- Tape out. -/
theorem OnTheDay.tapeGone (h : OnTheDay std s) (p : Port) (c : Condition) : OnTheDay std (tapeGone p c s) := by
  have h1 := h.stand p .empty
  have h2 := (h1.setTransport (p := p) (t := { (stillDeck p (enterState p .empty s)).transport p with wakeCount := 0 })
    { h1.transport p with }).failMotions p .tape
  exact ((h2.raiseDeck p (some c)).tapeLost p).deckFaultIf p

/-- A deck gone to standby unasked. -/
theorem OnTheDay.unaskedStandby (h : OnTheDay std s) (p : Port) (c : Condition) : OnTheDay std (unaskedStandby p c s) := by
  have h1 := (((h.stand p .standby).dropMotionCmds p).failMotions p .standby).raiseDeck p (some c)
  refine OnTheDay.deckFaultIf (h1.viaPort p (fun k => ?_)) p
  unfold chaserStandby
  split
  · rename_i r hr
    split
    · exact k.parkChase (fun std' hd => (k.onDay std' hd).chase p r hr)
    · exact k
  · exact k

/-- The verify of a stopped deck. -/
theorem OnTheDay.verifyCue (h : OnTheDay std s) (p : Port) {x : Nat} {c : Cue} (hx : OnDay std x) (hc : CueDay std c) :
    OnTheDay std (verifyCue p x c s) := by
  have hc1 : CueDay std { c with lastStop := some (x / 64) } := ⟨hc.1, by rintro _ ⟨⟩; exact hx.frame_lt⟩
  unfold Machine.verifyCue
  dsimp only
  split
  · exact h.cueSucceeds p hc1
  · split
    · have h1 : OnTheDay std (handTransport p (.seek c.target) s) :=
        h.viaPort p (fun k => k.handTransport rfl (by rintro _ ⟨⟩; exact cmdDay_seek hc.1))
      refine h1.setTransport { h1.transport p with cue := ?_ }
      rintro _ ⟨⟩
      exact hc1
    · exact OnTheDay.viaBlocks (h.viaPort p (fun k => k.cueGivenUp .attempts (by rintro _ ⟨⟩; exact hc1)))
        (fun k => k.reportCueFailed _)

/-- A good reply of a CUEING deck. -/
theorem OnTheDay.cueReply (h : OnTheDay std s) (p : Port) (kind : CmdKind) (c : Condition) {x : Nat} (hx : OnDay std x) :
    OnTheDay std (cueReply p kind c x s) := by
  unfold Machine.cueReply
  split
  · exact h
  · rename_i q hq
    have hd := (h.transport p).cue q hq
    split
    · split
      · refine h.setTransport { h.transport p with cue := ?_ }
        rintro _ ⟨⟩
        exact hd
      · exact h
    · split
      · exact h.verifyCue p hx hd
      · exact h

/-- What a good reply's mode does. -/
theorem OnTheDay.modeReply (h : OnTheDay std s) (p : Port) (kind : CmdKind) (c : Condition) {x : Nat} (hx : OnDay std x) :
    OnTheDay std (modeReply p kind c x s) := by
  unfold Machine.modeReply
  split
  · exact h
  · exact h
  · exact h
  · exact (h.stateFromMode p _).raiseDeck p _
  · exact h.tapeGone p c
  · exact h
  · split
    · exact h.setTransport { h.transport p with }
    · exact h
  · exact h.unaskedStandby p c
  · exact h.cueReply p kind c hx
  · exact h

/-- The changes of the reported condition. -/
theorem OnTheDay.conditionChange (h : OnTheDay std s) (p : Port) (old : Option Condition) (new : Condition) :
    OnTheDay std (conditionChange p old new s) := by
  unfold Machine.conditionChange
  split
  · exact h
  · rename_i o
    have tell : ∀ u, OnTheDay std u → OnTheDay std (if u.holder p = .sequencer then seqCondition p o new u else u) := by
      intro u hu
      split
      · exact hu.viaBlocks (fun k => k.seqCondition p o new)
      · exact hu
    refine tell _ ?_
    split
    · exact h.raiseDeck p _
    · exact h

/-- The mode and flags of a good reply taken. -/
theorem OnTheDay.takeCondition (h : OnTheDay std s) (p : Port) (kind : CmdKind) (c : Condition) {x : Nat}
    (hx : OnDay std x) : OnTheDay std (takeCondition p kind c x s) := by
  have h1 := h.setTransport (p := p) (t := { s.transport p with condition := some c }) { h.transport p with }
  exact (h1.modeReply p kind c hx).conditionChange p _ c

/-! ## The end of an exchange (R60 to R69) -/

/-- The line state of a port put, its commands emptied unless it is ONLINE. -/
theorem OnTheDay.setLine0 (h : OnTheDay std s) (p : Port) (l : LineState) : OnTheDay std (setLine0 p l s) := by
  refine h.setPort { h.port p with commands := fun c hc => ?_ }
  dsimp only at hc
  split at hc
  · exact (h.port p).commands c hc
  · simp at hc

/-- Entry to OFFLINE. -/
theorem OnTheDay.goOffline (h : OnTheDay std s) (p : Port) : OnTheDay std (goOffline p s) := by
  have h1 := h.setLine0 p .offline
  have h2 := h1.setPort (p := p) (d := { (Machine.setLine0 p .offline s).port p with countdown := 25 }) { h1.port p with }
  exact (h2.lineDown p .offline).raiseDeck p _

/-- What waits after a command returned. -/
theorem mem_returned {c d : DeckCmd} {cs : List DeckCmd} (h : d ∈ returned c cs) : d = c ∨ d ∈ cs := by
  unfold returned at h
  split at h
  · exact .inr h
  · exact .inr h
  · split at h
    · exact .inr h
    · exact List.mem_cons.1 h

/-- A miss. -/
theorem OnTheDay.miss (h : OnTheDay std s) (p : Port) {c : DeckCmd} (hc : CmdDay std c) : OnTheDay std (miss p c s) := by
  have h1 : OnTheDay std (s.setPort p { s.port p with
      misses := min 4 ((s.port p).misses + 1)
      commands := if (s.port p).line = .online then returned c (s.port p).commands else (s.port p).commands }) := by
    refine h.setPort { h.port p with commands := fun d hd => ?_ }
    dsimp only at hd
    split at hd
    · rcases mem_returned hd with rfl | hd
      · exact hc
      · exact (h.port p).commands d hd
    · exact (h.port p).commands d hd
  unfold Machine.miss
  dsimp only
  split
  · exact h1.goOffline p
  · exact h1.viaPort p (fun k => k.overrideRelease)

/-- What a good reply's remote flag does. -/
theorem OnTheDay.lineReply (h : OnTheDay std s) (p : Port) (c : Condition) : OnTheDay std (lineReply p c s) := by
  have panel := ((h.setLine0 p .panel).lineDown p .panel).raiseDeck p (some c)
  have online := ((h.setLine0 p .online).stateFromMode p c.mode).raiseDeck p (some c)
  unfold Machine.lineReply
  split
  · exact h
  · exact panel
  · exact online
  · exact h
  · exact online
  · exact panel

/-- The reels and the notices are what a tape-out report changes. -/
theorem OnTheDay.setReel (h : OnTheDay std s) (i : Nat) (r : Option Reel) : OnTheDay std (setReel i r s) := by
  unfold Machine.setReel
  split
  · exact h
  · exact { h with }

/-- The mount of a reel changed. -/
theorem OnTheDay.setMount (h : OnTheDay std s) (i : Nat) (q : Option Port) : OnTheDay std (setMount i q s) := by
  unfold Machine.setMount
  split
  · exact h.setReel _ _
  · exact h

/-- A tape-out report. -/
theorem OnTheDay.tapeOut (h : OnTheDay std s) (p : Port) : OnTheDay std (tapeOut p s) := by
  unfold Machine.tapeOut
  split
  · exact h
  · split
    · exact (h.setMount _ _).raise trivial
    · exact h

/-- The guard against recording. -/
theorem OnTheDay.recordGuard (h : OnTheDay std s) (p : Port) (sent : DeckCmd) (c : Condition) :
    OnTheDay std (recordGuard p sent c s) := by
  rcases recordGuard_cases p sent c s with ⟨e, -⟩ | e
  · rw [e]
    exact h.handCommand (cmdDay_of_none rfl)
  · rw [e]
    exact h

/-- A good reply with a position on the day. -/
theorem OnTheDay.goodReply (h : OnTheDay std s) (p : Port) (x : Exchange) (c : Condition) {n : Nat} (hn : OnDay std n) :
    OnTheDay std (goodReply p x c n s) := by
  have h1 := (h.setPort (p := p) (d := { s.port p with misses := 0 }) { h.port p with }).lineReply p c
  have h2 := h1.setPort (p := p)
    (d := { (Machine.lineReply p c (s.setPort p { s.port p with misses := 0 })).port p with
      lastReply := some { condition := c, position := n, frame := x.frame } })
    { h1.port p with lastReply := by rintro _ ⟨⟩; exact hn }
  have sample : ∀ u, OnTheDay std u → OnTheDay std (if c.mode = .noTape then u
      else Machine.takeSample p (sampleTested (u.tracker p) (u.transport p)) n u) := by
    intro u hu
    split
    · exact hu
    · exact hu.takeSample p _ hn
  have out : ∀ u, OnTheDay std u → OnTheDay std (if c.mode = .noTape then Machine.tapeOut p u else u) := by
    intro u hu
    split
    · exact hu.tapeOut p
    · exact hu
  exact (out _ ((sample _ h2).takeCondition p _ c hn)).recordGuard p _ c

/-- The position that a reply spells lies on the day. -/
theorem replyPosition_onDay {b : List Byte} {i n : Nat} (h : replyPosition std b i = some n) : OnDay std n := by
  unfold replyPosition at h
  split at h
  · dsimp only at h
    split at h
    · rename_i hr
      simp only [Bool.and_eq_true, decide_eq_true_eq] at hr
      obtain rfl := Option.some.inj h
      exact onDay_of_frame (frameOf_moved_lt hr.1) hr.2
    · cases h
  · cases h

/-- The position of a good reply lies on the day. -/
theorem readReply_onDay {k : CmdKind} {chars : List LineChar} {c : Condition} {n : Nat}
    (h : readReply std k chars = some (c, n)) : OnDay std n := by
  unfold readReply at h
  dsimp only at h
  split at h
  · split at h
    · rename_i hp
      obtain ⟨-, rfl⟩ := Prod.mk.inj (Option.some.inj h)
      exact replyPosition_onDay hp
    · cases h
  · cases h

/-- The outcome of an exchange dealt with. -/
theorem OnTheDay.endExchange (h : OnTheDay std s) (p : Port) {r : Option (Condition × Nat)}
    (hr : ∀ x ∈ r, OnDay std x.2) : OnTheDay std (endExchange p r s) := by
  have load : ∀ u, OnTheDay std u → OnTheDay std (reload p u) := fun u hu => hu.setPort { hu.port p with }
  unfold Machine.endExchange
  split
  · exact h
  · rename_i x hx
    have h1 : OnTheDay std (closeExchange p s) := h.setPort { h.port p with exchange := by simp }
    refine load _ ?_
    split
    · rename_i c n
      exact h1.goodReply p x c (hr (c, n) rfl)
    · exact h1.miss p ((h.port p).exchange x hx)

/-- A deck reply. -/
theorem OnTheDay.deckReplyWork (h : OnTheDay std s) (p : Port) (chars : List LineChar) :
    OnTheDay std (deckReplyWork p chars s) := by
  unfold Machine.deckReplyWork
  split
  · exact h
  · refine h.endExchange p (fun r hr => ?_)
    rw [h.std_eq] at hr
    exact readReply_onDay hr

/-- A port found OFFLINE. -/
theorem OnTheDay.portOfflineWork (h : OnTheDay std s) (p : Port) : OnTheDay std (portOfflineWork p s) := by
  unfold Machine.portOfflineWork
  split
  · exact h.goOffline p
  · exact h

/-- A poll moment. -/
theorem OnTheDay.pollWork (h : OnTheDay std s) (p : Port) : OnTheDay std (pollWork p s) := by
  unfold Machine.pollWork
  dsimp only
  split
  · refine h.setPort { h.port p with commands := fun c hc => (h.port p).commands c (List.mem_of_mem_tail hc), exchange := ?_ }
    rintro _ ⟨⟩
    cases hc : (s.port p).commands with
    | nil => exact cmdDay_of_none rfl
    | cons c cs => exact (h.port p).commands c (by simp [hc])
  · exact h

/-! ## Timed steps of the transport controller (R86, R89, R91) -/

/-- A cue timeout. -/
theorem OnTheDay.cueTimeoutWork (h : OnTheDay std s) (p : Port) : OnTheDay std (cueTimeoutWork p s) :=
  (h.viaPort p (fun k => k.cueTimesOut)).viaBlocks (fun k => BlockWork.reportCues k)

/-- The end of a wake. -/
theorem OnTheDay.wakeEndWork (h : OnTheDay std s) (p : Port) : OnTheDay std (wakeEndWork p s) := by
  unfold Machine.wakeEndWork
  split
  · exact h.viaPort p (fun k => k.endWake)
  · exact h

/-- A standby timeout. -/
theorem OnTheDay.standbyTimeoutWork (h : OnTheDay std s) (p : Port) : OnTheDay std (standbyTimeoutWork p s) := by
  unfold Machine.standbyTimeoutWork
  split
  · exact h.viaPort p (fun k => k.sendToStandby)
  · exact h

end

end Sys2Proof.Machine

end

-- ==== Positions through the requests, and every step ====
section
/-! Positions stay on the day through the requests and the settings, and so through every step (R2, R112). -/

namespace Sys2Proof.Machine

/-! ## Chains of checks -/

/-- A condition that passes lets the chain go on. -/
theorem check_bind_eq_ok {α : Type} {c : Bool} {r : Reason} {f : Unit → Except Reason α} {a : α} :
    (check c r >>= f) = .ok a ↔ c = true ∧ f () = .ok a := by
  cases c <;> simp [check, bind, Except.bind]

/-- A value that is there lets the chain go on with it. -/
theorem need_bind_eq_ok {α β : Type} {v : Option β} {r : Reason} {f : β → Except Reason α} {a : α} :
    (need v r >>= f) = .ok a ↔ ∃ x, v = some x ∧ f x = .ok a := by
  cases v <;> simp [need, bind, Except.bind]

/-- The end of a chain. -/
theorem pure_eq_ok {α : Type} {a b : α} : (pure a : Except Reason α) = .ok b ↔ a = b := by
  simp [pure, Except.pure]

section
variable {std : FrameStd} {s : State}

/-! ## Answers -/

/-- An answer made. -/
theorem OnTheDay.putAnswer (h : OnTheDay std s) (a : Answer) : OnTheDay std (putAnswer a s) := { h with }

/-- A request carried out. -/
theorem OnTheDay.answer (h : OnTheDay std s) (code : Nat) (st : Status) (out : List Byte) :
    OnTheDay std (answer code st out s) := { h with }

/-- A request refused. -/
theorem OnTheDay.refuse (h : OnTheDay std s) (code : Nat) (r : Reason) : OnTheDay std (refuse code r s) := { h with }

/-! ## The sequencer's arms and runs (R138, R139, R163, R164) -/

/-- The hold lookup changes the list alone. -/
theorem holdLookup_eq {key : Nat} {e : Event} {t : State} (h : holdLookup key s = some (e, t)) :
    t = { s with list := workAhead key s.list } ∧ findKey (workAhead key s.list) key = some e := by
  unfold holdLookup at h
  dsimp only at h
  split at h
  · rename_i hf
    obtain ⟨rfl, rfl⟩ := Prod.mk.inj (Option.some.inj h)
    exact ⟨rfl, hf⟩
  · cases h

/-- The hold lookup leaves positions. -/
theorem OnTheDay.holdLookup (h : OnTheDay std s) {key : Nat} {e : Event} {t : State}
    (hl : holdLookup key s = some (e, t)) : OnTheDay std t := by
  obtain ⟨rfl, -⟩ := holdLookup_eq hl
  exact { h with }

/-- The cue points of an edit lie on the day. -/
theorem cuePointsOnDay_cuePointsFor (std : FrameStd) (d : DeckSet) (e : Event) (r : Nat) :
    CuePointsOnDay std (cuePointsFor std d e r) := by
  refine ⟨onDay_onDay _ _, fun x hx => ?_, fun x hx => ?_⟩
  · obtain ⟨_, -, rfl⟩ := Option.map_eq_some_iff.1 hx
    exact onDay_onDay _ _
  · unfold cuePointsFor at hx
    dsimp only at hx
    split at hx
    · obtain rfl := Option.some.inj hx
      exact onDay_onDay _ _
    · cases hx

/-- The cues of an arm. -/
theorem OnTheDay.askCues (h : OnTheDay std s) (d : DeckSet) {c : CuePoints} (hc : CuePointsOnDay std c) :
    OnTheDay std (askCues d c s) := by
  have cue : ∀ u p x, OnTheDay std u → OnDay std x → OnTheDay std (seqCue p x u) :=
    fun u p x hu hx => hu.viaPort p (fun k => k.seqCue (by rintro _ ⟨⟩; exact hx))
  have h1 := cue _ d.recorder _ h hc.1
  have h2 : OnTheDay std (match d.toPort, c.toPos with
      | some p, some x => seqCue p x (seqCue d.recorder c.recorder s)
      | _, _ => seqCue d.recorder c.recorder s) := by
    split
    · rename_i x _ hx
      exact cue _ _ _ h1 (hc.2.1 x hx)
    · exact h1
  unfold Machine.askCues
  dsimp only
  split
  · rename_i x _ hx
    exact cue _ _ _ h2 (hc.2.2 x hx)
  · exact h2

/-- Ports claimed. -/
theorem OnTheDay.claimPorts (h : OnTheDay std s) (x : Holder) (ps : List Port) : OnTheDay std (claimPorts x ps s) := by
  refine h.foldl (fun u p hu => ?_) ps
  have h1 := hu.setHolder (p := p) (x := x)
  exact (h1.setTransport (p := p) (t := { (u.setHolder p x).transport p with standbyTimer := 0 })
    { h1.transport p with }).viaPort p (fun k => k.overrideRelease)

/-- The arm of an edit. -/
theorem OnTheDay.arm (h : OnTheDay std s) (m : Mode) (e : Event) (d : DeckSet) {run : Option Run}
    (hr : ∀ r ∈ run, RunDay std r) : OnTheDay std (arm m e d run s) := by
  have hc : CuePointsOnDay std (cuePointsFor s.std d e (prerollFor s e)) := by
    rw [h.std_eq]
    exact cuePointsOnDay_cuePointsFor _ _ _ _
  have h1 := (h.claimPorts .sequencer (deckPorts d)).setSeq (f := fun _ => armedRecord m e d run s)
    (by rintro c ⟨⟩; exact hc) hr
  exact h1.askCues d hc

/-- The end of a run. -/
theorem OnTheDay.endRun (h : OnTheDay std s) (why : RunReason) (key : Option Nat) {run : Run} (hr : RunDay std run) :
    OnTheDay std (endRun why key run s) :=
  (h.viaBlocks (fun k => k.finalStep)).raise hr

/-- The next candidate of a run. -/
theorem OnTheDay.nextCandidate (h : OnTheDay std s) {run : Run} (hr : RunDay std run) :
    OnTheDay std (nextCandidate run s) := by
  have hrun : ∀ r ∈ some run, RunDay std r := by rintro _ ⟨⟩; exact hr
  unfold Machine.nextCandidate
  split
  · exact h.endRun _ _ hr
  · rename_i e s1 hl
    obtain ⟨_, -, hl⟩ := Option.bind_eq_some_iff.1 hl
    have h1 := h.holdLookup hl
    split
    · exact (h1.viaBlocks (fun k => k.finalStep)).arm _ _ _ hrun
    · exact h1.setSeq h1.cuePoints hrun

/-- The passage from one edit of a run to the next. -/
theorem OnTheDay.passOn (h : OnTheDay std s) (o : Option RunReason) (key : Nat) {run : Run} (hr : RunDay std run) :
    OnTheDay std (passOn o key run s) := by
  unfold Machine.passOn
  split
  · exact h.endRun _ _ hr
  · exact h.nextCandidate hr

/-- A finished event leaves the range of the run. -/
theorem runDay_finishEvent {run : Run} (h : RunDay std run) (w : Option EventStatus) (n k : Nat) :
    RunDay std (finishEvent w n k run) := by
  unfold finishEvent countWritten
  split <;> exact h

/-- The handed write taken. -/
theorem OnTheDay.takeHanded (h : OnTheDay std s) (ending : Bool) : OnTheDay std (takeHanded ending s) := by
  have taken : ∀ w, OnTheDay std (writeTaken w s) := fun _ => { h with }
  unfold Machine.takeHanded
  split
  · exact h
  · dsimp only
    split
    · rename_i run _ _ hr _ _
      exact (taken _).passOn _ _ (runDay_finishEvent (h.run run hr) _ _ _)
    · exact (taken _).viaBlocks (fun k => k.finalStep)
  · dsimp only
    split
    · rename_i run hr
      exact (taken _).passOn _ _ (runDay_finishEvent (h.run run hr) _ _ _)
    · exact (taken _).viaBlocks (fun k => k.finalStep)

/-- STATUS_WRITE. -/
theorem OnTheDay.statusWriteWork (h : OnTheDay std s) : OnTheDay std (statusWriteWork s) := by
  unfold Machine.statusWriteWork
  split
  · exact h
  · exact h.takeHanded false

/-! ## The list (R29 to R48) -/

/-- READ BY POSITION. -/
theorem OnTheDay.readByPositionOwner (h : OnTheDay std s) (body : List Byte) :
    OnTheDay std (readByPositionOwner body s) := by
  unfold Machine.readByPositionOwner
  dsimp only
  split
  · exact h.answer _ _ _
  · exact h.putAnswer _

/-- READ BY KEY. -/
theorem OnTheDay.readByKeyOwner (h : OnTheDay std s) (body : List Byte) : OnTheDay std (readByKeyOwner body s) := by
  unfold Machine.readByKeyOwner
  dsimp only
  split
  · exact h.answer _ _ _
  · exact h.refuse _ _

/-- FIND. -/
theorem OnTheDay.findOwner (h : OnTheDay std s) (body : List Byte) : OnTheDay std (findOwner body s) := by
  unfold Machine.findOwner
  split
  · exact h.answer _ _ _
  · exact h.refuse _ _

/-- LIST STATUS. -/
theorem OnTheDay.listStatusOwner (h : OnTheDay std s) (body : List Byte) : OnTheDay std (listStatusOwner body s) :=
  h.answer _ _ _

/-- INSERT. -/
theorem OnTheDay.insertOwner (h : OnTheDay std s) (body : List Byte) : OnTheDay std (insertOwner body s) := by
  unfold Machine.insertOwner
  dsimp only
  split
  · exact OnTheDay.answer h.setList _ _ _
  · exact h.refuse _ _

/-- REPLACE. -/
theorem OnTheDay.replaceOwner (h : OnTheDay std s) (body : List Byte) : OnTheDay std (replaceOwner body s) := by
  unfold Machine.replaceOwner
  split
  · exact OnTheDay.answer h.setList _ _ _
  · exact h.refuse _ _

/-- TRIM. -/
theorem OnTheDay.trimOwner (h : OnTheDay std s) (body : List Byte) : OnTheDay std (trimOwner body s) := by
  unfold Machine.trimOwner
  split
  · exact OnTheDay.answer h.setList _ _ _
  · exact h.refuse _ _

/-- DELETE. -/
theorem OnTheDay.deleteOwner (h : OnTheDay std s) (body : List Byte) : OnTheDay std (deleteOwner body s) := by
  unfold Machine.deleteOwner
  dsimp only
  split
  · exact OnTheDay.answer h.setList _ _ _
  · exact h.refuse _ _

/-- CLEAR LIST. -/
theorem OnTheDay.clearListOwner (h : OnTheDay std s) (body : List Byte) : OnTheDay std (clearListOwner body s) := by
  unfold Machine.clearListOwner
  split
  · exact OnTheDay.answer h.setList _ _ _
  · exact h.refuse _ _

/-- RIPPLE. -/
theorem OnTheDay.rippleOwner (h : OnTheDay std s) (body : List Byte) : OnTheDay std (rippleOwner body s) := by
  unfold Machine.rippleOwner
  dsimp only
  split
  · exact OnTheDay.answer h.setList _ _ _
  · exact h.refuse _ _

/-! ## The reels (R102 to R109) -/

/-- DEFINE REEL. -/
theorem OnTheDay.defineReelOwner (h : OnTheDay std s) (body : List Byte) : OnTheDay std (defineReelOwner body s) := by
  unfold Machine.defineReelOwner
  dsimp only
  split
  · exact (h.setReel _ _).answer _ _ _
  · exact h.refuse _ _

/-- RENAME. -/
theorem OnTheDay.renameOwner (h : OnTheDay std s) (body : List Byte) : OnTheDay std (renameOwner body s) := by
  unfold Machine.renameOwner
  dsimp only
  split
  · exact (h.setReel _ _).answer _ _ _
  · exact h.refuse _ _

/-- RETIRE from its fourth step on. -/
theorem OnTheDay.retireStep (h : OnTheDay std s) (body : List Byte) : OnTheDay std (retireStep body s) := by
  unfold Machine.retireStep
  dsimp only
  split
  · split
    · exact h.refuse _ _
    · exact (h.setReel _ _).answer _ _ _
  · exact h.refuse _ _

/-- RETIRE. -/
theorem OnTheDay.retireOwner (h : OnTheDay std s) (body : List Byte) : OnTheDay std (retireOwner body s) := by
  unfold Machine.retireOwner
  split
  · exact h.retireStep body
  · exact h.refuse _ _

/-- A mount cleared where there is one. -/
theorem OnTheDay.clearMount (h : OnTheDay std s) (i : Option Nat) :
    OnTheDay std (match i with
      | some j => Machine.setMount j none s
      | none => s) := by
  split
  · exact h.setMount _ _
  · exact h

/-- MOUNT. -/
theorem OnTheDay.mountOwner (h : OnTheDay std s) (body : List Byte) : OnTheDay std (mountOwner body s) := by
  unfold Machine.mountOwner
  dsimp only
  split
  · exact ((h.clearMount _).setMount _ _).answer _ _ _
  · exact h.refuse _ _

/-- UNMOUNT. -/
theorem OnTheDay.unmountOwner (h : OnTheDay std s) (body : List Byte) : OnTheDay std (unmountOwner body s) := by
  unfold Machine.unmountOwner
  dsimp only
  split
  · exact (h.clearMount _).answer _ _ _
  · exact h.refuse _ _

/-- READ REEL. -/
theorem OnTheDay.readReelOwner (h : OnTheDay std s) (body : List Byte) : OnTheDay std (readReelOwner body s) := by
  unfold Machine.readReelOwner
  dsimp only
  split
  · exact h.refuse _ _
  · exact h.answer _ _ _
  · exact h.answer _ _ _

/-- FIND REEL. -/
theorem OnTheDay.findReelOwner (h : OnTheDay std s) (body : List Byte) : OnTheDay std (findReelOwner body s) := by
  unfold Machine.findReelOwner
  dsimp only
  split
  · exact h.refuse _ _
  · split
    · exact h.refuse _ _
    · exact h.answer _ _ _

/-! ## The decks and the claim table (R71, R81, R83, R94 to R97) -/

/-- PORT STATUS. -/
theorem OnTheDay.portStatusOwner (h : OnTheDay std s) (body : List Byte) : OnTheDay std (portStatusOwner body s) := by
  unfold Machine.portStatusOwner
  split
  · exact h.refuse _ _
  · exact h.answer _ _ _

/-- TRANSPORT. -/
theorem OnTheDay.transportOwner (h : OnTheDay std s) (body : List Byte) : OnTheDay std (transportOwner body s) := by
  unfold Machine.transportOwner
  split
  · rename_i p a _
    exact OnTheDay.answer (h.viaPort p (fun k => k.act .console a)) _ _ _
  · exact h.refuse _ _

/-- The frame that CUE asks for lies on the day. -/
theorem cueChecks_frame {body : List Byte} {p : Port} {n : Nat} {moved : Bool}
    (h : cueChecks body s = .ok (p, n, moved)) : n < fday s.std := by
  simp only [cueChecks, need_bind_eq_ok] at h
  obtain ⟨⟨n', moved'⟩, hl, p', -, h⟩ := h
  cases hm : manualChecks s p' with
  | error r => simp [hm, bind, Except.bind] at h
  | ok u =>
    simp only [hm, bind, Except.bind, pure_eq_ok, Prod.mk.injEq] at h
    obtain ⟨-, rfl, -⟩ := h
    exact readLabel_lt hl

/-- CUE. -/
theorem OnTheDay.cueOwner (h : OnTheDay std s) (body : List Byte) : OnTheDay std (cueOwner body s) := by
  unfold Machine.cueOwner
  split
  · rename_i p n moved hc
    have hn : OnDay std (n * 64) := onDay_of_frame_start (h.std_eq ▸ cueChecks_frame hc)
    exact OnTheDay.answer (h.viaPort p (fun k => k.beginCue .console (by rintro _ ⟨⟩; exact hn))) _ _ _
  · exact h.refuse _ _

/-- TRANSPORT STATUS. -/
theorem OnTheDay.transportStatusOwner (h : OnTheDay std s) (body : List Byte) :
    OnTheDay std (transportStatusOwner body s) := by
  unfold Machine.transportStatusOwner
  split
  · exact h.refuse _ _
  · exact h.answer _ _ _

/-- A claim by the console. -/
theorem OnTheDay.claimAnswer (h : OnTheDay std s) (code : Nat) (granted : Bool) (ps : List Port) :
    OnTheDay std (claimAnswer code granted ps s) := by
  unfold Machine.claimAnswer
  split
  · exact (h.claimPorts _ _).answer _ _ _
  · exact h.putAnswer _

/-- CLAIM SET. -/
theorem OnTheDay.claimSetOwner (h : OnTheDay std s) (body : List Byte) : OnTheDay std (claimSetOwner body s) := by
  unfold Machine.claimSetOwner
  split
  · exact h.refuse _ _
  · exact h.claimAnswer _ _ _

/-- CLAIM EXCLUSIVE. -/
theorem OnTheDay.claimExclusiveOwner (h : OnTheDay std s) (body : List Byte) :
    OnTheDay std (claimExclusiveOwner body s) := by
  unfold Machine.claimExclusiveOwner
  split
  · exact h.refuse _ _
  · exact h.claimAnswer _ _ _

/-- TEST SET. -/
theorem OnTheDay.testSetOwner (h : OnTheDay std s) (body : List Byte) : OnTheDay std (testSetOwner body s) := by
  unfold Machine.testSetOwner
  split
  · exact h.refuse _ _
  · exact h.answer _ _ _

/-- RELEASE SET. -/
theorem OnTheDay.releaseSetOwner (h : OnTheDay std s) (body : List Byte) : OnTheDay std (releaseSetOwner body s) := by
  unfold Machine.releaseSetOwner
  split
  · exact h.refuse _ _
  · refine OnTheDay.answer (h.foldl (fun u p hu => ?_) _) _ _ _
    have h1 := hu.setHolder (p := p) (x := .free)
    unfold releasePort chaserFreed
    split
    · split
      · exact h1.viaPort p (fun k => k.removeChase)
      · exact h1
    · exact h1

/-! ## The chase servo and the tracker (R123, R131, R132) -/

/-- CHASE. -/
theorem OnTheDay.chaseOwner (h : OnTheDay std s) (body : List Byte) : OnTheDay std (chaseOwner body s) := by
  unfold Machine.chaseOwner
  dsimp only
  split
  · refine OnTheDay.answer (h.setChase ?_) _ _ _
    rintro _ ⟨⟩
    rw [h.std_eq]
    have chaser : OnDay std (onDay std (clampInt 86399 (signedLong body 2) * 64)) := onDay_onDay _ _
    exact ⟨dayLength_pos std, chaser, by simp [manualChase], by simp [manualChase]⟩
  · exact h.refuse _ _

/-- CHASE STOP. -/
theorem OnTheDay.chaseStopOwner (h : OnTheDay std s) (body : List Byte) : OnTheDay std (chaseStopOwner body s) := by
  unfold Machine.chaseStopOwner
  split
  · rename_i p _
    exact OnTheDay.answer (h.viaPort p (fun k => (k.chaseAct .halt).removeChase)) _ _ _
  · exact h.refuse _ _

/-- TRACK STATUS. -/
theorem OnTheDay.trackStatusOwner (h : OnTheDay std s) (body : List Byte) : OnTheDay std (trackStatusOwner body s) := by
  unfold Machine.trackStatusOwner
  split
  · exact h.refuse _ _
  · exact h.answer _ _ _

/-! ## The edits and the runs (R135, R156, R160) -/

/-- PERFORM, PREVIEW and REVIEW. -/
theorem OnTheDay.editOwner (h : OnTheDay std s) (m : Mode) (body : List Byte) : OnTheDay std (editOwner m body s) := by
  unfold Machine.editOwner
  split
  · exact h.refuse _ _
  · unfold armStep
    split
    · exact h.refuse _ _
    · rename_i e s1 hl
      have h1 := h.holdLookup hl
      split
      · exact h1.refuse _ _
      · exact (h1.arm _ _ _ (by simp)).answer _ _ _

/-- ABORT. -/
theorem OnTheDay.abortOwner (h : OnTheDay std s) (body : List Byte) : OnTheDay std (abortOwner body s) := by
  unfold Machine.abortOwner
  split
  · exact h.refuse _ _
  · split
    · exact h.answer _ _ _
    · exact OnTheDay.answer (h.viaBlocks (fun k => k.faultOrCutShort .abort)) _ _ _

/-- A run that ended before an event was armed. -/
theorem OnTheDay.runEndedAtOnce (h : OnTheDay std s) (why : RunReason) (key : Option Nat) (moved : Bool) {run : Run}
    (hr : RunDay std run) : OnTheDay std (runEndedAtOnce why key moved run s) :=
  OnTheDay.answer (h.raise (n := .runEnd (runReport why key run)) hr) _ _ _

/-- The candidates of RUN. -/
theorem OnTheDay.runCandidates (h : OnTheDay std s) (moved : Bool) (used : List Byte) (fuel : Nat) {run : Run}
    (hr : RunDay std run) : OnTheDay std (runCandidates moved used fuel run s) := by
  induction fuel generalizing s run with
  | zero => exact h.runEndedAtOnce _ _ _ hr
  | succ fuel ih =>
    unfold Machine.runCandidates
    split
    · split
      · exact h.refuse _ _
      · exact h.runEndedAtOnce _ _ _ hr
    · rename_i e s1 hl
      obtain ⟨_, -, hl⟩ := Option.bind_eq_some_iff.1 hl
      have h1 := h.holdLookup hl
      split
      · exact (h1.arm _ _ _ (by rintro _ ⟨⟩; exact hr)).answer _ _ _
      · have hr1 := runDay_finishEvent hr (some (.skipped (skipClass ‹Reason›))) e.recIn e.key
        dsimp only
        split
        · exact OnTheDay.runEndedAtOnce h1.setList _ _ _ hr1
        · exact ih h1.setList hr1

/-- The range of the run that RUN asks for lies on the day. -/
theorem runFields_day {body : List Byte} {run : Run} {moved : Bool} (h : runFields body s = .ok (run, moved)) :
    RunDay s.std run := by
  simp only [runFields, need_bind_eq_ok, check_bind_eq_ok, pure_eq_ok, Prod.mk.injEq] at h
  obtain ⟨⟨a, ma⟩, ha, ⟨b, mb⟩, hb, m, -, -, rfl, -⟩ := h
  exact ⟨readLabel_lt ha, readLabel_lt hb⟩

/-- RUN from its sixth step on. -/
theorem OnTheDay.runStep (h : OnTheDay std s) (body : List Byte) : OnTheDay std (runStep body s) := by
  unfold Machine.runStep
  split
  · rename_i run moved hf
    split
    · exact h.refuse _ _
    · exact h.runCandidates _ _ _ (h.std_eq ▸ runFields_day hf)
  · exact h.refuse _ _

/-- RUN. -/
theorem OnTheDay.runOwner (h : OnTheDay std s) (body : List Byte) : OnTheDay std (runOwner body s) := by
  unfold Machine.runOwner
  split
  · exact h.runStep body
  · exact h.refuse _ _

/-! ## The notices and RESET (R191, R192) -/

/-- TAKE NOTICE. -/
theorem OnTheDay.takeNoticeOwner (h : OnTheDay std s) (body : List Byte) : OnTheDay std (takeNoticeOwner body s) := by
  unfold Machine.takeNoticeOwner
  split
  · exact h.answer _ _ _
  · rename_i n rest hn
    have h1 : OnTheDay std { s with notices := rest } :=
      { h with notices := fun m hm => h.notices m (hn ▸ List.mem_cons_of_mem n hm) }
    exact h1.answer _ _ _

/-- A deck's part of RESET. -/
theorem OnTheDay.resetDeck (h : OnTheDay std s) (p : Port) : OnTheDay std (resetDeck p s) := by
  have h1 := h.setTransport (p := p) (t := { s.transport p with cue := none, standbyTimer := 0 })
    { h.transport p with cue := by simp }
  unfold Machine.resetDeck
  dsimp only
  split
  · exact h1
  · exact h1
  · exact h1
  · exact h1
  · exact h1.setTransport { h1.transport p with motion := by simp }
  · exact h1.viaPort p (fun k => (k.handTransport rfl (fun _ _ => cmdDay_of_none rfl)).enterState _)

/-- The blocks' parts of RESET in the decks. -/
theorem OnTheDay.resetDecks (h : OnTheDay std s) : OnTheDay std (resetDecks s) := by
  have h1 := h.foldl (f := fun s p => Machine.resetDeck p (s.setHolder p .free))
    (fun u p hu => OnTheDay.resetDeck hu.setHolder p) allPorts
  refine { h1 with port := fun p => ?_, chase := fun p c hc => ?_ }
  · have : (Machine.resetDecks s).port p =
        { (allPorts.foldl (fun s p => Machine.resetDeck p (s.setHolder p .free)) s).port p with permission := false } :=
      PerPort.get_mapAll _ _ _
    rw [this]
    exact { h1.port p with }
  · have : (Machine.resetDecks s).chase p = none := PerPort.get_const _ _
    rw [this] at hc
    cases hc

/-- RESET with no ripple in flight. -/
theorem OnTheDay.resetRest (h : OnTheDay std s) : OnTheDay std (resetRest s) := by
  have h1 := (h.viaBlocks (fun k => k.faultOrCutShort .abort)).takeHanded true
  have h2 : OnTheDay std (resetDisengage (Machine.takeHanded true (abortEdit s))) := by
    unfold resetDisengage
    split
    · exact h1.handCommand (cmdDay_of_none rfl)
    · exact h1
  have quiet : ∀ u, OnTheDay std u → OnTheDay std { quietGpi (blackMix u) with notices := [] } :=
    fun u hu => { hu with notices := by simp }
  exact (quiet _ h2.resetDecks).answer _ _ _

/-- RESET. -/
theorem OnTheDay.resetOwner (h : OnTheDay std s) (body : List Byte) : OnTheDay std (resetOwner body s) := by
  unfold Machine.resetOwner
  split
  · exact { h.viaBlocks (fun k => k.faultOrCutShort .abort) with }
  · exact h.resetRest

/-! ## The end of a ripple chunk (R49, R53) -/

/-- A request that waited taken up. -/
theorem OnTheDay.takeUp (h : OnTheDay std s) (w : Waiting) : OnTheDay std (takeUp w s) := by
  unfold Machine.takeUp
  split
  · exact h.readByPositionOwner _
  · exact h.readByKeyOwner _
  · exact h.findOwner _
  · exact h.listStatusOwner _
  · exact h.insertOwner _
  · exact h.replaceOwner _
  · exact h.trimOwner _
  · exact h.deleteOwner _
  · exact h.clearListOwner _
  · exact h.rippleOwner _
  · exact h.retireStep _
  · exact h.readReelOwner _
  · exact h.findReelOwner _
  · exact h.editOwner _ _
  · exact h.editOwner _ _
  · exact h.editOwner _ _
  · exact h.runStep _
  · split
    · exact h
    · exact h.resetRest
  · exact h

/-- The end of a chunk. -/
theorem OnTheDay.rippleChunkEndWork (h : OnTheDay std s) (sequencerFirst : Bool) :
    OnTheDay std (rippleChunkEndWork sequencerFirst s) := by
  have waiting : ∀ u, OnTheDay std u → OnTheDay std (takeWaiting u) := by
    intro u hu
    unfold takeWaiting
    split
    · exact hu.takeUp _
    · exact hu
  have both : ∀ u, OnTheDay std u → OnTheDay std (takeBoth sequencerFirst u) := by
    intro u hu
    unfold takeBoth
    split
    · exact waiting _ (hu.takeHanded _)
    · exact (waiting _ hu).takeHanded _
  unfold Machine.rippleChunkEndWork
  split
  · refine both _ ?_
    dsimp only
    split
    · exact h.setList
    · exact OnTheDay.raise h.setList trivial
  · exact h

/-! ## The settings (R2, R193 to R196) -/

/-- A position reduced lies on the new day. -/
theorem onDay_reducePos (std : FrameStd) (n : Nat) : OnDay std (reducePos std n) := Nat.mod_lt _ (dayLength_pos std)

/-- An optional position reduced lies on the new day. -/
theorem onDay_map_reducePos (std : FrameStd) (o : Option Nat) : ∀ x ∈ o.map (reducePos std), OnDay std x := by
  intro x hx
  obtain ⟨n, -, rfl⟩ := Option.map_eq_some_iff.1 hx
  exact onDay_reducePos std n

/-- A command reduced. -/
theorem cmdDay_reduceCmd (std : FrameStd) (c : DeckCmd) : CmdDay std (reduceCmd std c) := by
  cases c with
  | seek n => exact cmdDay_seek (onDay_reducePos std n)
  | _ => exact cmdDay_of_none rfl

/-- A deck port reduced. -/
theorem portDay_reducePort (std : FrameStd) (d : DeckPort) : PortDay std (reducePort std d) := by
  refine ⟨fun c hc => ?_, fun e he => ?_, fun r hr => ?_⟩
  · obtain ⟨c', -, rfl⟩ := List.mem_map.1 hc
    exact cmdDay_reduceCmd std c'
  · obtain ⟨e', -, rfl⟩ := Option.map_eq_some_iff.1 he
    exact cmdDay_reduceCmd std _
  · obtain ⟨r', -, rfl⟩ := Option.map_eq_some_iff.1 hr
    exact onDay_reducePos std _

/-- A pending motion reduced. -/
theorem motionDay_reduceMotion (std : FrameStd) (m : PendingMotion) : MotionDay std (reduceMotion std m) := by
  obtain ⟨r, m⟩ := m
  cases m with
  | cue x n => exact motionDay_cue (onDay_reducePos std x)
  | _ => exact motionDay_of_none rfl

/-- A transport record reduced. -/
theorem transportDay_reduceTransport (std : FrameStd) (t : Transport) : TransportDay std (reduceTransport std t) := by
  refine ⟨fun c hc => ?_, fun m hm => ?_⟩
  · obtain ⟨c', -, rfl⟩ := Option.map_eq_some_iff.1 hc
    refine ⟨onDay_reducePos std _, fun f hf => ?_⟩
    obtain ⟨n, -, rfl⟩ := Option.map_eq_some_iff.1 hf
    exact Nat.mod_lt _ (fday_pos std)
  · obtain ⟨m', -, rfl⟩ := Option.map_eq_some_iff.1 hm
    exact motionDay_reduceMotion std m'

/-- A chase record reduced. -/
theorem chaseDay_reduceChase (std : FrameStd) (c : Chase) : ChaseDay std (reduceChase std c) :=
  ⟨onDay_reducePos std _, onDay_reducePos std _, onDay_map_reducePos std _, onDay_map_reducePos std _⟩

/-- A block with the standard in force put. -/
theorem OnTheDay.setBlock (h : OnTheDay std s) {b : SystemBlock} (hb : b.std = std) :
    OnTheDay std { s with live := { s.live with system := b } } := { h with std_eq := hb }

/-- Every position lies on the day of a new standard once the block with it is put; the sequencer is IDLE (R2). -/
theorem onTheDay_changeStandard {b : SystemBlock} (hb : b.std = std) (hs : s.seq = .idle) :
    OnTheDay std { changeStandard std s with live := { (changeStandard std s).live with system := b } } := by
  have port (p : Port) : (changeStandard std s).port p = reducePort std (s.port p) := PerPort.get_mapAll _ _ _
  have transport (p : Port) : (changeStandard std s).transport p = reduceTransport std (s.transport p) :=
    PerPort.get_mapAll _ _ _
  have tracker (p : Port) : (changeStandard std s).tracker p =
      { s.tracker p with position := reducePos std (s.tracker p).position } := PerPort.get_mapAll _ _ _
  have chase (p : Port) : (changeStandard std s).chase p = (s.chase p).map (reduceChase std) := PerPort.get_mapAll _ _ _
  refine ⟨hb, fun p => ?_, fun p => ?_, fun p => ?_, fun p c hc => ?_, Nat.mod_lt _ (fday_pos std), fun c hc => ?_,
    fun r hr => ?_, fun n hn => ?_⟩
  · exact (port p) ▸ portDay_reducePort std (s.port p)
  · exact (transport p) ▸ transportDay_reduceTransport std (s.transport p)
  · have := tracker p
    change OnDay std ((changeStandard std s).tracker p).position
    rw [this]
    exact onDay_reducePos std _
  · change c ∈ (changeStandard std s).chase p at hc
    rw [chase p] at hc
    obtain ⟨c', -, rfl⟩ := Option.map_eq_some_iff.1 hc
    exact chaseDay_reduceChase std c'
  · change c ∈ s.seq.cuePoints at hc
    simp [hs, Sequencer.idle] at hc
  · change r ∈ s.seq.run at hr
    simp [hs, Sequencer.idle] at hr
  · obtain ⟨m, -, rfl⟩ := List.mem_map.1 (show n ∈ s.notices.map (reduceNotice std) from hn)
    exact reduceNotice_onDay std m

/-- The tests of SET SYSTEM let the standard change only with the sequencer IDLE (R193). -/
theorem systemChecks_idle {body : List Byte} {b : SystemBlock} {moved : Bool} (h : systemChecks body s = .ok (b, moved)) :
    b.std = s.std ∨ s.seq.phase = .idle := by
  simp only [systemChecks, need_bind_eq_ok, check_bind_eq_ok, pure_eq_ok, Prod.mk.injEq, Bool.and_eq_true,
    Bool.or_eq_true, decide_eq_true_eq] at h
  obtain ⟨⟨n, m⟩, -, -, -, ⟨hs, -⟩, -, -, rfl, -⟩ := h
  exact hs.imp id And.right

/-- A block of SET SYSTEM taken: the positions are on the day of its standard (R2, R193). -/
theorem positionsOnDay_setSystemBlock {b : SystemBlock} (h : OnTheDay s.std s) (hs : b.std = s.std ∨ s.seq = .idle) :
    PositionsOnDay (setSystemBlock b s) := by
  unfold setSystemBlock
  dsimp only
  split
  · rename_i hb
    exact (h.setBlock hb).positionsOnDay
  · rename_i hb
    exact (onTheDay_changeStandard rfl (hs.resolve_left hb)).positionsOnDay

/-- SET SYSTEM. -/
theorem positionsOnDay_setSystemOwner (h : OnTheDay std s) (hs : s.seq.phase = .idle → s.seq = .idle)
    (body : List Byte) : PositionsOnDay (setSystemOwner body s) := by
  obtain rfl := h.std_eq
  unfold setSystemOwner
  split
  · rename_i asked moved hc
    have hb : (clampSystem asked).std = s.std ∨ s.seq = .idle := (systemChecks_idle hc).imp id hs
    exact positionsOnDay_setSystemBlock h hb
  · exact (h.refuse _ _).positionsOnDay

/-- SET PROFILE. -/
theorem OnTheDay.setProfileOwner (h : OnTheDay std s) (body : List Byte) : OnTheDay std (setProfileOwner body s) := by
  unfold Machine.setProfileOwner
  split
  · exact h.refuse _ _
  · exact { h with }

/-- SET GPI. -/
theorem OnTheDay.setGpiOwner (h : OnTheDay std s) (body : List Byte) : OnTheDay std (setGpiOwner body s) := by
  unfold Machine.setGpiOwner
  split
  · exact h.refuse _ _
  · split
    · exact h.refuse _ _
    · refine OnTheDay.answer ?_ _ _ _
      unfold setGpiConfig
      dsimp only
      split
      · exact { h with }
      · exact { h with }

/-- READ SETTINGS. -/
theorem OnTheDay.readSettingsOwner (h : OnTheDay std s) (body : List Byte) :
    OnTheDay std (readSettingsOwner body s) := by
  unfold Machine.readSettingsOwner
  split
  · exact h.answer _ _ _
  · exact h.refuse _ _

/-- STORE SETTINGS. -/
theorem OnTheDay.storeSettingsOwner (h : OnTheDay std s) (body : List Byte) :
    OnTheDay std (storeSettingsOwner body s) := by
  unfold Machine.storeSettingsOwner
  split
  · exact h.refuse _ _
  · exact { h with }

/-- The end of a store. -/
theorem OnTheDay.storeEndWork (h : OnTheDay std s) (stop : Option StoreStop) : OnTheDay std (storeEndWork stop s) := by
  unfold Machine.storeEndWork
  split
  · exact h
  · refine OnTheDay.raise ?_ trivial
    exact { h with }

/-- Hardware reset leaves every position at 0 or absent, whatever the settings then are. -/
theorem onTheDay_reset (live : Settings) : OnTheDay live.system.std { State.reset with live := live } := by
  have port (p : Port) : ({ State.reset with live := live } : State).port p = DeckPort.initial := PerPort.get_const _ _
  have transport (p : Port) : ({ State.reset with live := live } : State).transport p = Transport.initial :=
    PerPort.get_const _ _
  have tracker (p : Port) : ({ State.reset with live := live } : State).tracker p = Tracker.initial :=
    PerPort.get_const _ _
  have chase (p : Port) : ({ State.reset with live := live } : State).chase p = none := PerPort.get_const _ _
  refine ⟨rfl, fun p => ?_, fun p => ?_, fun p => ?_, fun p => ?_, fday_pos _, by simp [State.reset, Sequencer.idle],
    by simp [State.reset, Sequencer.idle], by simp [State.reset]⟩
  · rw [port]
    exact ⟨by simp [DeckPort.initial], by simp [DeckPort.initial], by simp [DeckPort.initial]⟩
  · rw [transport]
    exact ⟨by simp [Transport.initial], by simp [Transport.initial]⟩
  · rw [tracker]
    exact dayLength_pos _
  · rw [chase]
    simp

/-- The end of the settings load: while it is in progress every position still stands as hardware reset left it. -/
theorem positionsOnDay_loadEndWork (h : PositionsOnDay s) (hr : ResetStill s) (read : Option (List Byte)) (time : Nat) :
    PositionsOnDay (loadEndWork read time s) := by
  unfold loadEndWork
  split
  · rename_i hin
    have hs := (hr hin).1
    have he : s = { State.reset with pending := s.pending, link := s.link } :=
      (congrArg (fun u : State => { u with pending := s.pending, link := s.link }) hs :)
    rw [he]
    have h1 := onTheDay_reset (loadOutcome read).1
    have h2 : OnTheDay (loadOutcome read).1.system.std
        ({ State.reset with
            pending := s.pending, link := s.link, inReset := false, live := (loadOutcome read).1
            ref := { State.reset.ref with lastField := time } } : State) := { h1 with }
    exact (h2.raise (n := .settings (loadOutcome read).2) trivial).positionsOnDay
  · exact h

end

/-! ## Every command -/

section
variable {s t : State}

/-- A command's work. -/
theorem PositionsOnDay.work {f : State → State} (h : PositionsOnDay s) (hf : OnTheDay s.std s → OnTheDay s.std (f s))
    (ht : work f s = .next t) : PositionsOnDay t := by
  obtain rfl : (if s.inReset then s else shortenPolls (f s)) = t := by simpa [Machine.work] using ht
  split
  · exact h
  · exact (hf (positionsOnDay_iff.1 h)).shortenPolls.positionsOnDay

/-- A request whose owner keeps positions on the day. -/
theorem PositionsOnDay.requestOf {code : Nat} {fits : List Byte → Bool} {waits : List Byte → State → Bool}
    {owner : List Byte → State → State} {body : List Byte} (h : PositionsOnDay s)
    (ho : OnTheDay s.std (taken body s) → PositionsOnDay (owner body (taken body s)))
    (ht : request code fits waits owner body s = .next t) : PositionsOnDay t := by
  have hd := positionsOnDay_iff.1 h
  have htaken : OnTheDay s.std (taken body s) := { hd with }
  rw [request_eq] at ht
  split at ht
  · obtain rfl := Host.Outcome.next.inj ht
    exact OnTheDay.positionsOnDay { hd with }
  · split at ht
    · obtain rfl := Host.Outcome.next.inj ht
      exact (htaken.refuse _ _).positionsOnDay
    · split at ht
      · obtain rfl := Host.Outcome.next.inj ht
        exact OnTheDay.positionsOnDay { htaken with }
      · obtain rfl := Host.Outcome.next.inj ht
        exact (positionsOnDay_iff.1 (ho htaken)).shortenPolls.positionsOnDay

/-- A request whose owner leaves the standard in force. -/
theorem PositionsOnDay.request {code : Nat} {fits : List Byte → Bool} {waits : List Byte → State → Bool}
    {owner : List Byte → State → State} {body : List Byte} (h : PositionsOnDay s)
    (ho : ∀ std u, OnTheDay std u → OnTheDay std (owner body u))
    (ht : request code fits waits owner body s = .next t) : PositionsOnDay t :=
  h.requestOf (fun k => (ho _ _ k).positionsOnDay) ht

/-- Every command keeps positions on the day. -/
theorem PositionsOnDay.exec (h : PositionsOnDay s) (hr : ResetStill s) (hs : SequencerWhole s) (c : Instr)
    (ht : exec c s = .next t) : PositionsOnDay t := by
  cases c with
  | hardwareReset =>
    obtain rfl := Host.Outcome.next.inj ht
    exact OnTheDay.positionsOnDay { onTheDay_reset .defaults with }
  | settingsLoadEnd read time =>
    obtain rfl := Host.Outcome.next.inj ht
    exact positionsOnDay_loadEndWork h hr read time
  | fieldPulse time field1 stopFirst => exact h.work (fun k => k.fieldPulseWork time field1 stopFirst) ht
  | referenceRestored => exact h.work (fun k => k.referenceRestoredWork) ht
  | referenceLoss lossFirst stopFirst => exact h.work (fun k => k.referenceLossWork lossFirst stopFirst) ht
  | goodFieldTimeout =>
    refine h.work (fun k => ?_) ht
    unfold goodFieldTimeoutWork
    split
    · exact { k with }
    · exact k
  | internalField stopFirst => exact h.work (fun k => k.internalFieldWork stopFirst) ht
  | sequencerRoll =>
    refine h.work (fun k => ?_) ht
    unfold sequencerRollWork
    split
    · split
      · exact k.viaBlocks (fun b => (b.recorderFrame _).roll _)
      · exact k
    · exact k
  | engageTimeout => exact h.work (fun k => k.viaBlocks (fun b => b.engageTimeout)) ht
  | releaseTimeout =>
    refine h.work (fun k => ?_) ht
    unfold releaseTimeoutWork
    split
    · exact k.viaBlocks (fun b => b.releaseTimeout _)
    · exact k
  | postrollEnd =>
    refine h.work (fun k => ?_) ht
    unfold postrollEndCommand
    split
    · exact k.viaBlocks (fun b => b.postrollEndWork _)
    · exact k
  | statusWrite => exact h.work (fun k => k.statusWriteWork) ht
  | rippleChunkEnd sequencerFirst => exact h.work (fun k => k.rippleChunkEndWork sequencerFirst) ht
  | flipFlop =>
    refine h.work (fun k => ?_) ht
    unfold flipFlopWork
    split
    · split
      · exact { k with }
      · exact k
    · exact k
  | gpiPulseEnd line =>
    refine h.work (fun k => ?_) ht
    unfold gpiPulseEndWork
    split
    · split
      · exact { k with }
      · exact k
    · exact k
  | pollMoment port => exact h.work (fun k => k.pollWork port) ht
  | deckReply port chars => exact h.work (fun k => k.deckReplyWork port chars) ht
  | replyTimeout port => exact h.work (fun k => k.endExchange port (by simp)) ht
  | portOffline port => exact h.work (fun k => k.portOfflineWork port) ht
  | sampleJump port sample => exact h.work (fun k => k.sampleJumpWork port sample) ht
  | cueTimeout port => exact h.work (fun k => k.cueTimeoutWork port) ht
  | wakeEnd port => exact h.work (fun k => k.wakeEndWork port) ht
  | standbyTimeout port => exact h.work (fun k => k.standbyTimeoutWork port) ht
  | fetch clocked =>
    obtain rfl := Host.Outcome.next.inj ht
    have hd := positionsOnDay_iff.1 h
    unfold fetchWork
    dsimp only
    split
    · exact OnTheDay.positionsOnDay { hd with }
    · exact OnTheDay.positionsOnDay { hd with }
  | unknownRequest code body =>
    exact h.request (fits := fun _ => false) (owner := fun _ s => s) (body := body) (fun _ _ k => k) ht
  | readByPosition body => exact h.request (fun _ _ k => k.readByPositionOwner body) ht
  | readByKey body => exact h.request (fun _ _ k => k.readByKeyOwner body) ht
  | find body => exact h.request (fun _ _ k => k.findOwner body) ht
  | listStatus body => exact h.request (fun _ _ k => k.listStatusOwner body) ht
  | insert body => exact h.request (fun _ _ k => k.insertOwner body) ht
  | replace body => exact h.request (fun _ _ k => k.replaceOwner body) ht
  | trim body => exact h.request (fun _ _ k => k.trimOwner body) ht
  | delete body => exact h.request (fun _ _ k => k.deleteOwner body) ht
  | clearList body => exact h.request (fun _ _ k => k.clearListOwner body) ht
  | ripple body => exact h.request (fun _ _ k => k.rippleOwner body) ht
  | portStatus body => exact h.request (fun _ _ k => k.portStatusOwner body) ht
  | transport body => exact h.request (fun _ _ k => k.transportOwner body) ht
  | cue body => exact h.request (fun _ _ k => k.cueOwner body) ht
  | transportStatus body => exact h.request (fun _ _ k => k.transportStatusOwner body) ht
  | claimSet body => exact h.request (fun _ _ k => k.claimSetOwner body) ht
  | claimExclusive body => exact h.request (fun _ _ k => k.claimExclusiveOwner body) ht
  | testSet body => exact h.request (fun _ _ k => k.testSetOwner body) ht
  | releaseSet body => exact h.request (fun _ _ k => k.releaseSetOwner body) ht
  | defineReel body => exact h.request (fits := (nameFits · 0)) (fun _ _ k => k.defineReelOwner body) ht
  | rename body => exact h.request (fits := (nameFits · 1)) (fun _ _ k => k.renameOwner body) ht
  | retire body => exact h.request (fun _ _ k => k.retireOwner body) ht
  | mount body => exact h.request (fun _ _ k => k.mountOwner body) ht
  | unmount body => exact h.request (fun _ _ k => k.unmountOwner body) ht
  | readReel body => exact h.request (fun _ _ k => k.readReelOwner body) ht
  | findReel body => exact h.request (fits := (nameFits · 0)) (fun _ _ k => k.findReelOwner body) ht
  | mountTable body => exact h.request (owner := mountTableOwner) (body := body) (fun _ _ k => k.answer _ _ _) ht
  | chase body => exact h.request (fun _ _ k => k.chaseOwner body) ht
  | chaseStop body => exact h.request (fun _ _ k => k.chaseStopOwner body) ht
  | trackStatus body => exact h.request (fun _ _ k => k.trackStatusOwner body) ht
  | perform body => exact h.request (fun _ _ k => k.editOwner .perform body) ht
  | preview body => exact h.request (fun _ _ k => k.editOwner .preview body) ht
  | review body => exact h.request (fun _ _ k => k.editOwner .review body) ht
  | abort body => exact h.request (fun _ _ k => k.abortOwner body) ht
  | sequencerStatus body => exact h.request (owner := sequencerStatusOwner) (body := body) (fun _ _ k => k.answer _ _ _) ht
  | run body => exact h.request (fun _ _ k => k.runOwner body) ht
  | runStatus body => exact h.request (owner := runStatusOwner) (body := body) (fun _ _ k => k.answer _ _ _) ht
  | outputStatus body => exact h.request (owner := outputStatusOwner) (body := body) (fun _ _ k => k.answer _ _ _) ht
  | takeNotice body => exact h.request (fun _ _ k => k.takeNoticeOwner body) ht
  | reset body => exact h.request (fun _ _ k => k.resetOwner body) ht
  | setSystem body => exact h.requestOf (fun k => positionsOnDay_setSystemOwner k hs.1 body) ht
  | setProfile body => exact h.request (fun _ _ k => k.setProfileOwner body) ht
  | setGpi body => exact h.request (fun _ _ k => k.setGpiOwner body) ht
  | readSettings body => exact h.request (fun _ _ k => k.readSettingsOwner body) ht
  | storeSettings body => exact h.request (fun _ _ k => k.storeSettingsOwner body) ht
  | storeEnd stop => exact h.work (fun k => k.storeEndWork stop) ht
  | selectAsserted =>
    obtain rfl := Host.Outcome.next.inj ht
    exact OnTheDay.positionsOnDay { positionsOnDay_iff.1 h with }

end

end Sys2Proof.Machine

open Sys2Proof Sys2Proof.Machine

/-- Settles O9: an empty queue idles, and every command at its front keeps positions on the day. -/
theorem positionsStayOnTheDay : Obligations.PositionsStayOnTheDay := by
  intro s t hr hs h ht
  unfold step at ht
  split at ht
  · obtain rfl := Host.Outcome.next.inj ht
    exact h
  · rename_i c rest _
    have h1 : PositionsOnDay { s with pending := rest } := h
    exact h1.exec hr hs c ht

end

-- ==== Hardware reset and the advance of positions ====
section
/-! What HARDWARE_RESET leaves in each block, and how frames and samples move the tracked positions (R112 to R114). -/

namespace Sys2Proof.Machine

section
variable (rest : List Instr) (p : Port)

/-- A deck port after hardware reset (R74). -/
theorem reset_port : ({ State.reset with pending := rest } : State).port p = DeckPort.initial := PerPort.get_const _ _

/-- A transport record after hardware reset (R99). -/
theorem reset_transport : ({ State.reset with pending := rest } : State).transport p = Transport.initial :=
  PerPort.get_const _ _

/-- A tracker record after hardware reset (R111). -/
theorem reset_tracker : ({ State.reset with pending := rest } : State).tracker p = Tracker.initial := PerPort.get_const _ _

/-- No chase record after hardware reset (R133). -/
theorem reset_chase : ({ State.reset with pending := rest } : State).chase p = none := PerPort.get_const _ _

/-- Every port is FREE after hardware reset. -/
theorem reset_holder : ({ State.reset with pending := rest } : State).holder p = .free := PerPort.get_const _ _

end

end Sys2Proof.Machine

open Sys2Proof Sys2Proof.Machine

/-- Settles O3: the reset state, block by block. -/
theorem hardwareResetLeavesEveryBlockAtItsResetValue : Obligations.HardwareResetLeavesEveryBlockAtItsResetValue := by
  intro s
  refine ⟨{ State.reset with pending := s.pending }, rfl, rfl, rfl, ⟨rfl, rfl, rfl, rfl, rfl⟩, ⟨rfl, rfl, rfl⟩, ?reels,
    fun p => ?port, ⟨rfl, rfl, rfl, rfl, rfl, rfl, rfl, rfl⟩, ⟨rfl, rfl, rfl⟩, ⟨fun l => ⟨PerLine.get_const _ _, rfl⟩, rfl⟩,
    rfl, rfl, rfl⟩
  case reels =>
    intro r hr
    simp only [State.reset, Vector.toList_replicate, List.mem_replicate] at hr
    exact hr.2
  case port =>
    rw [reset_port, reset_transport, reset_tracker, reset_chase, reset_holder]
    simp [DeckPort.initial, Transport.initial, Tracker.initial]

namespace Sys2Proof.Machine

/-! ## The advance (R112) -/

/-- One advance at a speed: whole phase steps in its direction, sixteenths of a step kept. -/
theorem advanceBy_eq {v : Int} (hv : v ≠ 0) (std : FrameStd) (a r : Nat) :
    advanceBy std v a r = (posAdd std a (Int.sign v * (((v.natAbs + r) / 16 : Nat) : Int)), (v.natAbs + r) % 16) := by
  unfold advanceBy
  rw [if_neg hv]
  dsimp only
  rcases lt_trichotomy v 0 with h | h | h
  · rw [if_neg (by omega), Int.sign_eq_neg_one_of_neg h, Int.neg_one_mul]
  · exact absurd h hv
  · rw [if_pos h, Int.sign_eq_one_of_pos h, Int.one_mul]

/-- Frames at one speed advance a position by exactly that many times the speed (R112). -/
theorem advanceBy_iterate {std : FrameStd} {v : Int} (hv : v ≠ 0) {a r : Nat} (ha : OnDay std a) (hr : r < 16) (n : Nat) :
    (fun x : Nat × Nat => advanceBy std v x.1 x.2)^[n] (a, r) =
      (posAdd std a (Int.sign v * (((n * v.natAbs + r) / 16 : Nat) : Int)), (n * v.natAbs + r) % 16) := by
  induction n with
  | zero => simp [Nat.div_eq_of_lt hr, Nat.mod_eq_of_lt hr, posAdd_zero ha]
  | succ n ih =>
    rw [Function.iterate_succ_apply', ih]
    dsimp only
    rw [advanceBy_eq hv, posAdd_posAdd, ← Int.mul_add]
    have steps : (n * v.natAbs + r) / 16 + (v.natAbs + (n * v.natAbs + r) % 16) / 16 = ((n + 1) * v.natAbs + r) / 16 := by
      rw [Nat.add_mul]
      omega
    have rest : (v.natAbs + (n * v.natAbs + r) % 16) % 16 = ((n + 1) * v.natAbs + r) % 16 := by
      rw [Nat.add_mul]
      omega
    rw [rest, ← steps, Int.natCast_add]

/-! ## Samples (R113, R114) -/

/-- A tested sample outside the plausibility window. -/
theorem not_plausible_iff {std : FrameStd} {w x : Nat} {k : Tracker} :
    plausible std w x k = false ↔ w * 64 < (posDiff std x k.position).natAbs := by
  simp [plausible]

/-- A jump as a whole: the position replaced, and the lock run of the deck's own chase record 0 (R114). -/
theorem jump_eq (p : Port) (x : Nat) (s : State) :
    jump p x s = { s with
      trackers := s.trackers.set p (acceptSample x (s.tracker p))
      chases := s.chases.set p ((s.chase p).map (fun c => { c with lockRun := 0 })) } := by
  unfold jump
  dsimp only
  split
  · rename_i c hc
    rw [hc]
    rfl
  · rename_i hc
    have : s.chases.set p none = s.chases := hc ▸ PerPort.set_get s.chases p
    simp only [hc, Option.map_none, this]
    rfl

/-- A jump changes no cadence: a chase record stays where there is one. -/
theorem pollsShort_jump {s : State} (h : PollsShort s) (p : Port) (x : Nat) : PollsShort (jump p x s) := by
  have chase (q : Port) : ((jump p x s).chase q).isSome = (s.chase q).isSome := by
    rw [jump_eq]
    show ((s.chases.set p _).get q).isSome = _
    rw [PerPort.get_set]
    split
    · rename_i hq
      rw [Option.isSome_map, hq]
    · rfl
  intro q hq
  have hc : cadence (jump p x s) q = cadence s q := by
    unfold cadence
    rw [chase q, jump_eq]
    rfl
  rw [hc, jump_eq]
  exact h q hq

/-- SAMPLE_JUMP's work by its condition: a third rejection in a row. -/
theorem sampleJumpWork_eq {s : State} {p : Port} {x : Nat} (hx : OnDay s.std x) :
    sampleJumpWork p x s =
      if 2 ≤ (s.tracker p).glitch ∧ sampleTested (s.tracker p) (s.transport p) = true ∧
        (s.profile p).plausibility * 64 < (posDiff s.std x (s.tracker p).position).natAbs then jump p x s else s := by
  unfold sampleJumpWork
  dsimp only
  simp only [onDay_of_lt hx, Bool.not_eq_true', not_plausible_iff]

end Sys2Proof.Machine

/-- Settles O45: the advance by induction on the frames, and the samples by the test of R114. -/
theorem theAdvanceIsExactOnAverageAndSamplesReplaceIt : Obligations.TheAdvanceIsExactOnAverageAndSamplesReplaceIt := by
  unfold Obligations.TheAdvanceIsExactOnAverageAndSamplesReplaceIt
  refine ⟨fun std v a r n ha hr hv => advanceBy_iterate hv ha hr n, fun std v k => ?frame, fun s p tested x far hfar => ?taken,
    fun s p x hin hp hx hg ht hw => ?jumps, fun s p x hp hx hno => ?nothing⟩
  case frame =>
    by_cases hv : v = 0
    · subst hv
      rfl
    · simp only [predict, hv, if_false]
  case taken =>
    have accepted : acceptSample x (s.tracker p) =
        { s.tracker p with position := x, remainder := 0, age := 0, glitch := 0, known := true } := rfl
    unfold takeSample
    dsimp only
    have htest : (!tested || plausible s.std (s.profile p).plausibility x (s.tracker p)) = !far := by
      subst hfar
      cases tested with
      | false => rfl
      | true => simp only [plausible, Bool.not_true, Bool.false_or, Bool.true_and, ← decide_not, Nat.not_lt]
    rw [htest]
    cases far with
    | false => simp [accepted]
    | true =>
      by_cases hg : 2 ≤ (s.tracker p).glitch
      · have hlt : ¬(s.tracker p).glitch < 2 := by omega
        simp only [Bool.not_true, Bool.false_eq_true, if_false, hg, if_true, jump_eq, hlt, and_false, and_self]
        exact ⟨PerPort.get_set_self _ _ _, PerPort.get_set_self _ _ _⟩
      · have hlt : (s.tracker p).glitch < 2 := by omega
        simp [hg, hlt]
  case jumps =>
    have hw' : sampleJumpWork p x s = jump p x s := by rw [sampleJumpWork_eq hx, if_pos ⟨hg, ht, hw⟩]
    show work _ s = _
    rw [work_running hin, hw', shortenPolls_eq (pollsShort_jump hp p x), jump_eq]
    rfl
  case nothing =>
    refine work_idle hp ?_
    rw [sampleJumpWork_eq hx, if_neg]
    rintro ⟨h1, h2, h3⟩
    rcases hno with h | h | h
    · omega
    · rw [h] at h2
      cases h2
    · omega

end

-- ==== Field events, and a frame without a running edit ====
section
/-! What a field event leaves in the blocks (R12, R62, R86, R88, R91, R112, R171, R183), with and without a running edit, and
the pulses, the loss and the restoration of the reference (R13 to R17, R143, R151). -/

namespace Sys2Proof.Machine

/-! ## The sequencer without a running edit -/

/-- No edit is running. -/
theorem liveEdit_none {s : State} (h : live s.seq = false) : liveEdit s = none := by simp [liveEdit, h]

/-- While IDLE no edit is running. -/
theorem live_idle {s : State} (h : s.seq.phase = .idle) : live s.seq = false := by simp [live, h]

/-- A report of the chase servo without a running edit. -/
theorem seqChaseReport_quiet {s : State} (h : live s.seq = false) (r : ChaseReport) : seqChaseReport r s = s := by
  simp [seqChaseReport, h]

/-- The sequencer's frame without a running edit. -/
theorem seqFrame_quiet {s : State} (h : live s.seq = false) : seqFrame s = s := by
  simp [seqFrame, liveEdit_none h]

/-- The loss of the reference without a running edit. -/
theorem seqReferenceLost_quiet {s : State} (h : live s.seq = false) : seqReferenceLost s = s := by
  simp [seqReferenceLost, liveEdit_none h]

/-- The field index without a running edit. -/
theorem indexField_quiet {s : State} (h : live s.seq = false) : indexField s = s := by simp [indexField, h]

/-- A cue failure reported without a running edit can end a manual chase alone. -/
theorem reportCueFailed_quiet {s : State} (h : live s.seq = false) (f : CueFailure) :
    reportCueFailed f s = s ∨ reportCueFailed f s = chaseCueFailed f.port f.reason s := by
  unfold reportCueFailed
  split
  · exact .inl rfl
  · exact .inl (by simp [seqCueFailed, inEdit, liveEdit_none h])
  · exact .inr rfl

/-- `t` comes from `s` by work of the transport controller and the chase servo for any ports: nothing but deck, transport,
tracker and chase records and notices differ, and no record permission. -/
structure QuietWork (s t : State) : Prop where
  only : { t with ports := s.ports, transports := s.transports, trackers := s.trackers, chases := s.chases,
                  notices := s.notices } = s
  permission : ∀ p, (t.port p).permission = (s.port p).permission

/-- No work. -/
theorem QuietWork.refl (s : State) : QuietWork s s := ⟨rfl, fun _ => rfl⟩

/-- Work after work. -/
theorem QuietWork.trans {s t u : State} (h : QuietWork s t) (k : QuietWork t u) : QuietWork s u :=
  ⟨(congrArg (fun u : State => { u with
      ports := s.ports, transports := s.transports, trackers := s.trackers, chases := s.chases,
      notices := s.notices }) k.only).trans h.only, fun p => (k.permission p).trans (h.permission p)⟩

/-- The sequencer record stays. -/
theorem QuietWork.seq {s t : State} (h : QuietWork s t) : t.seq = s.seq := (congrArg State.seq h.only :)

/-- Work for one port. -/
theorem PortWork.quiet {day : Option FrameStd} {p : Port} {s t : State} (h : PortWork day p s t) : QuietWork s t := by
  refine ⟨h.only, fun q => ?_⟩
  obtain ⟨cs, hcs⟩ := h.port
  by_cases hq : q = p
  · subst hq
    rw [hcs]
  · rw [(h.other q hq).1]

/-- A cue failure reported without a running edit. -/
theorem quietWork_reportCueFailed {s : State} (h : live s.seq = false) (f : CueFailure) :
    QuietWork s (reportCueFailed f s) := by
  rcases reportCueFailed_quiet h f with e | e
  · rw [e]
    exact .refl s
  · rw [e]
    exact ((PortWork.start f.port s).chaseCueFailed f.reason).quiet

/-- A frame's work for one port after another. -/
theorem quietWork_foldl {β : Type} {f : Port → State → State × List β} (hf : ∀ p s, PortWork none p s (f p s).1)
    (l : List Port) (r : State × List β) :
    QuietWork r.1 (l.foldl (fun r p => let q := f p r.1; (q.1, r.2 ++ q.2)) r).1 :=
  List.foldlRecOn (motive := fun x : State × List β => QuietWork r.1 x.1) l _ (.refl _)
    (fun x hx p _ => hx.trans (hf p x.1).quiet)

/-- Cue failures reported without a running edit. -/
theorem quietWork_reportCues {r : State × List CueFailure} (h : live r.1.seq = false) : QuietWork r.1 (reportCues r) :=
  List.foldlRecOn (motive := fun u : State => QuietWork r.1 u) r.2 _ (.refl _)
    (fun u hu f _ => hu.trans (quietWork_reportCueFailed (by rw [hu.seq]; exact h) f))

/-- The transport controller's frame without a running edit. -/
theorem quietWork_transportFrame {s : State} (h : live s.seq = false) : QuietWork s (transportFrame s) := by
  have h1 := quietWork_foldl (fun p s => (PortWork.start p s).transportPort) allPorts (s, [])
  exact h1.trans (quietWork_reportCues (by rw [h1.seq]; exact h))

/-- The chase servo's frame without a running edit: its reports change nothing. -/
theorem chaseAndReport_quiet {s : State} (h : live s.seq = false) : chaseAndReport s = (chaseFrame s).1 := by
  have h1 : QuietWork s (chaseFrame s).1 := quietWork_foldl (fun p s => (PortWork.start p s).chasePort) allPorts (s, [])
  have h2 : live (chaseFrame s).1.seq = false := by
    rw [h1.seq]
    exact h
  unfold chaseAndReport
  dsimp only
  generalize (chaseFrame s).2 = rs
  induction rs with
  | nil => rfl
  | cons r rest ih => rw [List.foldl_cons, seqChaseReport_quiet h2, ih]

/-- The state in which the transport controller begins its frame: the trackers carried on and the countdowns lowered. -/
def frameBegun (s : State) : State := trackerFrame (countdownFrame { s with frame := s.frame + 1 })

/-- The frame's work goes on from there. -/
theorem frameWork_eq (s : State) : frameWork s = seqFrame (chaseAndReport (transportFrame (frameBegun s))) := rfl

/-- A tracker when the transport controller begins its frame. -/
theorem frameBegun_tracker (s : State) (p : Port) :
    (frameBegun s).tracker p = predict s.std (s.transport p).speed (s.tracker p) := PerPort.get_mapAll _ _ _

/-- A deck port when the transport controller begins its frame. -/
theorem frameBegun_port (s : State) (p : Port) :
    (frameBegun s).port p = { s.port p with countdown := (s.port p).countdown - 1 } := PerPort.get_mapAll _ _ _

/-- A frame without a running edit: the decks and the chases alone. -/
theorem frameWork_quiet {s : State} (h : live s.seq = false) :
    frameWork s = (chaseFrame (transportFrame (frameBegun s))).1 := by
  have h1 : live (transportFrame (frameBegun s)).seq = false := by
    rw [(quietWork_transportFrame (s := frameBegun s) h).seq]
    exact h
  have h2 : QuietWork (transportFrame (frameBegun s)) (chaseFrame (transportFrame (frameBegun s))).1 :=
    quietWork_foldl (fun p s => (PortWork.start p s).chasePort) allPorts (_, [])
  rw [frameWork_eq, chaseAndReport_quiet h1, seqFrame_quiet]
  rw [h2.seq]
  exact h1

/-- What a frame without a running edit changes. -/
theorem quietWork_frameWork {s : State} (h : live s.seq = false) : QuietWork (frameBegun s) (frameWork s) := by
  rw [frameWork_quiet h]
  exact (quietWork_transportFrame (s := frameBegun s) h).trans
    (quietWork_foldl (fun p s => (PortWork.start p s).chasePort) allPorts (_, []))

/-- What any frame changes. -/
theorem blockWork_frameWork (s : State) : BlockWork none (frameBegun s) (frameWork s) :=
  (BlockWork.start (frameBegun s)).transportFrame.chaseAndReport.seqFrame

/-! ## A port below its limits (R86, R88, R91) -/

/-- The later of two writes to one transport record. -/
@[simp] theorem State.setTransport_setTransport (s : State) (p : Port) (a b : Transport) :
    (s.setTransport p a).setTransport p b = s.setTransport p b := by
  unfold State.setTransport
  cases p <;> rfl

/-- The records of one port are the same in two states. -/
def SameAt (p : Port) (s t : State) : Prop :=
  t.port p = s.port p ∧ t.transport p = s.transport p ∧ t.tracker p = s.tracker p ∧ t.chase p = s.chase p

/-- One state after another. -/
theorem SameAt.trans {p : Port} {s t u : State} (h : SameAt p s t) (k : SameAt p t u) : SameAt p s u := by
  obtain ⟨a, b, c, d⟩ := h
  obtain ⟨a', b', c', d'⟩ := k
  exact ⟨a'.trans a, b'.trans b, c'.trans c, d'.trans d⟩

/-- Every port stands once in the order in which the ports are worked. -/
theorem allPorts_split (p : Port) : ∃ l1 l2, allPorts = l1 ++ p :: l2 ∧ p ∉ l1 ∧ p ∉ l2 := by
  cases p with
  | p1 => exact ⟨[], [.p2, .p3, .p4, .p5, .p6], by decide⟩
  | p2 => exact ⟨[.p1], [.p3, .p4, .p5, .p6], by decide⟩
  | p3 => exact ⟨[.p1, .p2], [.p4, .p5, .p6], by decide⟩
  | p4 => exact ⟨[.p1, .p2, .p3], [.p5, .p6], by decide⟩
  | p5 => exact ⟨[.p1, .p2, .p3, .p4], [.p6], by decide⟩
  | p6 => exact ⟨[.p1, .p2, .p3, .p4, .p5], [], by decide⟩

/-- A frame's work for other ports leaves a port. -/
theorem sameAt_foldl {β : Type} {f : Port → State → State × List β} (hf : ∀ p s, PortWork none p s (f p s).1) {p : Port}
    {l : List Port} (hp : p ∉ l) (r : State × List β) :
    SameAt p r.1 (l.foldl (fun r p => let q := f p r.1; (q.1, r.2 ++ q.2)) r).1 :=
  List.foldlRecOn (motive := fun x : State × List β => SameAt p r.1 x.1) l _ ⟨rfl, rfl, rfl, rfl⟩
    (fun x hx q hq => hx.trans ((hf q x.1).other p (fun e => hp (e ▸ hq))))

/-- A frame's work for every port is, for one of them, its own work on a state in which its records stand. -/
theorem foldl_at {β : Type} {f : Port → State → State × List β} (hf : ∀ p s, PortWork none p s (f p s).1) (p : Port)
    (s : State) : ∃ u, QuietWork s u ∧ SameAt p s u ∧
      SameAt p (f p u).1 (allPorts.foldl (fun r p => let q := f p r.1; (q.1, r.2 ++ q.2)) (s, [])).1 := by
  obtain ⟨l1, l2, he, h1, h2⟩ := allPorts_split p
  rw [he, List.foldl_append, List.foldl_cons]
  exact ⟨_, quietWork_foldl hf l1 (s, []), sameAt_foldl hf h1 (s, []), sameAt_foldl hf h2 _⟩

/-- The conditions under which the standby timer of a port counts, of a deck that stands. -/
theorem standbyCounts_of_stands {s : State} {p : Port} (h : (s.transport p).state = .idle ∨ (s.transport p).state = .parked) :
    standbyCounts s p = decide (s.holder p = .free ∧ (s.profile p).standbyDelay ≠ 0) := by
  rw [Bool.eq_iff_iff]
  rcases h with h | h <;> simp [standbyCounts, h]

/-- The standby timer's frame below the delay. -/
theorem standbyFrame_below {s : State} {p : Port} (hs : (s.transport p).state = .idle ∨ (s.transport p).state = .parked)
    (hb : BelowLimits s p) :
    standbyFrame p s = s.setTransport p { s.transport p with
      standbyTimer := if s.holder p = .free ∧ (s.profile p).standbyDelay ≠ 0
        then (s.transport p).standbyTimer + 1 else (s.transport p).standbyTimer } := by
  unfold standbyFrame
  rw [standbyCounts_of_stands hs]
  by_cases hc : s.holder p = .free ∧ (s.profile p).standbyDelay ≠ 0
  · have hlt := hb.1 hs hc.1 hc.2
    have hdue : standbyDue (s.setTransport p { s.transport p with
        standbyTimer := (s.transport p).standbyTimer + 1 }) p = false := by
      simp only [standbyDue, standbyDelay, minutesToFrames, Bool.and_eq_false_iff, decide_eq_false_iff_not,
        State.setTransport_self, State.setTransport_std, State.setTransport_profile]
      right
      omega
    simp only [hc, and_self, decide_true, if_true, hdue, ne_eq, not_false_eq_true, Bool.false_eq_true, if_false]
  · rw [if_neg (by simpa using hc), if_neg hc]
    exact (State.setTransport_same s p).symm

/-- The cue time of a port below its limit. -/
theorem countElapsed_below {s : State} {p : Port} (hs : (s.transport p).state = .cueing) (hb : BelowLimits s p) :
    cueTimesOut p (countElapsed p s) = (s.setTransport p { s.transport p with
      cue := (s.transport p).cue.map (fun c => { c with elapsed := c.elapsed + 1 }) }, []) := by
  cases hc : (s.transport p).cue with
  | none =>
    have h1 : countElapsed p s = s := by simp [countElapsed, hs, hc]
    have h2 : { s.transport p with cue := none } = s.transport p := by rw [← hc]
    rw [h1, Option.map_none, h2, State.setTransport_same]
    simp [cueTimesOut, hs, hc]
  | some c =>
    have hlt := hb.2.1 hs c hc
    have h1 : countElapsed p s = s.setTransport p { s.transport p with cue := some { c with elapsed := c.elapsed + 1 } } := by
      simp [countElapsed, hs, hc]
    rw [h1]
    simp only [cueTimesOut, State.setTransport_self, hs, cueLimit, secondsToFrames, State.setTransport_std,
      State.setTransport_profile, Option.map_some]
    rw [if_neg (by omega)]

/-- A waking deck without a pending cue has no cue time. -/
theorem countElapsed_without_cue {s : State} {p : Port} (hs : (s.transport p).state = .waking)
    (hm : ∀ o x n, (s.transport p).motion ≠ some ⟨o, .cue x n⟩) :
    cueTimesOut p (countElapsed p s) = (s, []) ∧ (s.transport p).motion.map olderMotion = (s.transport p).motion := by
  rcases h : (s.transport p).motion with _ | ⟨o, _ | _ | _ | ⟨x, n⟩⟩
  case some.cue => exact absurd h (hm o x n)
  all_goals simp [cueTimesOut, countElapsed, hs, h, olderMotion]

/-- The cue time of a pending cue below its limit. -/
theorem countElapsed_waking {s : State} {p : Port} (hs : (s.transport p).state = .waking) (hb : BelowLimits s p) :
    cueTimesOut p (countElapsed p s) =
      (s.setTransport p { s.transport p with motion := (s.transport p).motion.map olderMotion }, []) := by
  by_cases hm : ∀ o x n, (s.transport p).motion ≠ some ⟨o, .cue x n⟩
  · obtain ⟨h1, h2⟩ := countElapsed_without_cue hs hm
    rw [h1, h2]
    exact Prod.ext (State.setTransport_same s p).symm rfl
  · push Not at hm
    obtain ⟨o, x, n, hm⟩ := hm
    have h1 : countElapsed p s = s.setTransport p { s.transport p with motion := some ⟨o, .cue x (n + 1)⟩ } := by
      simp [countElapsed, hs, hm]
    have h2 := (hb.2.2 hs).2 _ hm (x, n) rfl
    rw [h1, hm]
    simp only [cueTimesOut, State.setTransport_self, hs, cueLimit, secondsToFrames, State.setTransport_std,
      State.setTransport_profile, Option.map_some, olderMotion]
    rw [if_neg (by omega)]

/-- The wake count before its last frame. -/
theorem wakeFrame_below {s : State} {p : Port} (hs : (s.transport p).state = .waking)
    (hb : (s.transport p).wakeTaken = true → 1 < (s.transport p).wakeCount) :
    wakeFrame p s = s.setTransport p { s.transport p with
      wakeCount := if (s.transport p).wakeTaken then (s.transport p).wakeCount - 1 else (s.transport p).wakeCount } := by
  unfold wakeFrame
  by_cases ht : (s.transport p).wakeTaken = true
  · have hlt := hb ht
    have hover : wakeOver (s.setTransport p { s.transport p with wakeCount := (s.transport p).wakeCount - 1 }) p = false := by
      simp only [wakeOver, State.setTransport_self, Bool.and_eq_false_iff, decide_eq_false_iff_not]
      right
      omega
    rw [if_pos ⟨hs, ht⟩, if_pos ht]
    dsimp only
    rw [if_neg (by simp [hover])]
  · rw [if_neg (fun hc => ht hc.2), if_neg ht]
    exact (State.setTransport_same s p).symm

/-- The transport controller's frame for a port below its limits. -/
theorem transportPort_below {s : State} {p : Port} (hb : BelowLimits s p) :
    transportPort p s = (s.setTransport p (frameOn (decide (s.holder p = .free ∧ (s.profile p).standbyDelay ≠ 0))
      (s.transport p)), []) := by
  unfold transportPort frameOn
  cases hs : (s.transport p).state with
  | idle =>
    dsimp only
    rw [standbyFrame_below (.inl hs) hb]
    simp only [decide_eq_true_eq, hs]
  | parked =>
    dsimp only
    rw [standbyFrame_below (.inr hs) hb]
    simp only [decide_eq_true_eq, hs]
  | cueing =>
    dsimp only
    rw [countElapsed_below hs hb]
    simp only [hs]
  | waking =>
    dsimp only
    rw [countElapsed_waking hs hb, wakeFrame_below (by simpa using hs) (by simpa using (hb.2.2 hs).1)]
    simp [hs]
  | _ => exact Prod.ext (State.setTransport_same s p).symm rfl

/-- The limits of a port look at its transport record, the holder, the profile and the standard alone. -/
theorem BelowLimits.of_same {s t : State} {p : Port} (h : BelowLimits s p) (ht : t.transport p = s.transport p)
    (hh : t.holder p = s.holder p) (hl : t.live = s.live) : BelowLimits t p := by
  have h1 : t.profile p = s.profile p := congrArg (fun l : Settings => l.profiles.get p) hl
  have h2 : t.std = s.std := congrArg (fun l : Settings => l.system.std) hl
  unfold BelowLimits
  rw [ht, hh, h1, h2]
  exact h

/-- A cue failure reported to the chase servo leaves a port without a chase record. -/
theorem sameAt_chaseCueFailed {p : Port} {s : State} (hc : s.chase p = none) (q : Port) (why : CueReason) :
    SameAt p s (chaseCueFailed q why s) := by
  by_cases hq : p = q
  · subst hq
    have h1 : chaseCueFailed p why s = s := by simp [chaseCueFailed, hc]
    rw [h1]
    exact ⟨rfl, rfl, rfl, rfl⟩
  · exact ((PortWork.start q s).chaseCueFailed why).other p hq

/-- Cue failures reported without a running edit leave a port without a chase record. -/
theorem sameAt_reportCues {p : Port} {r : State × List CueFailure} (h : live r.1.seq = false) (hc : r.1.chase p = none) :
    SameAt p r.1 (reportCues r) := by
  have key : QuietWork r.1 (reportCues r) ∧ SameAt p r.1 (reportCues r) := by
    refine List.foldlRecOn (motive := fun u : State => QuietWork r.1 u ∧ SameAt p r.1 u) r.2 _
      ⟨.refl _, rfl, rfl, rfl, rfl⟩ (fun u ⟨hu, hs⟩ f _ => ?_)
    have hl : live u.seq = false := by
      rw [hu.seq]
      exact h
    refine ⟨hu.trans (quietWork_reportCueFailed hl f), hs.trans ?_⟩
    rcases reportCueFailed_quiet hl f with e | e
    · rw [e]
      exact ⟨rfl, rfl, rfl, rfl⟩
    · rw [e]
      exact sameAt_chaseCueFailed (hs.2.2.2.trans hc) f.port f.reason
  exact key.2

/-- A frame without a running edit leaves the records of a port without a chase record and below its limits one frame
on, and nothing more. -/
theorem frameWork_below {s : State} {p : Port} (h : live s.seq = false) (hc : s.chase p = none) (hb : BelowLimits s p) :
    (frameWork s).transport p = frameOn (decide (s.holder p = .free ∧ (s.profile p).standbyDelay ≠ 0)) (s.transport p)
      ∧ (frameWork s).tracker p = predict s.std (s.transport p).speed (s.tracker p)
      ∧ ((frameWork s).port p).commands = (s.port p).commands := by
  rw [frameWork_quiet h]
  obtain ⟨u, hu, ⟨hp, ht, hk, hch⟩, hf⟩ :=
    foldl_at (fun p s => (PortWork.start p s).transportPort) p (frameBegun s)
  have hho : u.holder p = s.holder p := (congrArg (fun x : State => x.holder p) hu.only :)
  have hli : u.live = s.live := (congrArg State.live hu.only :)
  have hpr : u.profile p = s.profile p := congrArg (fun l : Settings => l.profiles.get p) hli
  have hbu : BelowLimits u p := hb.of_same ht hho hli
  rw [transportPort_below hbu] at hf
  have hfold : QuietWork (frameBegun s) (allPorts.foldl
      (fun r p => let q := transportPort p r.1; (q.1, r.2 ++ q.2)) (frameBegun s, [])).1 :=
    quietWork_foldl (fun p s => (PortWork.start p s).transportPort) allPorts (frameBegun s, [])
  have hlive : live (allPorts.foldl
      (fun r p => let q := transportPort p r.1; (q.1, r.2 ++ q.2)) (frameBegun s, [])).1.seq = false := by
    rw [hfold.seq]
    exact h
  have hchase : (u.setTransport p (frameOn (decide (u.holder p = .free ∧ (u.profile p).standbyDelay ≠ 0))
      (u.transport p))).chase p = none := hch.trans hc
  have hr := hf.trans (sameAt_reportCues hlive (hf.2.2.2.trans hchase))
  have hcp : ∀ v : State, v.chase p = none → (chasePort p v).1 = v := fun v hv => by simp [chasePort, hv]
  obtain ⟨w, -, hw, hw'⟩ :=
    foldl_at (fun p s => (PortWork.start p s).chasePort) p (transportFrame (frameBegun s))
  have hcw : w.chase p = none := by
    rw [hw.2.2.2]
    exact hr.2.2.2.trans hchase
  rw [hcp w hcw] at hw'
  obtain ⟨ep, et, ek, -⟩ := hr.trans (hw.trans hw')
  refine ⟨?_, ?_, ?_⟩
  · refine et.trans ?_
    rw [State.setTransport_self, hho, hpr, ht]
    rfl
  · refine ek.trans (hk.trans ?_)
    exact frameBegun_tracker s p
  · refine (congrArg DeckPort.commands ep).trans ((congrArg DeckPort.commands hp).trans ?_)
    rw [frameBegun_port]

/-! ## The field event (R12) -/

/-- The state in which the blocks begin a frame's work: the parity taken, the field work done, and with field 1 the
trackers carried on. -/
def eventBase (y : Parity) (s : State) : State :=
  let s1 := gpiField (mixField (indexField { s with ref := { s.ref with parity := y } }))
  match y with
  | .field2 => s1
  | .field1 => frameBegun s1

/-- A field of parity 2 is the field work alone. -/
theorem fieldEvent_field2 (stopFirst : Bool) (s : State) : fieldEvent .field2 stopFirst s = eventBase .field2 s := rfl

/-- The ramp does not pulse the field strobe by itself. -/
theorem rampField_strobes (r : Ramp) (n : Nat) (m : Mix) : (rampField r n m).strobes = m.strobes := by
  unfold rampField flipFlop
  split <;> rfl

/-- A field strobe is pulsed once. -/
theorem mixField_strobes (s : State) : (mixField s).mix.strobes = s.mix.strobes + 1 := by
  unfold mixField
  dsimp only
  split
  · rfl
  · rw [rampField_strobes]
  · rfl

/-- The field work of the outputs looks at the mix port, the GPI lines, the settings and the field index alone. -/
theorem outputs_eventBase (y : Parity) (s : State) (r : Reference) :
    (eventBase y { s with ref := r }).mix = (mixField (indexField s)).mix
      ∧ (eventBase y { s with ref := r }).gpi = (gpiField s).gpi
      ∧ (eventBase y { s with ref := r }).seq = (indexField s).seq := by
  unfold eventBase indexField
  by_cases h : live s.seq = true
  · simp only [h, if_true]
    cases y <;> exact ⟨rfl, rfl, rfl⟩
  · simp only [h, Bool.false_eq_true, if_false]
    cases y <;> exact ⟨rfl, rfl, rfl⟩

/-- A field of parity 1, no edit's stop taken before it. -/
theorem fieldEvent_field1 (s : State) : fieldEvent .field1 false s =
    frameWork (gpiField (mixField (indexField { s with ref := { s.ref with parity := .field1 } }))) := by
  unfold fieldEvent
  simp only [Bool.false_eq_true, if_false]

/-- What the field work and the carrying on of the trackers leave. -/
theorem eventBase_only (y : Parity) (s : State) :
    { eventBase y s with
      ref := s.ref, ports := s.ports, trackers := s.trackers, frame := s.frame, mix := s.mix, gpi := s.gpi,
      seq := s.seq } = s := by
  unfold eventBase indexField
  split <;> cases y <;> rfl

/-- The timebase of a field event. -/
theorem eventBase_ref (y : Parity) (s : State) : (eventBase y s).ref = { s.ref with parity := y } := by
  unfold eventBase indexField
  split <;> cases y <;> rfl

/-- One frame is counted with field 1. -/
theorem eventBase_frame (y : Parity) (s : State) : (eventBase y s).frame = s.frame + if y = .field1 then 1 else 0 := by
  unfold eventBase indexField
  split <;> cases y <;> rfl

/-- The trackers carried on with field 1. -/
theorem eventBase_tracker (y : Parity) (s : State) (p : Port) :
    (eventBase y s).tracker p = if y = .field1 then predict s.std (s.transport p).speed (s.tracker p) else s.tracker p := by
  cases y with
  | field1 =>
    rw [if_pos rfl]
    refine (frameBegun_tracker _ p).trans ?_
    unfold indexField
    split <;> rfl
  | field2 =>
    unfold eventBase indexField
    split <;> rfl

/-- The countdowns lowered with field 1. -/
theorem eventBase_port (y : Parity) (s : State) (p : Port) :
    (eventBase y s).port p = { s.port p with countdown := (s.port p).countdown - if y = .field1 then 1 else 0 } := by
  cases y with
  | field1 =>
    rw [if_pos rfl]
    refine (frameBegun_port _ p).trans ?_
    unfold indexField
    split <;> rfl
  | field2 =>
    unfold eventBase indexField
    split <;> rfl

/-- What an ended edit leaves of the ramp's field changes the outputs alone. -/
theorem blockWork_stopBeforeField (a b s : State) : BlockWork none s (stopBeforeField a b s) := by
  unfold stopBeforeField
  split
  · exact (BlockWork.start s).outputs rfl rfl
  · exact .start s

/-- What a field event changes beyond the field work and the trackers. -/
theorem blockWork_fieldEvent (y : Parity) (stopFirst : Bool) (s : State) :
    BlockWork none (eventBase y s) (fieldEvent y stopFirst s) := by
  cases y with
  | field2 => exact .start _
  | field1 =>
    have h := blockWork_frameWork (gpiField (mixField (indexField { s with ref := { s.ref with parity := .field1 } })))
    unfold fieldEvent
    dsimp only
    split
    · exact h.trans (blockWork_stopBeforeField _ _ _)
    · exact h

/-- Without a running edit the stop of an edit does not come before the field. -/
theorem fieldEvent_field1_quiet {s : State} (h : live s.seq = false) (stopFirst : Bool) :
    fieldEvent .field1 stopFirst s = frameWork (gpiField (mixField { s with ref := { s.ref with parity := .field1 } })) := by
  have hq : indexField { s with ref := { s.ref with parity := .field1 } } = { s with ref := { s.ref with parity := .field1 } } :=
    indexField_quiet h
  unfold fieldEvent
  dsimp only
  rw [hq]
  have hn : liveEdit (gpiField (mixField { s with ref := { s.ref with parity := .field1 } })) = none := liveEdit_none h
  split
  · unfold stopBeforeField mixEditEnded
    rw [hn]
    simp
  · rfl

/-- A field event without a running edit: the outputs and the sequencer have their field work alone. -/
theorem quietWork_fieldEvent {s : State} (h : live s.seq = false) (y : Parity) (stopFirst : Bool) :
    QuietWork (eventBase y s) (fieldEvent y stopFirst s) := by
  cases y with
  | field2 => exact .refl _
  | field1 =>
    have hq : indexField { s with ref := { s.ref with parity := .field1 } } = { s with ref := { s.ref with parity := .field1 } } :=
      indexField_quiet h
    rw [fieldEvent_field1_quiet h]
    unfold eventBase
    rw [hq]
    exact quietWork_frameWork h

/-- What a field event does to the blocks. -/
theorem eventWork_fieldEvent (y : Parity) (stopFirst : Bool) (s : State) (r : Reference) :
    EventWork (decide (y = .field1)) s (shortenPolls (fieldEvent y stopFirst { s with ref := r })) := by
  have hb := blockWork_fieldEvent y stopFirst { s with ref := r }
  obtain ⟨hmix, hgpi, hseq⟩ := outputs_eventBase y s r
  refine ⟨fun p _ => ⟨?_, ?_⟩, ?_, ?_, ?_⟩
  · obtain ⟨n, hn⟩ := hb.tracker p
    rw [eventBase_tracker] at hn
    have ht : (shortenPolls (fieldEvent y stopFirst { s with ref := r })).tracker p =
        (fieldEvent y stopFirst { s with ref := r }).tracker p := rfl
    rw [ht, hn]
    simp only [decide_eq_true_eq]
    rfl
  · have hc := hb.countdown p
    rw [eventBase_port] at hc
    rw [shortenPolls_port, cadence_shortenPolls, hc]
    simp only [decide_eq_true_eq]
    rfl
  · intro hq
    cases y with
    | field2 => exact ⟨hmix, hgpi⟩
    | field1 =>
      have hl : live s.seq = false := live_idle (hq.resolve_left (by simp))
      have hk := (quietWork_fieldEvent (s := { s with ref := r }) hl .field1 stopFirst).only
      exact ⟨((congrArg State.mix hk :) : _ = _).trans hmix, ((congrArg State.gpi hk :) : _ = _).trans hgpi⟩
  · intro hy
    cases y with
    | field1 => simp at hy
    | field2 =>
      have ho := eventBase_only .field2 { s with ref := r }
      refine ⟨(congrArg State.transports ho :), (congrArg State.chases ho :), ?_, hseq⟩
      exact PerPort.ext_get fun p => eventBase_tracker .field2 { s with ref := r } p
  · intro hy hi p _ hc hlim
    cases y with
    | field2 => simp at hy
    | field1 =>
      have hl : live s.seq = false := live_idle hi
      have hf : fieldEvent .field1 stopFirst { s with ref := r } =
          frameWork (gpiField (mixField { s with ref := { r with parity := .field1 } })) :=
        fieldEvent_field1_quiet (s := { s with ref := r }) hl stopFirst
      rw [hf, shortenPolls_port]
      obtain ⟨h1, h2, h3⟩ := frameWork_below (p := p)
        (s := gpiField (mixField { s with ref := { r with parity := .field1 } })) hl hc hlim
      have ht : ∀ u : State, (shortenPolls u).transport p = u.transport p ∧ (shortenPolls u).tracker p = u.tracker p :=
        fun u => ⟨rfl, rfl⟩
      rw [(ht _).1, (ht _).2]
      exact ⟨h1, h2, h3⟩

/-- What a field event leaves, and what it counts. -/
theorem fieldEvent_kept (y : Parity) (stopFirst : Bool) (s : State) :
    (fieldEvent y stopFirst s).ref = { s.ref with parity := y }
      ∧ (fieldEvent y stopFirst s).mix.strobes = s.mix.strobes + 1
      ∧ (fieldEvent y stopFirst s).frame = s.frame + (if y = .field1 then 1 else 0)
      ∧ (fieldEvent y stopFirst s).pending = s.pending ∧ (fieldEvent y stopFirst s).list = s.list
      ∧ (fieldEvent y stopFirst s).reels = s.reels ∧ (fieldEvent y stopFirst s).live = s.live
      ∧ (fieldEvent y stopFirst s).snapshot = s.snapshot ∧ (fieldEvent y stopFirst s).stored = s.stored
      ∧ (fieldEvent y stopFirst s).link = s.link ∧ (fieldEvent y stopFirst s).inReset = s.inReset := by
  have hb := blockWork_fieldEvent y stopFirst s
  have ho := eventBase_only y s
  have hs : (eventBase y s).mix.strobes = s.mix.strobes + 1 := by
    rw [(outputs_eventBase y s s.ref).1, mixField_strobes]
    unfold indexField
    split <;> rfl
  have kept {β : Type} (f : State → β)
      (h1 : f (fieldEvent y stopFirst s) = f (eventBase y s)) (h2 : f (eventBase y s) = f s) :
      f (fieldEvent y stopFirst s) = f s := h1.trans h2
  exact ⟨((congrArg State.ref hb.only :) : _ = _).trans (eventBase_ref y s), hb.strobes.trans hs,
    ((congrArg State.frame hb.only :) : _ = _).trans (eventBase_frame y s),
    kept State.pending (congrArg State.pending hb.only :) (congrArg State.pending ho :),
    kept State.list (congrArg State.list hb.only :) (congrArg State.list ho :),
    kept State.reels (congrArg State.reels hb.only :) (congrArg State.reels ho :),
    kept State.live (congrArg State.live hb.only :) (congrArg State.live ho :),
    kept State.snapshot (congrArg State.snapshot hb.only :) (congrArg State.snapshot ho :),
    kept State.stored (congrArg State.stored hb.only :) (congrArg State.stored ho :),
    kept State.link (congrArg State.link hb.only :) (congrArg State.link ho :),
    kept State.inReset (congrArg State.inReset hb.only :) (congrArg State.inReset ho :)⟩

/-- What a field without a running edit keeps of the sequencer, the holders and the permissions. -/
theorem fieldEvent_closed {s : State} (h : live s.seq = false) (y : Parity) (stopFirst : Bool) :
    (fieldEvent y stopFirst s).seq = s.seq ∧ (fieldEvent y stopFirst s).holders = s.holders
      ∧ ∀ p, ((fieldEvent y stopFirst s).port p).permission = (s.port p).permission := by
  have hk := quietWork_fieldEvent h y stopFirst
  have hs : (eventBase y s).seq = s.seq := by
    rw [(outputs_eventBase y s s.ref).2.2, indexField_quiet h]
  exact ⟨hk.seq.trans hs,
    ((congrArg State.holders hk.only :) : _ = _).trans (congrArg State.holders (eventBase_only y s) :),
    fun p => (hk.permission p).trans (by rw [eventBase_port])⟩

/-- A field event with the sequencer IDLE leaves the sequencer record and the holders. -/
theorem fieldEvent_idle {s : State} (h : s.seq.phase = .idle) (y : Parity) (stopFirst : Bool) :
    (fieldEvent y stopFirst s).seq = s.seq ∧ (fieldEvent y stopFirst s).holders = s.holders := by
  obtain ⟨hs, hh, -⟩ := fieldEvent_closed (live_idle h) y stopFirst
  exact ⟨hs, hh⟩

/-! ## Pulses, the loss and the restoration (R13 to R17) -/

/-- The low limit of a field is 0.95 of the period. -/
theorem periodLow_mul (std : FrameStd) : 20 * periodLow std = 19 * period std := by cases std <;> decide

/-- The high limit of a field is 1.05 of the period. -/
theorem periodHigh_mul (std : FrameStd) : 20 * periodHigh std = 21 * period std := by cases std <;> decide

/-- A command that works, its work known. -/
theorem work_running_eq {f : State → State} {s u : State} (h : s.inReset = false) (hf : f s = u) :
    work f s = .next (shortenPolls u) := by rw [work_running h, hf]

/-- An early pulse is discarded. -/
theorem fieldPulseWork_early {s : State} {a time : Nat} (hp : s.ref.state = .present) (ha : s.ref.lastAccepted = some a)
    (h : 20 * time < 20 * a + 19 * period s.std) (field1 stopFirst : Bool) :
    fieldPulseWork time field1 stopFirst s = s := by
  have h1 := periodLow_mul s.std
  simp only [fieldPulseWork, hp, ha]
  rw [if_neg (by omega), if_neg (by omega)]

/-- A pulse within the window is accepted. -/
theorem fieldPulseWork_accepted {s : State} {a time : Nat} (hp : s.ref.state = .present) (ha : s.ref.lastAccepted = some a)
    (h : 20 * a + 19 * period s.std ≤ 20 * time) (h2 : time < a + 2 * period s.std) (field1 stopFirst : Bool) :
    fieldPulseWork time field1 stopFirst s = acceptPulse time field1 stopFirst s := by
  have h1 := periodLow_mul s.std
  simp only [fieldPulseWork, hp, ha]
  rw [if_neg (by omega), if_pos (by omega)]

/-- A pulse while LOST. -/
theorem fieldPulseWork_lost {s : State} (hp : s.ref.state = .lost) (time : Nat) (field1 stopFirst : Bool) :
    fieldPulseWork time field1 stopFirst s = lostPulse time s := by simp only [fieldPulseWork, hp]

/-- The polls look at the ports, the transports, the holders and the chases alone. -/
theorem shortenPolls_ref {s : State} (h : PollsShort s) (r : Reference) (ns : List Notice) :
    shortenPolls { s with ref := r, notices := ns } = { s with ref := r, notices := ns } :=
  shortenPolls_eq (s := { s with ref := r, notices := ns }) h

/-- The loss with the sequencer record IDLE: the report changes nothing. -/
theorem loseReference_idle {s : State} (h : s.seq.phase = .idle) (m : Nat) (lossFirst stopFirst : Bool) :
    loseReference m lossFirst stopFirst s = raise (.reference false) (fieldEvent (otherParity s.ref.parity) stopFirst
      { s with ref := { s.ref with state := .lost, goodRun := 0, lastSeen := none, lastField := m } }) := by
  have h1 : seqReferenceLost { s with ref := { s.ref with state := .lost, goodRun := 0, lastSeen := none, lastField := m } }
      = { s with ref := { s.ref with state := .lost, goodRun := 0, lastSeen := none, lastField := m } } :=
    seqReferenceLost_quiet (live_idle h)
  unfold loseReference
  cases lossFirst with
  | true => simp only [if_true, h1]
  | false =>
    simp only [Bool.false_eq_true, if_false]
    exact seqReferenceLost_quiet (live_idle ((congrArg Sequencer.phase (fieldEvent_idle (s := { s with
      ref := { s.ref with state := .lost, goodRun := 0, lastSeen := none, lastField := m } }) h _ stopFirst).1).trans h))

/-! ## The sequencer's report of the loss (R151, R153) -/

/-- The outputs are all that an ending tells them changes. -/
theorem endOutputs_only (m : Mode) (completed : Bool) (s : State) :
    { endOutputs m completed s with mix := s.mix, gpi := s.gpi } = s := by
  unfold endOutputs endGpi
  split
  · rfl
  · cases completed with
    | true => exact congrArg (fun u : State => { u with mix := s.mix, gpi := s.gpi }) (testTriggers_only _ (stopMix s))
    | false => rfl

/-- Work for one port after another. -/
theorem quietWork_ports {f : State → Port → State} (hf : ∀ s p, PortWork none p s (f s p)) (l : List Port) (s : State) :
    QuietWork s (l.foldl f s) :=
  List.foldlRecOn (motive := fun u : State => QuietWork s u) l _ (.refl s) (fun u hu p _ => hu.trans (hf u p).quiet)

/-- The SEQUENCER chase records removed. -/
theorem quietWork_removeSeqChases (d : DeckSet) (s : State) : QuietWork s (removeSeqChases d s) := by
  refine quietWork_ports (fun s p => ?_) (players d) s
  split
  · exact (PortWork.start p s).removeChase
  · exact .start p s

/-- The DISENGAGE of an ending takes the recorder's permission and marks the record. -/
theorem disengageIfEngaged_keeps (p : Port) (s : State) :
    (disengageIfEngaged p s).seq = { s.seq with released := s.seq.released || s.seq.engaged }
      ∧ (disengageIfEngaged p s).holders = s.holders
      ∧ (s.seq.engaged = true → s.seq.released = false → ((disengageIfEngaged p s).port p).permission = false) := by
  unfold disengageIfEngaged
  by_cases h : s.seq.engaged = true ∧ (!s.seq.released) = true
  · rw [if_pos h]
    refine ⟨?_, rfl, fun _ _ => ?_⟩
    · change { s.seq with released := true } = _
      rw [h.1, Bool.or_true]
    · change ((handCommand p .disengage s).port p).permission = false
      rw [handCommand_port, if_pos rfl]
      rfl
  · rw [if_neg h]
    refine ⟨?_, rfl, fun he hr => absurd ⟨he, by simp [hr]⟩ h⟩
    have hor : (s.seq.released || s.seq.engaged) = s.seq.released := by
      cases hr : s.seq.released with
      | true => rfl
      | false => simpa [hr] using h
    rw [hor]

/-- The ending of an edit that hands a final write: the record closes with its report, the holders stay, and a recorder
that was engaged loses its permission. -/
theorem endEdit_written {s : State} {x : Edit} {o : EditOutcome} {w : StatusWrite}
    (hw : finalWrite x.mode o s.seq.slipped s.seq.engaged x.event.key = some w) (early : Option FaultClass)
    (completed : Bool) :
    (endEdit x o early completed s).seq = { s.seq with
        released := s.seq.released || s.seq.engaged, closing := true
        outcome := some (endReport x o early (some w) s.seq), handed := some (.final w) }
      ∧ (endEdit x o early completed s).holders = s.holders
      ∧ (s.seq.engaged = true → s.seq.released = false →
          ((endEdit x o early completed s).port x.decks.recorder).permission = false) := by
  obtain ⟨hs1, hh1, hp1⟩ := disengageIfEngaged_keeps x.decks.recorder s
  have h2 := quietWork_ports (f := fun s p => seqAct p .halt s) (fun s p => (PortWork.start p s).seqAct .halt)
    (deckPorts x.decks) (disengageIfEngaged x.decks.recorder s)
  have h3 := h2.trans (quietWork_removeSeqChases x.decks _)
  have h4 := endOutputs_only x.mode completed (removeSeqChases x.decks
    ((deckPorts x.decks).foldl (fun s p => seqAct p .halt s) (disengageIfEngaged x.decks.recorder s)))
  have hseq : (endOutputs x.mode completed (removeSeqChases x.decks
      ((deckPorts x.decks).foldl (fun s p => seqAct p .halt s) (disengageIfEngaged x.decks.recorder s)))).seq
      = { s.seq with released := s.seq.released || s.seq.engaged } :=
    ((congrArg State.seq h4 :) : _ = _).trans (h3.seq.trans hs1)
  unfold endEdit
  simp only [hw]
  refine ⟨?_, ?_, fun he hr => ?_⟩
  · simp only [setSeq, hseq]
    rfl
  · exact ((congrArg State.holders h4 :) : _ = _).trans ((congrArg State.holders h3.only :) |>.trans hh1)
  · have hport := congrArg (fun u : State => (u.port x.decks.recorder).permission) h4
    exact hport.trans ((h3.permission x.decks.recorder).trans (hp1 he hr))

/-- The report of the loss ends a recording edit before its postroll. -/
theorem seqReferenceLost_ends {s : State} {x : Edit} (hx : liveEdit s = some x) (hm : recordMode x.mode = true)
    (hp : s.seq.phase ≠ .postroll) : seqReferenceLost s = endEdit x (.fault .reference) none false s := by
  simp only [seqReferenceLost, faultEdit, hx, hm, if_true]
  rw [if_neg hp]

/-- The report of the loss is disregarded by any other edit. -/
theorem seqReferenceLost_disregarded {s : State} {x : Edit} (hx : liveEdit s = some x)
    (h : recordMode x.mode = false ∨ s.seq.phase = .postroll) : seqReferenceLost s = s := by
  simp only [seqReferenceLost, faultEdit, hx]
  split
  · rename_i hm
    rcases h with h | h
    · simp [h] at hm
    · rw [if_pos h]
  · rfl

/-- The final write of a recording edit that a fault ends. -/
theorem finalWrite_fault {m : Mode} (hm : recordMode m = true) (c : FaultClass) (slipped engaged : Bool) (k : Nat) :
    finalWrite m (.fault c) slipped engaged k =
      some { key := k, previewed := false, status := some (if engaged then .cut c else .failed c) } := by
  cases m with
  | perform => rfl
  | run => rfl
  | preview => simp [recordMode] at hm
  | review => simp [recordMode] at hm

/-- The opposite parity is field 1 exactly after field 2. -/
theorem otherParity_eq_field1 (y : Parity) : otherParity y = .field1 ↔ y = .field2 := by cases y <;> simp [otherParity]

/-- The state when the reference is found lost (R14). -/
def referenceGone (m : Nat) (s : State) : State :=
  { s with ref := { s.ref with state := .lost, goodRun := 0, lastSeen := none, lastField := m } }

/-- The report of the loss taken before the work of the field. -/
theorem loseReference_first (m : Nat) (stopFirst : Bool) (s : State) : loseReference m true stopFirst s =
    raise (.reference false) (fieldEvent (otherParity s.ref.parity) stopFirst (seqReferenceLost (referenceGone m s))) := rfl

/-- The report of the loss taken after the work of the field. -/
theorem loseReference_after (m : Nat) (stopFirst : Bool) (s : State) : loseReference m false stopFirst s =
    seqReferenceLost (raise (.reference false) (fieldEvent (otherParity s.ref.parity) stopFirst (referenceGone m s))) := by
  unfold loseReference referenceGone
  simp only [Bool.false_eq_true, if_false]

/-- The work of REFERENCE_LOSS while PRESENT. -/
theorem referenceLossWork_present {s : State} {a : Nat} (hp : s.ref.state = .present) (ha : s.ref.lastAccepted = some a)
    (lossFirst stopFirst : Bool) :
    referenceLossWork lossFirst stopFirst s = loseReference (a + 2 * period s.std) lossFirst stopFirst s := by
  simp only [referenceLossWork, hp, ha]

/-- What the loss of the reference leaves, whatever the sequencer makes of it. -/
theorem loseReference_kept (m : Nat) (lossFirst stopFirst : Bool) (s : State) :
    let t := loseReference m lossFirst stopFirst s
    t.ref = { s.ref with state := .lost, goodRun := 0, lastSeen := none, lastField := m, parity := otherParity s.ref.parity }
      ∧ Notice.reference false ∈ t.notices ∧ t.mix.strobes = s.mix.strobes + 1
      ∧ t.frame = s.frame + (if s.ref.parity = .field2 then 1 else 0)
      ∧ t.pending = s.pending ∧ t.list = s.list ∧ t.reels = s.reels ∧ t.live = s.live ∧ t.snapshot = s.snapshot
      ∧ t.stored = s.stored ∧ t.link = s.link ∧ t.inReset = s.inReset := by
  have hframe : (if otherParity s.ref.parity = .field1 then 1 else 0) = if s.ref.parity = .field2 then 1 else 0 := by
    simp only [otherParity_eq_field1]
  cases lossFirst with
  | true =>
    dsimp only
    rw [loseReference_first]
    have hb := (BlockWork.start (referenceGone m s)).seqReferenceLost
    obtain ⟨k1, k2, k3, k4, k5, k6, k7, k8, k9, k10, k11⟩ :=
      fieldEvent_kept (otherParity s.ref.parity) stopFirst (seqReferenceLost (referenceGone m s))
    have href : (seqReferenceLost (referenceGone m s)).ref = (referenceGone m s).ref := (congrArg State.ref hb.only :)
    have hfr : (seqReferenceLost (referenceGone m s)).frame = s.frame := (congrArg State.frame hb.only :)
    refine ⟨?_, putNotice_mem _ _, ?_, ?_, ?_⟩
    · refine k1.trans ?_
      rw [href]
      rfl
    · exact k2.trans (by rw [hb.strobes]; rfl)
    · exact k3.trans (by rw [hframe, hfr])
    · exact ⟨k4.trans (congrArg State.pending hb.only :), k5.trans (congrArg State.list hb.only :),
        k6.trans (congrArg State.reels hb.only :), k7.trans (congrArg State.live hb.only :),
        k8.trans (congrArg State.snapshot hb.only :), k9.trans (congrArg State.stored hb.only :),
        k10.trans (congrArg State.link hb.only :), k11.trans (congrArg State.inReset hb.only :)⟩
  | false =>
    dsimp only
    rw [loseReference_after]
    obtain ⟨k1, k2, k3, k4, k5, k6, k7, k8, k9, k10, k11⟩ :=
      fieldEvent_kept (otherParity s.ref.parity) stopFirst (referenceGone m s)
    have hb := (BlockWork.start (raise (.reference false)
      (fieldEvent (otherParity s.ref.parity) stopFirst (referenceGone m s)))).seqReferenceLost
    refine ⟨((congrArg State.ref hb.only :) : _ = _).trans k1, hb.reference _ (putNotice_mem _ _), hb.strobes.trans k2,
      ((congrArg State.frame hb.only :) : _ = _).trans (k3.trans (by rw [hframe]; rfl)), ?_⟩
    exact ⟨((congrArg State.pending hb.only :) : _ = _).trans k4, ((congrArg State.list hb.only :) : _ = _).trans k5,
        ((congrArg State.reels hb.only :) : _ = _).trans k6, ((congrArg State.live hb.only :) : _ = _).trans k7,
        ((congrArg State.snapshot hb.only :) : _ = _).trans k8, ((congrArg State.stored hb.only :) : _ = _).trans k9,
        ((congrArg State.link hb.only :) : _ = _).trans k10, ((congrArg State.inReset hb.only :) : _ = _).trans k11⟩

/-- A field of parity 2 leaves the running edit, its phase and its marks. -/
theorem fieldEvent_field2_edit (stopFirst : Bool) (s : State) :
    liveEdit (fieldEvent .field2 stopFirst s) = liveEdit s
      ∧ (∃ n, (fieldEvent .field2 stopFirst s).seq = { s.seq with fieldIndex := n })
      ∧ (fieldEvent .field2 stopFirst s).holders = s.holders
      ∧ ∀ p, ((fieldEvent .field2 stopFirst s).port p).permission = (s.port p).permission := by
  rw [fieldEvent_field2]
  have hs : ∃ n, (eventBase .field2 s).seq = { s.seq with fieldIndex := n } := by
    rw [(outputs_eventBase .field2 s s.ref).2.2]
    unfold indexField
    split
    · exact ⟨_, rfl⟩
    · exact ⟨_, rfl⟩
  obtain ⟨n, hn⟩ := hs
  refine ⟨?_, ⟨n, hn⟩, (congrArg State.holders (eventBase_only .field2 s) :), fun p => by rw [eventBase_port]⟩
  unfold liveEdit
  rw [hn]
  rfl

/-- The loss ends a recording edit in CUEING, PREROLL or EDIT, whether its report is taken before the field of the loss
or after a field of parity 2. -/
theorem loseReference_ends {s : State} {x : Edit} (m : Nat) (lossFirst stopFirst : Bool) (hx : liveEdit s = some x)
    (h : lossFirst = true ∨ s.ref.parity = .field1) (hm : recordMode x.mode = true) (hp : s.seq.phase ≠ .postroll) :
    let t := loseReference m lossFirst stopFirst s
    let st := if s.seq.engaged then EventStatus.cut .reference else .failed .reference
    t.seq.closing = true ∧ t.seq.phase = s.seq.phase
      ∧ t.seq.outcome = some {
          key := x.event.key, mode := x.mode, outcome := .fault .reference, phase := s.seq.phase, early := none
          slip := s.seq.slipped, written := some st }
      ∧ t.seq.handed = some (.final { key := x.event.key, previewed := false, status := some st })
      ∧ (s.seq.engaged = true → s.seq.released = false → (t.port x.decks.recorder).permission = false)
      ∧ t.holders = s.holders := by
  dsimp only
  have hw := finalWrite_fault hm .reference s.seq.slipped s.seq.engaged x.event.key
  cases lossFirst with
  | true =>
    rw [loseReference_first, seqReferenceLost_ends (s := referenceGone m s) hx hm hp]
    obtain ⟨hs, hh, hpm⟩ := endEdit_written (s := referenceGone m s) hw none false
    obtain ⟨fs, fh, fp⟩ := fieldEvent_closed
      (s := endEdit x (.fault .reference) none false (referenceGone m s)) (by rw [hs]; simp [live])
      (otherParity s.ref.parity) stopFirst
    have hseq := fs.trans hs
    refine ⟨(congrArg Sequencer.closing hseq :), (congrArg Sequencer.phase hseq :), (congrArg Sequencer.outcome hseq :),
      (congrArg Sequencer.handed hseq :), fun he hr => (fp _).trans (hpm he hr), fh.trans hh⟩
  | false =>
    have hy : otherParity s.ref.parity = .field2 := by
      rw [h.resolve_left (by simp)]
      rfl
    rw [loseReference_after, hy]
    obtain ⟨e1, ⟨n, e2⟩, e3, e4⟩ := fieldEvent_field2_edit stopFirst (referenceGone m s)
    have hx' : liveEdit (raise (.reference false) (fieldEvent .field2 stopFirst (referenceGone m s))) = some x := e1.trans hx
    have hseq : (raise (.reference false) (fieldEvent .field2 stopFirst (referenceGone m s))).seq =
      { s.seq with fieldIndex := n } := e2
    have hp' : (raise (.reference false) (fieldEvent .field2 stopFirst (referenceGone m s))).seq.phase ≠ .postroll := by
      rw [hseq]
      exact hp
    rw [seqReferenceLost_ends hx' hm hp']
    have hw' := finalWrite_fault hm .reference
      (raise (.reference false) (fieldEvent .field2 stopFirst (referenceGone m s))).seq.slipped
      (raise (.reference false) (fieldEvent .field2 stopFirst (referenceGone m s))).seq.engaged x.event.key
    obtain ⟨hs, hh, hpm⟩ := endEdit_written hw' none false
    rw [hseq] at hs hpm
    exact ⟨(congrArg Sequencer.closing hs :), (congrArg Sequencer.phase hs :), (congrArg Sequencer.outcome hs :),
      (congrArg Sequencer.handed hs :), fun he hr => hpm he hr, hh.trans e3⟩

end Sys2Proof.Machine

open Sys2Proof Sys2Proof.Machine

/-- Settles O18: a field event is its field work, then the work of the blocks, none of which writes the tracker records but
for the settle count; without a running edit that work is done port by port. -/
theorem fieldPulsesWhilePresent : Obligations.FieldPulsesWhilePresent := by
  unfold Obligations.FieldPulsesWhilePresent
  refine ⟨?_, ?_, ?_⟩
  · intro s a time field1 stopFirst _ hs hp ha h
    exact work_idle hs (fieldPulseWork_early hp ha h field1 stopFirst)
  · intro s a time field1 stopFirst hr hp ha h h2
    refine ⟨_, work_running_eq hr (fieldPulseWork_accepted hp ha h h2 field1 stopFirst), ?_⟩
    have hk := fieldEvent_kept (if field1 then .field1 else .field2) stopFirst
      { s with ref := { s.ref with lastAccepted := some time } }
    have he := eventWork_fieldEvent (if field1 then .field1 else .field2) stopFirst s
      { s.ref with lastAccepted := some time }
    have hy : decide ((if field1 then Parity.field1 else Parity.field2) = Parity.field1) = field1 := by
      cases field1 <;> rfl
    have hf : (if (if field1 then Parity.field1 else Parity.field2) = Parity.field1 then 1 else 0) =
        (if field1 = true then 1 else 0) := by cases field1 <;> rfl
    rw [hy] at he
    obtain ⟨k1, k2, k3, k4, k5, k6, k7, k8, k9, k10, k11⟩ := hk
    exact ⟨k1, k2, k3.trans (congrArg _ hf), he,
      fun hi => fieldEvent_idle (s := { s with ref := { s.ref with lastAccepted := some time } }) hi _ stopFirst,
      k4, k5, k6, k7, k8, k9, k10, k11⟩
  · intro s a time u hr hp ha h h2 hu
    have hw : acceptPulse time true false s = frameWork u := by
      rw [hu]
      unfold acceptPulse
      rw [if_pos rfl, fieldEvent_field1]
    have hf : frameWork u = seqFrame (chaseAndReport (transportFrame (trackerFrame { u with
        frame := u.frame + 1, ports := u.ports.mapAll (fun _ d => { d with countdown := d.countdown - 1 }) }))) := by
      unfold frameWork countdownFrame
      rfl
    exact work_running_eq hr ((fieldPulseWork_accepted hp ha h h2 true false).trans (hw.trans hf))

/-- Settles O19: while LOST a pulse writes the measurement alone, and the restoration the timebase and its notice. -/
theorem theLostReferenceIsMeasuredAndRestored : Obligations.TheLostReferenceIsMeasuredAndRestored := by
  unfold Obligations.TheLostReferenceIsMeasuredAndRestored
  refine ⟨?_, ?_, ?_, ?_⟩
  · rintro s time field1 stopFirst run hr hs hl rfl
    refine (work_running hr).trans (congrArg _ ?_)
    rw [fieldPulseWork_lost hl]
    have hlow := periodLow_mul s.std
    have hhigh := periodHigh_mul s.std
    have hgood : (s.ref.lastSeen.any fun t => decide (t + periodLow s.std ≤ time) && decide (time ≤ t + periodHigh s.std))
        = s.ref.lastSeen.any fun u =>
          decide (20 * u + 19 * period s.std ≤ 20 * time ∧ 20 * time ≤ 20 * u + 21 * period s.std) := by
      congr 1
      funext t
      rw [Bool.eq_iff_iff]
      simp only [Bool.and_eq_true, decide_eq_true_eq]
      omega
    unfold lostPulse
    dsimp only
    rw [hgood]
    generalize (if (s.ref.lastSeen.any fun u => decide (20 * u + 19 * period s.std ≤ 20 * time ∧
      20 * time ≤ 20 * u + 21 * period s.std)) = true then min 8 (s.ref.goodRun + 1) else 0) = run
    by_cases h8 : run = 8
    · rw [if_pos h8, if_pos h8, h8]
      exact shortenPolls_ref hs _ _
    · rw [if_neg h8, if_neg h8]
      exact shortenPolls_ref hs _ s.notices
  · intro s hr hs hl
    refine (work_running hr).trans (congrArg _ ?_)
    simp only [goodFieldTimeoutWork, hl]
    exact shortenPolls_ref hs _ s.notices
  · intro s u hr hs hl h8 hu
    refine (work_running hr).trans (congrArg _ ?_)
    have hw : referenceRestoredWork s = restoreReference u s := by simp [referenceRestoredWork, hl, hu, h8]
    rw [hw]
    exact shortenPolls_ref hs _ _
  · intro s hs hp
    exact ⟨work_idle hs (by simp [goodFieldTimeoutWork, hp]), work_idle hs (by simp [referenceRestoredWork, hp])⟩

/-- Settles O20: a loss is a field event and the sequencer's report, in the order of its operand; the report ends a
recording edit with a final write and leaves any other state as it was. -/
theorem lossTimerAndInternalTimebase : Obligations.LossTimerAndInternalTimebase := by
  unfold Obligations.LossTimerAndInternalTimebase
  refine ⟨?_, ?_, ?_, ?_, ?_, ?_⟩
  · intro s a lossFirst stopFirst hr hp ha
    refine ⟨_, work_running_eq hr (referenceLossWork_present hp ha lossFirst stopFirst), ?_⟩
    obtain ⟨k1, k2, k3, k4, k5⟩ := loseReference_kept (a + 2 * period s.std) lossFirst stopFirst s
    refine ⟨k1, k2, k3, k4, fun hi => ?_, k5⟩
    rw [loseReference_idle hi]
    obtain ⟨hs, hh⟩ := fieldEvent_idle (s := referenceGone (a + 2 * period s.std) s) hi (otherParity s.ref.parity) stopFirst
    have he := eventWork_fieldEvent (otherParity s.ref.parity) stopFirst s (referenceGone (a + 2 * period s.std) s).ref
    simp only [otherParity_eq_field1] at he
    exact ⟨hs, hh, he⟩
  · intro s stopFirst hr hl
    have hw : internalFieldWork stopFirst s = fieldEvent (otherParity s.ref.parity) stopFirst
        { s with ref := { s.ref with lastField := s.ref.lastField + period s.std } } := by
      simp only [internalFieldWork, hl]
    refine ⟨_, work_running_eq hr hw, ?_⟩
    obtain ⟨k1, k2, k3, k4⟩ := fieldEvent_kept (otherParity s.ref.parity) stopFirst
      { s with ref := { s.ref with lastField := s.ref.lastField + period s.std } }
    have he := eventWork_fieldEvent (otherParity s.ref.parity) stopFirst s
      { s.ref with lastField := s.ref.lastField + period s.std }
    simp only [otherParity_eq_field1] at he k3
    exact ⟨k1, k2, k3, he, fun hi => fieldEvent_idle
      (s := { s with ref := { s.ref with lastField := s.ref.lastField + period s.std } }) hi _ stopFirst, k4⟩
  · intro s lossFirst stopFirst hs
    exact ⟨fun hl => work_idle hs (by simp [referenceLossWork, hl]),
      fun hp => work_idle hs (by simp [internalFieldWork, hp])⟩
  · intro s a lossFirst stopFirst x hr hp ha hx h hm hph
    refine ⟨_, work_running_eq hr (referenceLossWork_present hp ha lossFirst stopFirst), ?_⟩
    obtain ⟨e1, e2, e3, e4, e5, e6⟩ := loseReference_ends (a + 2 * period s.std) lossFirst stopFirst hx h hm hph
    obtain ⟨-, -, -, -, -, k, -⟩ := loseReference_kept (a + 2 * period s.std) lossFirst stopFirst s
    refine ⟨e1, e2, e3, e4, fun he hrel => ?_, k, e6⟩
    rw [shortenPolls_port]
    exact e5 he hrel
  · intro s a lossFirst stopFirst x u hr hp ha hx h hm hu
    refine work_running_eq hr ((referenceLossWork_present hp ha lossFirst stopFirst).trans ?_)
    have hu' : u = referenceGone (a + 2 * period s.std) s := hu
    rw [hu']
    cases lossFirst with
    | true => rw [loseReference_first, seqReferenceLost_disregarded (s := referenceGone (a + 2 * period s.std) s) hx hm]
    | false =>
      have hy : otherParity s.ref.parity = .field2 := by
        rw [h.resolve_left (by simp)]
        rfl
      obtain ⟨e1, ⟨n, e2⟩, -, -⟩ := fieldEvent_field2_edit stopFirst (referenceGone (a + 2 * period s.std) s)
      rw [loseReference_after, hy]
      exact seqReferenceLost_disregarded
        (s := raise (.reference false) (fieldEvent .field2 stopFirst (referenceGone (a + 2 * period s.std) s)))
        (e1.trans hx) (hm.imp_right fun hph => (congrArg Sequencer.phase e2).trans hph)
  · intro s a stopFirst u hr hp ha hy hu
    have hw : referenceLossWork false stopFirst s = seqReferenceLost u := by
      rw [referenceLossWork_present hp ha, loseReference_after, hu, hy]
      rfl
    refine ⟨work_running_eq hr hw, fun x hx => ?_, fun hn => by simp only [seqReferenceLost, hn]⟩
    split
    · rename_i h
      obtain ⟨hm, hph⟩ := h
      rw [seqReferenceLost_ends hx hm hph]
      obtain ⟨hs, -, -⟩ := endEdit_written (finalWrite_fault hm .reference u.seq.slipped u.seq.engaged x.event.key) none false
      rw [hs]
      exact ⟨rfl, rfl, rfl⟩
    · rename_i h
      refine seqReferenceLost_disregarded hx ?_
      by_cases hm : recordMode x.mode = true
      · exact .inr (by_contra fun hph => h ⟨hm, hph⟩)
      · exact .inl (by simpa using hm)

end

-- ==== The limits of the transport controller ====
section
/-! What CUE_TIMEOUT, WAKE_END and STANDBY_TIMEOUT do where their condition stands (R86, R88 to R91, R131). -/

namespace Sys2Proof.Machine

/-- A time failure told to CHASE removes a manual record that seeks or is parked. -/
theorem chaseCueFailed_time (p : Port) (s : State) : chaseCueFailed p .time s =
    { s with chases := s.chases.set p ((s.chase p).filter (fun r =>
        !(r.kind = .manual && (r.state = .seeking || r.state = .parked)))) } := by
  unfold chaseCueFailed
  cases hc : s.chase p with
  | none =>
    have h1 : s.chases.set p none = s.chases := by
      rw [← hc]
      exact PerPort.set_get _ _
    rw [Option.filter_none, h1]
  | some c =>
    by_cases hk : c.kind = .manual ∧ (c.state = .seeking ∨ c.state = .parked)
    · simp only [hk, and_self, if_true, decide_true, Bool.true_and, Option.filter_some]
      have hst : (decide (c.state = .seeking) || decide (c.state = .parked)) = true := by simpa using hk.2
      simp only [hst, Bool.not_true, Bool.false_eq_true, if_false]
      rfl
    · have hst : (decide (c.kind = .manual) && (decide (c.state = .seeking) || decide (c.state = .parked))) = false := by
        simpa [Bool.eq_false_iff] using hk
      have h1 : s.chases.set p (some c) = s.chases := by
        rw [← hc]
        exact PerPort.set_get _ _
      simp only [hk, if_false, Option.filter_some, hst, Bool.not_false, if_true, h1]

/-- A time failure reported to a requester other than the sequencer. -/
theorem reportCueFailed_time {w : Requester} (hw : w ≠ .sequencer) (p : Port) (s : State) :
    reportCueFailed ⟨p, .time, w⟩ s = { s with
      chases := if w = .chase then s.chases.set p ((s.chase p).filter (fun r =>
        !(r.kind = .manual && (r.state = .seeking || r.state = .parked)))) else s.chases } := by
  cases w with
  | console => rfl
  | sequencer => exact absurd rfl hw
  | chase => exact chaseCueFailed_time p s

/-- The cadence of a port looks at its own records alone. -/
theorem cadence_congr {s t : State} {p : Port} (hp : t.port p = s.port p) (ht : t.transport p = s.transport p)
    (hc : t.chase p = s.chase p) (hh : t.holder p = s.holder p) : cadence t p = cadence s p := by
  unfold cadence
  rw [hp, ht, hc, hh]

/-- A port whose records stand keeps its short countdown. -/
theorem shortenPolls_port_of_same {s u : State} {q : Port} (hs : PollsShort s) (hp : u.port q = s.port q)
    (ht : u.transport q = s.transport q) (hc : u.chase q = s.chase q) (hh : u.holder q = s.holder q) :
    (shortenPolls u).port q = s.port q := by
  rw [shortenPolls_port, cadence_congr hp ht hc hh, hp]
  simp only [Nat.min_eq_left (hs q (mem_allPorts q))]

/-- What a command of the transport controller leaves of the deck and tracker records when the work ends: only its own
port differs, by the command, its settle count and the cadence. -/
theorem shortenPolls_handed {s u : State} {p : Port} {c : DeckCmd} (hs : PollsShort s)
    (hc : ∀ b, permissionAfter c b = b) (hport : ∀ q, u.port q = (handCommand p c s).port q)
    (htracker : ∀ q, u.tracker q = if q = p ∧ changeMark (s.transport p) c = true then
      { s.tracker p with settle := (s.profile p).settle } else s.tracker q)
    (hq : ∀ q, q ≠ p → u.transport q = s.transport q ∧ u.chase q = s.chase q) (hh : u.holders = s.holders) :
    (shortenPolls u).port p = { s.port p with
        countdown := min (s.port p).countdown (cadence (shortenPolls u) p)
        commands := if (s.port p).line = .online then enqueue c (s.port p).commands else (s.port p).commands }
      ∧ (shortenPolls u).tracker p = (if changeMark (s.transport p) c then
          { s.tracker p with settle := (s.profile p).settle } else s.tracker p)
      ∧ ∀ q ∈ allPorts, q ≠ p → (shortenPolls u).port q = s.port q ∧ (shortenPolls u).transport q = s.transport q
          ∧ (shortenPolls u).tracker q = s.tracker q := by
  refine ⟨?_, ?_, fun q _ hne => ⟨?_, (hq q hne).1, ?_⟩⟩
  · rw [cadence_shortenPolls, shortenPolls_port, hport, handCommand_port, if_pos rfl, hc]
  · refine (htracker p).trans ?_
    simp only [true_and]
  · refine shortenPolls_port_of_same hs ?_ (hq q hne).1 (hq q hne).2 (congrArg (fun h => h.get q) hh)
    rw [hport, handCommand_port, if_neg hne]
  · refine (htracker q).trans ?_
    rw [if_neg (fun h => hne h.1)]

/-! ## CUE_TIMEOUT (R86) -/

/-- The cue of a CUEING deck whose time is over. -/
theorem cueTimeoutWork_cueing {s : State} {p : Port} {c : Cue} (hst : (s.transport p).state = .cueing)
    (hc : (s.transport p).cue = some c) (hl : cueLimit s p ≤ c.elapsed) :
    cueTimeoutWork p s = reportCueFailed ⟨p, .time, c.requester⟩ (cueGivenUp p .time c s) := by
  simp only [cueTimeoutWork, cueTimesOut, hst, hc]
  rw [if_pos hl]
  rfl

/-- A cue given up: the deck stands in IDLE, and HALT is handed. -/
theorem cueGivenUp_transport (p : Port) (why : CueReason) (c : Cue) (s : State) :
    (cueGivenUp p why c s).transport p = { s.transport p with
      state := .idle, speed := 0, lastKind := some .halt, standbyTimer := 0, cue := none } := by
  change ((enterState p .idle (handTransport p .halt s)).setTransport p _).transport p = _
  rw [State.setTransport_self, enterState_transport, if_pos rfl, handTransport_transport, if_pos rfl]
  simp only [commandSpeed, cmdKind, ite_self]

/-- Only the deck records and the notices differ, and the notice is the CUE END. -/
theorem cueGivenUp_only (p : Port) (why : CueReason) (c : Cue) (s : State) :
    { cueGivenUp p why c s with ports := s.ports, transports := s.transports, trackers := s.trackers } =
      { s with notices := putNotice (.cueEnd p { outcome := .failed why, requester := c.requester,
                                                 attempts := c.attempts, lastStop := c.lastStop }) s.notices } := by
  have h := handTransport_only p .halt s
  have hn : (handTransport p .halt s).notices = s.notices := (congrArg State.notices h :)
  refine Eq.trans ?_ (congrArg (fun u : State => { u with
    notices := putNotice (.cueEnd p { outcome := .failed why, requester := c.requester,
                                      attempts := c.attempts, lastStop := c.lastStop }) s.notices }) h)
  rw [← hn]
  rfl

/-- The chase records alone differ after a time failure is reported. -/
theorem reportCueFailed_time_only {w : Requester} (hw : w ≠ .sequencer) (p : Port) (s : State) :
    { reportCueFailed ⟨p, .time, w⟩ s with chases := s.chases } = s := by
  rw [reportCueFailed_time hw]

/-- The whole of a cue's time limit: the deck, the notice and the chase that asked. -/
theorem cueTimeout_cueing {s : State} {p : Port} {c : Cue} (hr : s.inReset = false) (hs : PollsShort s)
    (hst : (s.transport p).state = .cueing) (hc : (s.transport p).cue = some c) (hw : c.requester ≠ .sequencer)
    (hl : (s.profile p).cueTime * rate s.std ≤ c.elapsed) :
    ∃ t, exec (.cueTimeout p) s = .next t ∧ t.transport p = { s.transport p with
        state := .idle, speed := 0, lastKind := some .halt, standbyTimer := 0, cue := none } ∧
      (t.port p = { s.port p with
        countdown := min (s.port p).countdown (cadence t p)
        commands := if (s.port p).line = .online then enqueue (.halt) (s.port p).commands else (s.port p).commands }) ∧
      t.tracker p = (if changeMark (s.transport p) (.halt) then { s.tracker p with settle := (s.profile p).settle }
        else s.tracker p) ∧
      (∀ q ∈ allPorts, q ≠ p → t.port q = s.port q ∧ t.transport q = s.transport q ∧ t.tracker q = s.tracker q) ∧
      t.notices = putNotice (.cueEnd p {
        outcome := .failed .time, requester := c.requester, attempts := c.attempts
        lastStop := c.lastStop }) s.notices ∧
      t.chases = (if c.requester = .chase then s.chases.set p ((s.chase p).filter (fun r =>
        !(r.kind = .manual && (r.state = .seeking || r.state = .parked)))) else s.chases) ∧
      { t with ports := s.ports, transports := s.transports, trackers := s.trackers, notices := s.notices,
               chases := s.chases } = s := by
  refine ⟨_, work_running_eq hr (cueTimeoutWork_cueing hst hc hl), ?_⟩
  have ho := reportCueFailed_time_only hw p (cueGivenUp p .time c s)
  have hg := cueGivenUp_only p .time c s
  have hpw := (PortWork.start p s).cueGivenUp (c := c) .time (by simp)
  have hch : (cueGivenUp p .time c s).chases = s.chases := (congrArg State.chases hg :)
  have hparts : ∀ q, (reportCueFailed ⟨p, .time, c.requester⟩ (cueGivenUp p .time c s)).port q =
      (handCommand p .halt s).port q := by
    intro q
    refine ((congrArg (fun u : State => u.port q) ho :) : _ = _).trans ?_
    exact handTransport_port p q .halt s
  have htrk : ∀ q, (reportCueFailed ⟨p, .time, c.requester⟩ (cueGivenUp p .time c s)).tracker q =
      if q = p ∧ changeMark (s.transport p) .halt = true then { s.tracker p with settle := (s.profile p).settle }
      else s.tracker q := by
    intro q
    refine ((congrArg (fun u : State => u.tracker q) ho :) : _ = _).trans ?_
    exact handTransport_tracker p q .halt s
  have htr : ∀ q, (reportCueFailed ⟨p, .time, c.requester⟩ (cueGivenUp p .time c s)).transport q =
      (cueGivenUp p .time c s).transport q := fun q => (congrArg (fun u : State => u.transport q) ho :)
  have hchases : (reportCueFailed ⟨p, .time, c.requester⟩ (cueGivenUp p .time c s)).chases = if c.requester = .chase then
      s.chases.set p ((s.chase p).filter (fun r => !(r.kind = .manual && (r.state = .seeking || r.state = .parked))))
      else s.chases := by
    rw [reportCueFailed_time hw]
    change (if c.requester = .chase then (cueGivenUp p .time c s).chases.set p
      (((cueGivenUp p .time c s).chases.get p).filter _) else (cueGivenUp p .time c s).chases) = _
    rw [hch]
    rfl
  obtain ⟨k1, k2, k3⟩ := shortenPolls_handed hs (fun _ => rfl) hparts htrk
    (fun q hq => ⟨(htr q).trans (hpw.other q hq).2.1, by
      change PerPort.get (reportCueFailed _ _).chases q = _
      rw [hchases]
      split
      · exact PerPort.get_set_ne _ _ hq
      · rfl⟩)
    (((congrArg State.holders ho :) : _ = _).trans (congrArg State.holders hg :))
  refine ⟨(htr p).trans (cueGivenUp_transport p .time c s), k1, k2, k3, ?_, hchases, ?_⟩
  · exact ((congrArg State.notices ho :) : _ = _).trans (congrArg State.notices hg :)
  · have h1 := congrArg (fun u : State => { u with
      ports := s.ports, transports := s.transports, trackers := s.trackers, notices := s.notices, chases := s.chases }) ho
    refine Eq.trans ?_ (h1.trans ((congrArg (fun u : State => { u with
      notices := s.notices, chases := s.chases }) hg :)))
    rfl

/-- The cue still pending whose time is over. -/
theorem cueTimeoutWork_waking {s : State} {p : Port} {x n : Nat} {w : Requester} (hst : (s.transport p).state = .waking)
    (hm : (s.transport p).motion = some ⟨w, .cue x n⟩) (hw : w ≠ .sequencer) (hl : cueLimit s p ≤ n) :
    cueTimeoutWork p s = { s with
      transports := s.transports.set p { s.transport p with motion := none }
      notices := putNotice (.cueEnd p { outcome := .failed .time, requester := w, attempts := 0, lastStop := none }) s.notices
      chases := if w = .chase then s.chases.set p ((s.chase p).filter (fun r =>
        !(r.kind = .manual && (r.state = .seeking || r.state = .parked)))) else s.chases } := by
  have h1 : cueTimeoutWork p s = reportCueFailed ⟨p, .time, w⟩ (raiseCueEnd p (.failed .time) w 0 none
      (s.setTransport p { s.transport p with motion := none })) := by
    simp only [cueTimeoutWork, cueTimesOut, hst, hm]
    rw [if_pos hl]
    rfl
  rw [h1, reportCueFailed_time hw]
  rfl

/-- No time limit is reached. -/
theorem cueTimeoutWork_below {s : State} {p : Port} (hc : ∀ c ∈ (s.transport p).cue, c.elapsed < cueLimit s p)
    (hm : (s.transport p).motion = none) : cueTimeoutWork p s = s := by
  rcases cueTimesOut_failures p s with ⟨h1, h2⟩ | ⟨r, -, ⟨c, hcue, -, hle⟩ | ⟨x, n, hmot, -⟩⟩
  · unfold cueTimeoutWork
    rw [← Prod.mk.eta (p := cueTimesOut p s), h1, h2]
    rfl
  · exact absurd (hc c hcue) (by omega)
  · simp [hm] at hmot

/-! ## WAKE_END (R91) -/

/-- The work of a wake that is over. -/
theorem wakeEndWork_over {s : State} {p : Port} (hst : (s.transport p).state = .waking)
    (ht : (s.transport p).wakeTaken = true) (hn : (s.transport p).wakeCount = 0) : wakeEndWork p s = endWake p s := by
  unfold wakeEndWork
  rw [if_pos (by simp [wakeOver, hst, ht, hn])]

/-- The deck that a wake leaves: IDLE, nothing pending. -/
def awake (p : Port) (s : State) : State :=
  s.setTransport p { s.transport p with state := .idle, standbyTimer := 0, motion := none }

/-- A deck of a wake is left IDLE. -/
theorem awake_eq {s : State} {p : Port} (hst : (s.transport p).state = .waking) :
    (enterState p .idle s).setTransport p { (enterState p .idle s).transport p with motion := none } = awake p s := by
  unfold awake enterState
  simp only [State.setTransport_self, State.setTransport_setTransport, hst, reduceCtorEq, if_false]

/-- The end of a wake without a pending motion. -/
theorem endWake_none {s : State} {p : Port} (hst : (s.transport p).state = .waking) (hm : (s.transport p).motion = none) :
    endWake p s = awake p s := by
  unfold endWake
  simp only [hm]
  exact awake_eq hst

/-- The end of a wake with a pending motion that is an action. -/
theorem endWake_action {s : State} {p : Port} {a : Action} {w : Requester} (hst : (s.transport p).state = .waking)
    (hm : (s.transport p).motion = actionMotion w a) (ha : a ≠ .halt) : endWake p s = act w p a (awake p s) := by
  rw [← awake_eq hst]
  unfold endWake
  cases a with
  | halt => exact absurd rfl ha
  | play v => simp only [hm, actionMotion]
  | shuttle v => simp only [hm, actionMotion]
  | wind d => simp only [hm, actionMotion]

/-- The end of a wake with a pending cue. -/
theorem endWake_cue {s : State} {p : Port} {x n : Nat} {w : Requester} (hst : (s.transport p).state = .waking)
    (hm : (s.transport p).motion = some ⟨w, .cue x n⟩) : endWake p s = startCue w p x n (awake p s) := by
  rw [← awake_eq hst]
  unfold endWake
  simp only [hm]

/-- An action on an IDLE deck without a cue. -/
theorem act_idle {s : State} {p : Port} (hst : (s.transport p).state = .idle) (hc : (s.transport p).cue = none)
    (w : Requester) (a : Action) : act w p a s = enterState p (actionState a) (handTransport p (actionCmd a) s) := by
  simp only [act, hst, dropCue, hc]

/-- What a transport command handed to the deck of a wake leaves, the record being changed after it. -/
theorem shortenPolls_awake_handed {s u : State} {p : Port} {c : DeckCmd} (hs : PollsShort s)
    (hc : ∀ b, permissionAfter c b = b)
    (hu : { u with transports := s.transports } = { handTransport p c (awake p s) with transports := s.transports })
    (hq : ∀ q, q ≠ p → u.transport q = s.transport q) :
    (shortenPolls u).port p = { s.port p with
        countdown := min (s.port p).countdown (cadence (shortenPolls u) p)
        commands := if (s.port p).line = .online then enqueue c (s.port p).commands else (s.port p).commands }
      ∧ (shortenPolls u).tracker p = (if changeMark (s.transport p) c then
          { s.tracker p with settle := (s.profile p).settle } else s.tracker p)
      ∧ (∀ q ∈ allPorts, q ≠ p → (shortenPolls u).port q = s.port q ∧ (shortenPolls u).transport q = s.transport q
          ∧ (shortenPolls u).tracker q = s.tracker q)
      ∧ { shortenPolls u with ports := s.ports, transports := s.transports, trackers := s.trackers } = s := by
  have hparts : ∀ q, u.port q = (handCommand p c s).port q := fun q =>
    ((congrArg (fun u : State => u.port q) hu :) : _ = _).trans (handTransport_port p q c (awake p s))
  have hmark : changeMark ((awake p s).transport p) c = changeMark (s.transport p) c := by
    unfold awake
    rw [State.setTransport_self]
    rfl
  have htrk : ∀ q, u.tracker q = if q = p ∧ changeMark (s.transport p) c = true then
      { s.tracker p with settle := (s.profile p).settle } else s.tracker q := fun q => by
    refine ((congrArg (fun u : State => u.tracker q) hu :) : _ = _).trans ?_
    refine (handTransport_tracker p q c (awake p s)).trans ?_
    rw [hmark]
    rfl
  have ho := handTransport_only p c (awake p s)
  have hu1 := congrArg (fun u : State => { u with ports := s.ports, transports := s.transports, trackers := s.trackers }) hu
  have hu2 := congrArg (fun u : State => { u with transports := s.transports }) ho
  have hall : { u with ports := s.ports, transports := s.transports, trackers := s.trackers } = s := hu1.trans hu2
  obtain ⟨k1, k2, k3⟩ := shortenPolls_handed hs hc hparts htrk
    (fun q hne => ⟨hq q hne, (congrArg (fun u : State => u.chase q) hall :)⟩) (congrArg State.holders hall :)
  exact ⟨k1, k2, k3, hall⟩

/-- Countdowns stay short when a wake ends, for the cadence of a waking deck is the shortest. -/
theorem pollsShort_awake {s : State} {p : Port} (hs : PollsShort s) (hst : (s.transport p).state = .waking) :
    PollsShort (awake p s) := by
  intro q _
  by_cases hq : q = p
  · subst hq
    have h := hs q (mem_allPorts q)
    refine Nat.le_trans (m := cadence s q) h ?_
    unfold cadence
    simp only [hst]
    split
    · rename_i hl
      rw [if_pos (show ((awake q s).port q).line = .offline from hl)]
    · rename_i hl
      rw [if_neg (show ¬ ((awake q s).port q).line = .offline from hl)]
      simp only [decide_true, Bool.or_true, if_true]
      split <;> omega
  · have ht : (awake p s).transport q = s.transport q := State.setTransport_ne _ _ hq
    have hc : cadence (awake p s) q = cadence s q := cadence_congr rfl ht rfl rfl
    exact (hs q (mem_allPorts q)).trans hc.ge

/-! ## STANDBY_TIMEOUT (R89) -/

/-- The deck sent to standby. -/
theorem standbyTimeoutWork_due {s : State} {p : Port} (hst : (s.transport p).state = .idle ∨ (s.transport p).state = .parked)
    (hh : s.holder p = .free) (hd : (s.profile p).standbyDelay ≠ 0)
    (hl : standbyDelay s p ≤ (s.transport p).standbyTimer) : standbyTimeoutWork p s = sendToStandby p s := by
  unfold standbyTimeoutWork standbyDue
  rw [standbyCounts_of_stands hst, if_pos (by simp [hh, hd, hl])]

/-- A timer that has not reached its delay. -/
theorem standbyTimeoutWork_below {s : State} {p : Port} (h : s.holder p ≠ .free ∨ (s.profile p).standbyDelay = 0
    ∨ (s.transport p).standbyTimer < standbyDelay s p) : standbyTimeoutWork p s = s := by
  have hd : standbyDue s p = false := by
    rw [Bool.eq_false_iff]
    intro hd
    simp only [standbyDue, standbyCounts, Bool.and_eq_true, decide_eq_true_eq, ne_eq] at hd
    obtain ⟨⟨⟨-, hf⟩, hn⟩, hle⟩ := hd
    rcases h with h | h | h
    · exact h hf
    · exact hn h
    · omega
  unfold standbyTimeoutWork
  rw [hd]
  rfl

/-- The record of a deck sent to standby. -/
theorem sendToStandby_transport (p : Port) (s : State) : (sendToStandby p s).transport p = { s.transport p with
    state := .standby, speed := 0, lastKind := some .release, standbyTimer := 0 } := by
  change (stillDeck p (enterState p .standby (handTransport p .release s))).transport p = _
  unfold stillDeck
  rw [State.setTransport_self, enterState_transport, if_pos rfl, handTransport_transport, if_pos rfl]
  rfl

/-- Only the deck records and the notices differ, and the notice is the DECK notice of the deck in standby. -/
theorem sendToStandby_only (p : Port) (s : State) :
    { sendToStandby p s with ports := s.ports, transports := s.transports, trackers := s.trackers } =
      { s with notices := putNotice (.deck p {
        line := (s.port p).line, transport := .standby, mode := (s.transport p).condition.map Condition.mode
        threaded := (s.transport p).condition.map Condition.threaded
        inhibit := (s.transport p).condition.map Condition.inhibit }) s.notices } := by
  have ht := sendToStandby_transport p s
  have hl : ((stillDeck p (enterState p .standby (handTransport p .release s))).port p).line = (s.port p).line := by
    change ((handTransport p .release s).port p).line = _
    rw [handTransport_port, handCommand_port, if_pos rfl]
  have h := handTransport_only p .release s
  have hn : (handTransport p .release s).notices = s.notices := (congrArg State.notices h :)
  unfold sendToStandby raiseDeck at ht ⊢
  dsimp only at ht ⊢
  have ht' : (stillDeck p (enterState p .standby (handTransport p .release s))).transport p = _ := ht
  rw [ht', hl]
  refine Eq.trans ?_ (congrArg (fun u : State => { u with
    notices := putNotice (.deck p {
      line := (s.port p).line, transport := .standby, mode := (s.transport p).condition.map Condition.mode
      threaded := (s.transport p).condition.map Condition.threaded
      inhibit := (s.transport p).condition.map Condition.inhibit }) s.notices }) h)
  rw [← hn]
  rfl

end Sys2Proof.Machine

open Sys2Proof Sys2Proof.Machine

/-- Settles O43: where a limit is reached the work is one transport command and its notice, told to the chase that asked;
where none is, nothing. -/
theorem transportLimitsActWhenTheyAreReached : Obligations.TransportLimitsActWhenTheyAreReached := by
  unfold Obligations.TransportLimitsActWhenTheyAreReached
  refine ⟨?_, ?_, ?_, ?_, ?_, ?_, ?_, ?_, ?_⟩
  · intro s p c hr hs hst hc hw hl
    exact cueTimeout_cueing hr hs hst hc hw hl
  · intro s p x n w hr _ hst hm hw hl
    exact work_running_eq hr (cueTimeoutWork_waking hst hm hw hl)
  · intro s p hr hs hst ht hn hm
    refine (work_running_eq hr ((wakeEndWork_over hst ht hn).trans (endWake_none hst hm))).trans (congrArg _ ?_)
    rw [shortenPolls_eq (pollsShort_awake hs hst)]
    unfold awake State.setTransport
    rw [← hm]
  · intro s p a w hr hs hst ht hn hm ha hc
    have hi : ((awake p s).transport p).state = .idle := by
      unfold awake
      rw [State.setTransport_self]
    have hc' : ((awake p s).transport p).cue = none := by
      unfold awake
      rw [State.setTransport_self]
      exact hc
    refine ⟨_, work_running_eq hr ((wakeEndWork_over hst ht hn).trans
      ((endWake_action hst hm ha).trans (act_idle hi hc' w a))), ?_, ?_⟩
    · change (enterState p (actionState a) (handTransport p (actionCmd a) (awake p s))).transport p = _
      rw [enterState_transport, if_pos rfl, handTransport_transport, if_pos rfl]
      unfold awake
      rw [State.setTransport_self]
      simp only [ite_self]
    · refine shortenPolls_awake_handed hs (fun b => by cases a <;> rfl) rfl (fun q hq => ?_)
      rw [enterState_transport, if_neg hq, handTransport_transport, if_neg hq]
      exact State.setTransport_ne _ _ hq
  · intro s p x n w hr hs hst ht hn hm
    refine ⟨_, work_running_eq hr ((wakeEndWork_over hst ht hn).trans (endWake_cue hst hm)), ?_, ?_⟩
    · change (startCue w p x n (awake p s)).transport p = _
      unfold startCue
      rw [State.setTransport_self, enterState_transport, if_pos rfl, handTransport_transport, if_pos rfl]
      unfold awake
      rw [State.setTransport_self]
      simp only [ite_self]
      rfl
    · refine shortenPolls_awake_handed hs (fun b => rfl) rfl (fun q hq => ?_)
      unfold startCue
      rw [State.setTransport_ne _ _ hq, enterState_transport, if_neg hq, handTransport_transport, if_neg hq]
      exact State.setTransport_ne _ _ hq
  · intro s p hr hs hst hh hd hl
    refine ⟨_, work_running_eq hr (standbyTimeoutWork_due hst hh hd hl), sendToStandby_transport p s, ?_⟩
    have hg := sendToStandby_only p s
    have hpw := (PortWork.start p s).sendToStandby
    obtain ⟨k1, k2, k3⟩ := shortenPolls_handed (u := sendToStandby p s) hs (fun _ => rfl)
      (fun q => handTransport_port p q .release s) (fun q => handTransport_tracker p q .release s)
      (fun q hq => ⟨(hpw.other q hq).2.1, (hpw.other q hq).2.2.2⟩) (congrArg State.holders hg :)
    exact ⟨k1, k2, k3, (congrArg State.notices hg :), (congrArg (fun u : State => { u with notices := s.notices }) hg :)⟩
  · intro s p hs hc hm
    exact work_idle hs (cueTimeoutWork_below hc hm)
  · intro s p hs h
    refine work_idle hs ?_
    unfold wakeEndWork
    rw [if_neg]
    simp only [wakeOver, Bool.and_eq_true, decide_eq_true_eq]
    rintro ⟨⟨h1, h2⟩, h3⟩
    rcases h with h | h | h
    · exact h h1
    · simp [h2] at h
    · exact h h3
  · intro s p hs h
    exact work_idle hs (standbyTimeoutWork_below h)

end

-- ==== The settings ====
section
/-! SET SYSTEM with its tests passed and what a change of standard does (R2, R18, R193), and the store and the load of the
settings (R187, R194 to R196). -/

namespace Sys2Proof.Machine

/-! ## SET SYSTEM (R193) -/

/-- A request of a length and without a wait is worked. -/
theorem request_worked_now {code n : Nat} {owner : List Byte → State → State} {body : List Byte} {s : State}
    (h : Ready s) (hl : body.length = n) :
    request code (lengthIs n) neverWaits owner body s = .next (shortenPolls (owner body (taken body s))) :=
  request_worked h (by simp [lengthIs, hl]) rfl

/-- The clamp of a number that only has an upper end. -/
theorem clamp_zero (hi n : Nat) : clamp 0 hi n = min hi n := by simp [clamp]

/-- A clamped number is at least the lower end. -/
theorem le_clamp (lo hi n : Nat) : lo ≤ clamp lo hi n := Nat.le_max_left _ _

/-- A clamped number is at most the upper end. -/
theorem clamp_le {lo hi : Nat} (h : lo ≤ hi) (n : Nat) : clamp lo hi n ≤ hi := by
  unfold clamp
  omega

/-- The block that a body of SET SYSTEM asks for. -/
def askedBlock (std : FrameStd) (start : Nat) (body : List Byte) : SystemBlock :=
  { std := std, preroll := byteAt body 1, postroll := byteAt body 2, windowStart := start, windowLength := long body 7
    recorder := recorderOf (byteAt body 11) }

/-- The roles stay when the recorder does. -/
theorem rolesChanged_self (r : Option Port) : rolesChanged r r = [] := by simp [rolesChanged]

/-- A changed recorder changes the roles of the old and the new one. -/
theorem mem_rolesChanged {o n : Option Port} {p : Port} (h : p ∈ rolesChanged o n) : p ∈ o ∨ p ∈ n := by
  unfold rolesChanged at h
  split at h
  · simp at h
  · simpa using h

/-- A body that passes the tests of SET SYSTEM. -/
theorem systemChecks_ok {body : List Byte} {s : State} {std : FrameStd} {start : Nat} {moved : Bool}
    (hstd : stdOf (byteAt body 0) = some std) (hlabel : readLabel std false (labelAt body 3) = some (start, moved))
    (hroles : byteAt body 11 < 64) (hcount : recorderCount (byteAt body 11) ≤ 1)
    (hidle : std = s.std ∨ (s.list.events = [] ∧ s.seq.phase = .idle))
    (hrec : recorderOf (byteAt body 11) = s.recorder ∨ s.seq.phase = .idle)
    (hfree : recorderOf (byteAt body 11) = s.recorder ∨ ((∀ p ∈ s.recorder, s.holder p = .free) ∧
      ∀ p ∈ recorderOf (byteAt body 11), s.holder p = .free ∧ reelOn s p = none)) :
    systemChecks body s = .ok (askedBlock std start body, moved) := by
  have hchanged : (rolesChanged s.recorder (recorderOf (byteAt body 11))).isEmpty = true ∨ s.seq.phase = .idle :=
    hrec.imp_left fun h => by rw [h, rolesChanged_self]; rfl
  have hall : allFree s (rolesChanged s.recorder (recorderOf (byteAt body 11))) = true := by
    rcases hfree with h | ⟨ho, hn⟩
    · rw [h, rolesChanged_self]
      rfl
    · simp only [allFree, List.all_eq_true, decide_eq_true_eq]
      exact fun p hp => (mem_rolesChanged hp).elim (ho p) (fun h => (hn p h).1)
  have hreel : (recorderOf (byteAt body 11)).all (fun p =>
      !(rolesChanged s.recorder (recorderOf (byteAt body 11))).contains p || (reelOn s p).isNone) = true := by
    rw [Option.all_eq_true]
    intro p hp
    rcases hfree with h | ⟨-, hn⟩
    · rw [h, rolesChanged_self]
      rfl
    · rw [(hn p hp).2]
      simp
  simp only [systemChecks, need_bind_eq_ok, check_bind_eq_ok, pure_eq_ok, hstd, Option.getD_some, Option.isSome_some,
    Bool.true_and, decide_eq_true_eq]
  refine ⟨_, hlabel, hroles, hcount, ?_, hall, hreel, rfl⟩
  simp only [Bool.and_eq_true, Bool.or_eq_true, decide_eq_true_eq, List.isEmpty_iff] at hchanged ⊢
  exact ⟨hidle, hchanged⟩

/-- The tests and the clamps of SET SYSTEM do not look at the link. -/
theorem setSystemOwner_taken {body : List Byte} {s : State} {std : FrameStd} {start : Nat} {moved : Bool}
    (h : systemChecks body (taken body s) = .ok (askedBlock std start body, moved)) :
    setSystemOwner body (taken body s) =
      { setSystemBlock (clampSystem (askedBlock std start body)) s with
        link := answered s body (say 0x28 (doneOr (moved || clampSystem (askedBlock std start body) ≠ askedBlock std start body))
          (bSystem (clampSystem (askedBlock std start body)))) } := by
  unfold setSystemOwner
  rw [h]
  dsimp only
  unfold setSystemBlock
  by_cases hs : (clampSystem (askedBlock std start body)).std = s.std
  · have hs' : (clampSystem (askedBlock std start body)).std = (taken body s).std := hs
    rw [if_pos hs, if_pos hs']
    rfl
  · have hs' : ¬ (clampSystem (askedBlock std start body)).std = (taken body s).std := hs
    rw [if_neg hs, if_neg hs']
    rfl

/-- The clamps changed the block asked for. -/
theorem clampSystem_ne_asked (std : FrameStd) (start : Nat) (body : List Byte) :
    clampSystem (askedBlock std start body) ≠ askedBlock std start body ↔
      (clampSystem (askedBlock std start body)).preroll ≠ byteAt body 1
        ∨ (clampSystem (askedBlock std start body)).postroll ≠ byteAt body 2
        ∨ (clampSystem (askedBlock std start body)).windowLength ≠ long body 7 := by
  simp only [ne_eq, clampSystem, askedBlock, SystemBlock.mk.injEq, true_and, and_true]
  tauto

/-- The timebase under a new standard drops its measurement while LOST. -/
theorem changeStandardRef_eq (r : Reference) :
    changeStandardRef r = if r.state = .lost then { r with goodRun := 0, lastSeen := none } else r := by
  obtain ⟨st, _⟩ := r
  cases st <;> rfl

/-- A change of standard leaves the cadences. -/
theorem cadence_changeStandard (std : FrameStd) (s : State) (p : Port) :
    cadence (changeStandard std s) p = cadence s p := by
  have hport : (changeStandard std s).port p = reducePort std (s.port p) := PerPort.get_mapAll _ _ _
  have htr : (changeStandard std s).transport p = reduceTransport std (s.transport p) := PerPort.get_mapAll _ _ _
  have hch : (changeStandard std s).chase p = (s.chase p).map (reduceChase std) := PerPort.get_mapAll _ _ _
  have hh : (changeStandard std s).holder p = s.holder p := rfl
  unfold cadence
  rw [hport, htr, hch, hh]
  simp only [reducePort, reduceTransport, List.isEmpty_map, Option.isSome_map]
  rfl

/-- A new system block leaves the countdowns, short as they are. -/
theorem pollsShort_setSystemBlock {s : State} (h : PollsShort s) (b : SystemBlock) : PollsShort (setSystemBlock b s) := by
  intro p hp
  unfold setSystemBlock
  split
  · exact h p hp
  · have hport : (changeStandard b.std s).port p = reducePort b.std (s.port p) := PerPort.get_mapAll _ _ _
    have hc : ((changeStandard b.std s).port p).countdown ≤ cadence (changeStandard b.std s) p := by
      rw [cadence_changeStandard, hport]
      exact h p hp
    exact hc

/-! ## The store (R196) -/

/-- Addressed bytes have addresses from the first one on. -/
theorem addressed_ge {a n : Nat} {b : Byte} {bs : List Byte} (h : (n, b) ∈ addressed a bs) : a ≤ n := by
  induction bs generalizing a with
  | nil => simp [addressed] at h
  | cons x rest ih =>
    simp only [addressed, List.mem_cons, Prod.mk.injEq] at h
    rcases h with ⟨rfl, -⟩ | h
    · exact Nat.le_refl _
    · exact Nat.le_of_succ_le (ih h)

/-- The signature was written by a store that stopped only when the stop is its reading back. -/
theorem signature_mem_storeWrites (x : Settings) (stop : StoreStop) :
    (0, 0x5C) ∈ storeWrites x (some stop) ↔ stop = .signatureRead := by
  have hbody : (0, (0x5C : Byte)) ∉ addressed 1 (imageBody x) := fun h => absurd (addressed_ge h) (by omega)
  have hzero : (0, (0x5C : Byte)) ≠ (0, 0) := by decide
  cases stop with
  | invalidate => simp [storeWrites]
  | body n =>
    have htake : (0, (0x5C : Byte)) ∉ (addressed 1 (imageBody x)).take n := fun h => hbody (List.mem_of_mem_take h)
    simpa [storeWrites, hzero] using htake
  | compare => simpa [storeWrites, hzero] using hbody
  | signature => simpa [storeWrites, hzero] using hbody
  | signatureRead => simp [storeWrites]

/-! ## The load (R195) -/

/-- The day of a standard is not empty, with room for the clamp of the window's start. -/
theorem clamp_start_lt (std : FrameStd) (n : Nat) : clamp 0 (fday std - 1) n < fday std := by
  have h := fday_pos std
  rw [clamp_zero]
  omega

/-- A clamped system block whose window starts on the day is in its ranges. -/
theorem systemRight_clampSystem {b : SystemBlock} (h : b.windowStart < fday b.std) : SystemRight (clampSystem b) := by
  unfold SystemRight clampSystem
  have h1 : clamp 1 15 b.preroll ≤ 15 := clamp_le (by omega) _
  have h2 : clamp 0 10 b.postroll ≤ 10 := clamp_le (by omega) _
  have h3 := le_clamp 1 15 b.preroll
  refine ⟨h3, h1, h2, h, ?_, ?_⟩
  · dsimp only
    omega
  · dsimp only
    omega

/-- A clamped profile is in its ranges. -/
theorem profileRight_clampProfile (f : Profile) : ProfileRight (clampProfile f) := by
  unfold ProfileRight clampProfile clamp
  dsimp only
  refine ⟨⟨?_, ?_⟩, ?_, ⟨?_, ?_⟩, ?_, ?_, ⟨?_, ?_⟩, ⟨?_, ?_, ?_⟩, ⟨?_, ?_⟩, ?_, ?_, ⟨?_, ?_⟩, ⟨?_, ?_⟩, ?_, ?_, ?_, ?_,
    ⟨?_, ?_⟩, ⟨?_, ?_⟩⟩
  all_goals omega

/-- The settings of an image, corrected, are in their ranges. -/
theorem settingsRight_loadImage (image : List Byte) : SettingsRight (loadImage image) := by
  refine ⟨systemRight_clampSystem (clamp_start_lt _ _), fun p _ => ?_⟩
  have h : (loadImage image).profiles.get p = clampProfile (profileAt image (14 + 22 * (portNum p - 1))) :=
    PerPort.get_mapAll _ _ _
  rw [h]
  exact profileRight_clampProfile _

/-- The signature and the version of an image read whole. -/
theorem imageValid_iff {image : List Byte} (h : image.length = 154) :
    imageValid image = true ↔ image[0]? = some 0x5C ∧ image[1]? = some 1 := by
  have byte (i : Nat) (hi : i < 154) (v : Byte) : byteAt image i = v.toNat ↔ image[i]? = some v := by
    have hi' : i < image.length := by omega
    rw [byteAt, List.getD_eq_getElem?_getD, List.getElem?_eq_getElem hi', Option.getD_some, Option.some_inj,
      BitVec.toNat_inj]
  have h0 := byte 0 (by omega) 0x5C
  have h1 := byte 1 (by omega) 1
  simp only [imageValid, h, Nat.le_refl, decide_true, Bool.true_and, Bool.and_eq_true, decide_eq_true_eq]
  exact and_congr h0 h1

/-- What the load makes live and reports. -/
theorem execSettingsLoadEnd_eq {s : State} {read : Option (List Byte)} {x : Settings} {r : SettingsReport}
    (hr : s.inReset = true) (ho : loadOutcome read = (x, r)) (time : Nat) :
    exec (.settingsLoadEnd read time) s = .next { s with
      inReset := false, live := x, notices := putNotice (.settings r) s.notices
      ref := { s.ref with lastField := time } } := by
  change Host.Outcome.next (loadEndWork read time s) = _
  simp only [loadEndWork, hr, if_true, ho]
  rfl

end Sys2Proof.Machine

open Sys2Proof Sys2Proof.Machine

/-- Settles O25: the tests passed, the block is the clamped one, and a change of standard reduces every record without
touching a cadence. -/
theorem setSystemClampsAndTakesTheBlock : Obligations.SetSystemClampsAndTakesTheBlock := by
  unfold Obligations.SetSystemClampsAndTakesTheBlock
  intro s body std start moved b hready hpolls hlen hstd hlabel hroles hcount hb hidle hrec hfree
  have hbc : b = clampSystem (askedBlock std start body) := by
    rw [hb]
    simp only [clampSystem, askedBlock, clamp_zero]
    rfl
  have hbr : b.recorder = recorderOf (byteAt body 11) := by rw [hb]; rfl
  have hbs : b.std = std := by rw [hb]
  rw [hbr] at hrec hfree
  have hchecks : systemChecks body (taken body s) = .ok (askedBlock std start body, moved) :=
    systemChecks_ok (s := taken body s) hstd hlabel hroles hcount hidle hrec hfree
  have hwork := setSystemOwner_taken hchecks
  rw [← hbc] at hwork
  have hdone : doneOr (moved || decide (b ≠ askedBlock std start body)) =
      if moved = true ∨ b.preroll ≠ byteAt body 1 ∨ b.postroll ≠ byteAt body 2 ∨ b.windowLength ≠ long body 7
        then .adjusted else .done := by
    have hne := clampSystem_ne_asked std start body
    rw [← hbc] at hne
    unfold doneOr
    simp only [hne, Bool.or_eq_true, decide_eq_true_eq]
  rw [hdone] at hwork
  have hshort := pollsShort_setSystemBlock hpolls b
  refine ⟨{ setSystemBlock b s with link := _ }, ?_, ?_, rfl, ?_, ?_, ?_⟩
  · refine (request_worked_now hready hlen).trans (congrArg _ ?_)
    rw [hwork]
    exact shortenPolls_eq hshort
  · unfold setSystemBlock
    split <;> rfl
  · intro hs
    unfold setSystemBlock
    rw [if_pos (hbs.trans hs)]
  · intro hs
    unfold setSystemBlock
    rw [if_neg (fun h => hs (hbs.symm.trans h)), hbs]
    refine ⟨?_, rfl, ?_, fun p _ => ⟨?_, ?_, ?_, ?_⟩⟩
    · exact changeStandardRef_eq s.ref
    · exact congrArg (fun f => s.notices.map f) (funext fun n => by cases n <;> rfl)
    · exact PerPort.get_mapAll _ _ _
    · exact PerPort.get_mapAll _ _ _
    · refine (PerPort.get_mapAll _ _ _).trans ?_
      exact Eq.mpr (Transport.mk.injEq ..) ⟨rfl, rfl, rfl, rfl, rfl, rfl, rfl, rfl,
        Option.map_congr fun m _ => by obtain ⟨w, _ | _ | _ | _⟩ := m <;> rfl⟩
    · refine (PerPort.get_mapAll _ _ _).trans ?_
      exact Eq.mpr (DeckPort.mk.injEq ..) ⟨rfl, rfl, rfl,
        Option.map_congr fun x _ => by obtain ⟨c, n⟩ := x; cases c <;> rfl,
        List.map_congr_left fun c _ => by cases c <;> rfl, rfl, rfl, rfl⟩
  · unfold setSystemBlock
    split <;> rfl

/-- Settles O27: a store ends with its writes and a notice, and a load with the settings of the image, corrected, or the
defaults. -/
theorem storesAndTheSettingsLoadEndWithANotice : Obligations.StoresAndTheSettingsLoadEndWithANotice := by
  unfold Obligations.StoresAndTheSettingsLoadEndWithANotice
  refine ⟨?_, ?_, ?_, ?_, ?_, ?_, ?_, ?_⟩
  · intro s hready hpolls hn
    refine (request_worked_now hready rfl).trans (congrArg _ ?_)
    have ho : storeSettingsOwner [] (taken [] s) =
        { s with snapshot := some s.live, link := answered s [] (say 0x2C .started []) } := by
      have hn' : (taken [] s).snapshot = none := hn
      unfold storeSettingsOwner
      rw [hn']
      rfl
    rw [ho]
    exact shortenPolls_eq hpolls
  · intro s hready hpolls hn
    refine request_answers hready hpolls rfl rfl ?_
    have hn' : (taken [] s).snapshot.isSome = true := Option.isSome_iff_ne_none.2 hn
    unfold storeSettingsOwner
    rw [if_pos hn']
    rfl
  · intro s x hr hpolls hx
    refine (work_running_eq hr (u := _) ?_).trans (congrArg _ (shortenPolls_eq ?_))
    · simp only [storeEndWork, hx]
      rfl
    · exact hpolls
  · intro s x stop hr hpolls hx
    refine ⟨_, (work_running_eq hr (u := raise (.settings .storeFailed)
      { s with snapshot := none, stored := storeWrites x (some stop) }) ?_).trans (congrArg _ (shortenPolls_eq ?_)), rfl,
      signature_mem_storeWrites x stop⟩
    · simp only [storeEndWork, hx, reduceCtorEq, if_false]
    · exact hpolls
  · intro s stop hpolls hn
    exact work_idle hpolls (by simp only [storeEndWork, hn])
  · intro s read time hr hread
    refine execSettingsLoadEnd_eq hr ?_ time
    cases read with
    | none => rfl
    | some image =>
      obtain ⟨hl, hv⟩ := hread image rfl
      have hinv : ¬ imageValid image = true := fun h => hv ((imageValid_iff hl).1 h)
      simp only [loadOutcome]
      rw [if_neg hinv]
  · intro s image time hr hl h0 h1
    refine ⟨execSettingsLoadEnd_eq hr ?_ time, settingsRight_loadImage image⟩
    have hval : imageValid image = true := (imageValid_iff hl).2 ⟨h0, h1⟩
    simp only [loadOutcome]
    rw [if_pos hval]
  · intro s read time hr
    change Host.Outcome.next (loadEndWork read time s) = _
    simp only [loadEndWork, hr, Bool.false_eq_true, if_false]

end

-- ==== The order and the keys of the list ====
section
/-! The order of R23, the place of an event in it, the next key of R25, and what a ripple record shows of the list (R44,
R50). -/

namespace Sys2Proof.Machine

/-! ## The order of R23 -/

/-- The order of R23, as a relation of record in and key. -/
theorem comesBefore_iff {a b : Event} :
    comesBefore a b = true ↔ a.recIn < b.recIn ∨ a.recIn = b.recIn ∧ a.key < b.key := by simp [comesBefore]

/-- The order is transitive. -/
theorem comesBefore_trans {a b c : Event} (h : comesBefore a b = true) (k : comesBefore b c = true) :
    comesBefore a c = true := by
  rw [comesBefore_iff] at *
  omega

/-- Of two events with different keys one comes before the other. -/
theorem comesBefore_of_not {a b : Event} (hk : a.key ≠ b.key) (h : ¬ comesBefore a b = true) : comesBefore b a = true := by
  rw [comesBefore_iff] at *
  omega

/-- An event put in its place is added to the others. -/
theorem insertBy_perm (f : Event → Event) (e : Event) (es : List Event) : (insertBy f e es).Perm (e :: es) := by
  induction es with
  | nil => exact .refl _
  | cons x rest ih =>
    unfold insertBy
    split
    · exact .refl _
    · exact (ih.cons x).trans (.swap e x rest)

/-- Ordered events are the same events. -/
theorem sortBy_perm (f : Event → Event) (es : List Event) : (sortBy f es).Perm es := by
  induction es with
  | nil => exact .refl _
  | cons x rest ih => exact (insertBy_perm f x _).trans (ih.cons x)

/-- An event put in its place in an ordered list leaves it ordered. -/
theorem insertBy_pairwise {f : Event → Event} {e : Event} {es : List Event}
    (h : es.Pairwise (fun a b => comesBefore (f a) (f b) = true)) (hk : ∀ x ∈ es, (f e).key ≠ (f x).key) :
    (insertBy f e es).Pairwise (fun a b => comesBefore (f a) (f b) = true) := by
  induction es with
  | nil => simp [insertBy]
  | cons x rest ih =>
    obtain ⟨hx, hrest⟩ := List.pairwise_cons.1 h
    unfold insertBy
    split
    · rename_i hlt
      exact List.pairwise_cons.2 ⟨fun y hy => (List.mem_cons.1 hy).elim (fun e => e ▸ hlt)
        (fun hy => comesBefore_trans hlt (hx y hy)), h⟩
    · rename_i hlt
      refine List.pairwise_cons.2 ⟨fun y hy => ?_, ih hrest (fun y hy => hk y (List.mem_cons_of_mem x hy))⟩
      rcases List.mem_cons.1 ((insertBy_perm f e rest).mem_iff.1 hy) with rfl | hy
      · exact comesBefore_of_not (hk x List.mem_cons_self) hlt
      · exact hx y hy

/-- Events with different keys are put in the order of R23. -/
theorem sortBy_pairwise {f : Event → Event} {es : List Event} (h : (es.map fun e => (f e).key).Nodup) :
    (sortBy f es).Pairwise (fun a b => comesBefore (f a) (f b) = true) := by
  induction es with
  | nil => exact .nil
  | cons x rest ih =>
    obtain ⟨hx, hrest⟩ := List.nodup_cons.1 h
    exact insertBy_pairwise (ih hrest) fun y hy he => hx
      (List.mem_map.2 ⟨y, (sortBy_perm f rest).mem_iff.1 hy, he.symm⟩)

/-! ## What is seen of the list (R50) -/

/-- An event seen keeps its key. -/
theorem seen_key (l : ListUnit) (e : Event) : (seen l e).key = e.key := by
  unfold seen
  split
  · split <;> rfl
  · rfl

/-- Without a ripple the events are seen as they are stored. -/
theorem seen_eq_self {l : ListUnit} (h : l.ripple = none) (e : Event) : seen l e = e := by simp [seen, h]

/-- Without a ripple the list is seen as it is stored. -/
theorem viewEvents_eq_events {l : ListUnit} (h : l.ripple = none) : viewEvents l = l.events := by
  unfold viewEvents
  rw [List.map_congr_left (fun e _ => seen_eq_self h e), List.map_id']

/-- The keys seen are the keys stored. -/
theorem viewEvents_keys (l : ListUnit) : (viewEvents l).map Event.key = l.events.map Event.key := by
  simp [viewEvents, Function.comp_def, seen_key]

/-- A reordered list is seen in the order of R23. -/
theorem viewEvents_reorder_pairwise {l : ListUnit} (h : (l.events.map Event.key).Nodup) :
    (viewEvents (reorder l)).Pairwise (fun a b => comesBefore a b = true) := by
  have hs : seen (reorder l) = seen l := rfl
  unfold viewEvents
  rw [hs, List.pairwise_map]
  refine sortBy_pairwise ?_
  simpa only [seen_key] using h

/-- A reordered list holds the same events. -/
theorem reorder_perm (l : ListUnit) : (reorder l).events.Perm l.events := sortBy_perm _ _

/-- A reordered list shows the same events. -/
theorem viewEvents_reorder_perm (l : ListUnit) : (viewEvents (reorder l)).Perm (viewEvents l) :=
  (reorder_perm l).map (seen l)

/-- With different keys an event is found at its own place. -/
theorem findIdx?_key {es : List Event} {n : Nat} {e : Event} (h : (es.map Event.key).Nodup) (hn : es[n]? = some e) :
    es.findIdx? (fun x => decide (x.key = e.key)) = some n := by
  obtain ⟨hl, rfl⟩ := List.getElem?_eq_some_iff.1 hn
  rw [List.findIdx?_eq_some_iff_getElem]
  refine ⟨hl, by simp, fun j hj => ?_⟩
  have hne := List.pairwise_iff_getElem.1 h j n (by simpa using hj.trans hl) (by simpa using hl) hj
  simpa using hne

/-- The position of an event seen (R29). -/
theorem positionOf_eq {l : ListUnit} {n : Nat} {e : Event} (h : (l.events.map Event.key).Nodup)
    (hn : (viewEvents l)[n]? = some e) : positionOf l e.key = n + 1 := by
  unfold positionOf
  rw [findIdx?_key (by rwa [viewEvents_keys]) hn]

/-- The first entry that meets a condition. -/
theorem find?_at {es : List Event} {p : Event → Bool} {n : Nat} {e : Event} (hn : es[n]? = some e) (hp : p e = true)
    (hb : ∀ x ∈ es.take n, p x = false) : es.find? p = some e := by
  obtain ⟨hl, rfl⟩ := List.getElem?_eq_some_iff.1 hn
  refine List.find?_eq_some_iff_getElem.2 ⟨hp, n, hl, rfl, fun j hj => ?_⟩
  have hj' : es[j] ∈ es.take n := List.mem_take_iff_getElem.2 ⟨j, by omega, rfl⟩
  rw [hb _ hj']
  rfl

/-- With different keys an event is found by its key. -/
theorem find?_key {es : List Event} {n : Nat} {e : Event} (h : (es.map Event.key).Nodup) (hn : es[n]? = some e) :
    es.find? (fun x => decide (x.key = e.key)) = some e := by
  refine find?_at hn (by simp) fun x hx => ?_
  obtain ⟨hl, rfl⟩ := List.getElem?_eq_some_iff.1 hn
  obtain ⟨j, hj, rfl⟩ := List.mem_take_iff_getElem.1 hx
  have hjn : j < n := by omega
  have hne := List.pairwise_iff_getElem.1 h j n (by rw [List.length_map]; omega) (by rwa [List.length_map]) hjn
  simpa using hne

/-! ## The next key (R25) -/

/-- The keys from a key on, 4095 being followed by 1. -/
theorem keyAfter_eq {k : Nat} (h1 : 1 ≤ k) (h2 : k ≤ 4095) : keyAfter k = k % 4095 + 1 := by
  unfold keyAfter
  split
  · obtain rfl : k = 4095 := by omega
    rfl
  · rw [Nat.mod_eq_of_lt (by omega)]

/-- The key reached from a key. -/
def keyFrom (k j : Nat) : Nat := (k - 1 + j) % 4095 + 1

/-- No steps from a key of the range. -/
theorem keyFrom_zero {k : Nat} (h1 : 1 ≤ k) (h2 : k ≤ 4095) : keyFrom k 0 = k := by
  unfold keyFrom
  rw [Nat.add_zero, Nat.mod_eq_of_lt (by omega)]
  omega

/-- A step first, and then the others. -/
theorem keyFrom_keyAfter {k : Nat} (h1 : 1 ≤ k) (h2 : k ≤ 4095) (j : Nat) : keyFrom (keyAfter k) j = keyFrom k (j + 1) := by
  unfold keyFrom keyAfter
  split <;> omega

/-- The first key not in use, found within the fuel. -/
theorem firstFree_eq {l : ListUnit} {fuel j k : Nat} (h1 : 1 ≤ k) (h2 : k ≤ 4095) (hj : j ≤ fuel)
    (hused : ∀ m < j, keyUsed l (keyFrom k m) = true) (hfree : keyUsed l (keyFrom k j) = false) :
    firstFree l fuel k = keyFrom k j := by
  induction j generalizing fuel k with
  | zero =>
    rw [keyFrom_zero h1 h2] at hfree ⊢
    cases fuel with
    | zero => rfl
    | succ n => simp [firstFree, hfree]
  | succ j ih =>
    obtain ⟨n, rfl⟩ : ∃ n, fuel = n + 1 := ⟨fuel - 1, by omega⟩
    have h0 := hused 0 (by omega)
    rw [keyFrom_zero h1 h2] at h0
    have ha1 : 1 ≤ keyAfter k := by unfold keyAfter; split <;> omega
    have ha2 : keyAfter k ≤ 4095 := by unfold keyAfter; split <;> omega
    unfold firstFree
    rw [if_pos h0, ih ha1 ha2 (by omega), keyFrom_keyAfter h1 h2]
    · intro m hm
      rw [keyFrom_keyAfter h1 h2]
      exact hused (m + 1) (by omega)
    · rw [keyFrom_keyAfter h1 h2]
      exact hfree

/-- The next key, once the first key not in use is known. -/
theorem nextKey_eq {l : ListUnit} {j : Nat} (h : 1 ≤ l.keyCounter ∧ l.keyCounter ≤ 4095) (hj : j ≤ 4095)
    (hused : ∀ m < j, keyUsed l (keyFrom l.keyCounter m) = true) (hfree : keyUsed l (keyFrom l.keyCounter j) = false) :
    nextKey l = keyFrom l.keyCounter j := firstFree_eq h.1 h.2 hj hused hfree

/-- Of 511 keys in a row one is not in use while the list holds fewer events. -/
theorem exists_keyFrom_free {l : ListUnit} (hl : l.events.length < 511) :
    ∃ j < 511, keyUsed l (keyFrom l.keyCounter j) = false := by
  by_contra hc
  push Not at hc
  have hmaps : ∀ j ∈ Finset.range 511, keyFrom l.keyCounter j ∈ (l.events.map Event.key).toFinset := by
    intro j hj
    have hu := hc j (Finset.mem_range.1 hj)
    simpa [keyUsed] using hu
  have hinj : ∀ i ∈ Finset.range 511, ∀ j ∈ Finset.range 511, keyFrom l.keyCounter i = keyFrom l.keyCounter j → i = j := by
    intro i hi j hj he
    have hi' := Finset.mem_range.1 hi
    have hj' := Finset.mem_range.1 hj
    unfold keyFrom at he
    omega
  have hcard := Finset.card_le_card_of_injOn _ hmaps hinj
  have hle := List.toFinset_card_le (l.events.map Event.key)
  rw [Finset.card_range] at hcard
  rw [List.length_map] at hle
  omega

/-- The next key is the first one not in use from the counter on. -/
theorem nextKey_spec {l : ListUnit} (h : 1 ≤ l.keyCounter ∧ l.keyCounter ≤ 4095) (hl : l.events.length < 511) :
    keyUsed l (nextKey l) = false ∧ 1 ≤ nextKey l ∧ nextKey l ≤ 4095 := by
  classical
  obtain ⟨j0, hj0, hf0⟩ := exists_keyFrom_free hl
  have hex : ∃ j, keyUsed l (keyFrom l.keyCounter j) = false := ⟨j0, hf0⟩
  have hle : Nat.find hex ≤ j0 := Nat.find_min' hex hf0
  have hn := nextKey_eq h (by omega) (fun m hm => by simpa using Nat.find_min hex hm) (Nat.find_spec hex)
  rw [hn]
  refine ⟨Nat.find_spec hex, ?_, ?_⟩
  · unfold keyFrom
    omega
  · unfold keyFrom
    omega

end Sys2Proof.Machine
end

-- ==== The lookups of the list, and the requests that wait ====
section
/-! READ BY POSITION, READ BY KEY, FIND and LIST STATUS with no ripple in flight (R29 to R32), and the requests that reach
the list unit during one (R49). -/

namespace Sys2Proof.Machine

/-! ## Requests that wait -/

/-- A request whose bytes fit and that must wait is left waiting. -/
theorem request_left {code : Nat} {fits : List Byte → Bool} {waits : List Byte → State → Bool}
    {owner : List Byte → State → State} {body : List Byte} {s : State} (h : Ready s) (hf : fits body = true)
    (hw : waits body (taken body s) = true) :
    request code fits waits owner body s = .next { s with link := leftWaiting s (BitVec.ofNat 8 code) body } :=
  request_waits h hf hw

/-- Taking a request leaves the ripple record. -/
theorem waitsForList_taken {s : State} (h : s.list.ripple ≠ none) (body : List Byte) :
    waitsForList body (taken body s) = true := Option.isSome_iff_ne_none.2 h

/-- No request waits for the list with no ripple in flight. -/
theorem waitsForList_free {s : State} (h : s.list.ripple = none) (body : List Byte) :
    waitsForList body (taken body s) = false := by
  change s.list.ripple.isSome = false
  rw [h]
  rfl

/-- A request to the list unit whose bytes fit is left waiting during a ripple. -/
theorem listRequest_left {c : Instr} {s : State} {k : Byte} (h : Ready s) (hr : s.list.ripple ≠ none)
    (hk : requestCode c = some k) (hf : listRequestFits c = true) :
    exec c s = .next { s with link := leftWaiting s k (requestBody c) } := by
  have hw := fun body => waitsForList_taken hr body
  cases c with
  | insert body | replace body | readByPosition body | readByKey body | find body | listStatus body | trim body
  | delete body | clearList body | ripple body =>
    obtain rfl := Option.some.inj hk
    exact request_left h hf (hw body)
  | _ => simp [listRequestFits, requestCode, bodyLength] at hf

/-- RETIRE of a reel that may be retired and READ REEL of a defined one have come to the list unit (R104, R109). -/
theorem reelRequests_wait {s : State} {i : Nat} {r : Reel} (hr : s.list.ripple ≠ none) (hi : i < 64)
    (hreel : s.reels[i]? = some (some r)) (hm : ∀ p ∈ r.mounted, s.holder p ≠ .sequencer) :
    retireWaits (b1 (i + 1)) (taken (b1 (i + 1)) s) = true ∧ readReelWaits (b1 (i + 1)) (taken (b1 (i + 1)) s) = true := by
  have hbyte : byteAt (b1 (i + 1)) 0 = i + 1 := by
    simp only [byteAt, b1, List.getD_cons_zero, BitVec.toNat_ofNat]
    exact Nat.mod_eq_of_lt (by omega)
  have hat : reelAt (taken (b1 (i + 1)) s) (i + 1) = some (some r) := by
    unfold reelAt
    rw [if_neg (by omega), Nat.add_sub_cancel]
    exact hreel
  have hheld : r.mounted.any (seqHeld (taken (b1 (i + 1)) s)) = false := by
    rw [Bool.eq_false_iff, ne_eq, Option.any_eq_true]
    rintro ⟨p, hp, hq⟩
    exact hm p hp (of_decide_eq_true hq)
  have hchecks : retireChecks (i + 1) (taken (b1 (i + 1)) s) = .ok r := by
    simp only [retireChecks, definedReel, hat, need, hheld, Bool.not_false, check, if_true, bind, Except.bind]
    rfl
  constructor
  · simp only [retireWaits, waitsForList_taken hr, hbyte, hchecks, Bool.and_self]
  · simp only [readReelWaits, waitsForList_taken hr, hbyte, hat, Bool.and_self]

/-- A single edit request in IDLE has come to the list unit (R138). -/
theorem editWaits_idle {s : State} (hr : s.list.ripple ≠ none) (hi : s.seq.phase = .idle) (body : List Byte) :
    editWaits body (taken body s) = true := by
  have hp : (taken body s).seq.phase = .idle := hi
  simp only [editWaits, waitsForList_taken hr, hp, decide_true, Bool.and_self]

/-! ## The lookups (R29 to R32) -/

/-- A lookup with no ripple in flight answers, and leaves the rest. -/
theorem lookup_answers {code n : Nat} {owner : List Byte → State → State} {body : List Byte} {s : State} {a : Answer}
    (h : Ready s) (hp : PollsShort s) (hr : s.list.ripple = none) (hl : body.length = n)
    (ho : owner body (taken body s) = putAnswer a (taken body s)) :
    request code (lengthIs n) waitsForList owner body s = .next { s with link := answered s body a } :=
  request_answers h hp (by simp [lengthIs, hl]) (waitsForList_free hr body) ho

/-- The test of FIND. -/
def coversFrame (f : Nat) (k : TrackSet) (e : Event) : Bool :=
  e.recIn ≤ f && f < e.recOut && decide (e.tracks &&& k ≠ 0)

/-- The test of FIND, as a condition. -/
theorem coversFrame_iff {f : Nat} {k : TrackSet} {e : Event} :
    coversFrame f k e = true ↔ e.recIn ≤ f ∧ f < e.recOut ∧ e.tracks &&& k ≠ 0 := by
  simp [coversFrame, and_assoc]

/-- FIND of an invalid label. -/
theorem findEvent_badTime {s : State} {body : List Byte} (hl : readLabel s.std false (labelAt body 0) = none) :
    findEvent body s = .error .badTime := by
  simp only [findEvent, hl]
  rfl

/-- FIND on an illegal track set. -/
theorem findEvent_badField {s : State} {body : List Byte} {f : Nat × Bool}
    (hl : readLabel s.std false (labelAt body 0) = some f) (hk : trackSetOf (byteAt body 4) = none) :
    findEvent body s = .error .badField := by
  simp only [findEvent, hl, hk]
  rfl

/-- FIND's lookup with no ripple in flight. -/
theorem findEvent_lookup {s : State} (hr : s.list.ripple = none) {body : List Byte} {f : Nat × Bool} {k : TrackSet}
    (hl : readLabel s.std false (labelAt body 0) = some f) (hk : trackSetOf (byteAt body 4) = some k) :
    findEvent body s = (need (s.list.events.find? (coversFrame f.1 k)) .notFound).map fun e => (e, f.2) := by
  simp only [findEvent, hl, hk, viewEvents_eq_events hr]
  change (need (s.list.events.find? (coversFrame f.1 k)) .notFound >>= _) = _
  cases s.list.events.find? (coversFrame f.1 k) <;> rfl

/-- The label used in the answer of FIND. -/
theorem bUsedLabels_read {std : FrameStd} {l : Label} {f : Nat} {moved : Bool}
    (h : readLabel std false l = some (f, moved)) :
    bUsedLabels std [some l] = bOpt 4 bLabel (if moved then some { l with ff := 2 } else none) := by
  obtain ⟨-, -, rfl⟩ := readLabel_false_eq_some h
  rw [bUsedLabels_some]
  simp [bUsedLabels]

end Sys2Proof.Machine

open Sys2Proof Sys2Proof.Machine

/-- Settles O29: with no ripple in flight the list is seen as it is stored, and with different keys an event stands at its
own place; during one a request that has come to the list unit is left waiting. -/
theorem lookupsAnswerAndListRequestsWaitForAChunk : Obligations.LookupsAnswerAndListRequestsWaitForAChunk := by
  unfold Obligations.LookupsAnswerAndListRequestsWaitForAChunk
  refine ⟨?_, ?_, ?_, ?_, ?_, ?_, ?_, ?_, ?_, ?_⟩
  · intro s body e h hp hr hl h1 he
    refine lookup_answers h hp hr hl ?_
    have hview : (viewEvents (taken body s).list)[half body 0 - 1]? = some e := by
      rw [viewEvents_eq_events (l := (taken body s).list) hr]
      exact he
    simp only [readByPositionOwner, hview]
    rw [if_neg (by omega)]
    rfl
  · intro s body h hp hr hl hout
    refine lookup_answers h hp hr hl ?_
    have hview : (if half body 0 = 0 then none else (viewEvents (taken body s).list)[half body 0 - 1]?) = none := by
      rw [viewEvents_eq_events (l := (taken body s).list) hr]
      split
      · rfl
      · refine List.getElem?_eq_none ?_
        change s.list.events.length ≤ _
        omega
    simp only [readByPositionOwner, hview]
    rfl
  · intro s body i e h hp hr hl hnd hi he
    refine lookup_answers h hp hr hl ?_
    have hview : viewEvents (taken body s).list = s.list.events := viewEvents_eq_events hr
    have hpos : positionOf (taken body s).list (half body 0) = i + 1 := by
      rw [← he]
      exact positionOf_eq hnd (by rw [hview]; exact hi)
    simp only [readByKeyOwner, hview, hpos]
    rw [← he, find?_key hnd hi]
    rfl
  · intro s body h hp hr hl hno
    refine lookup_answers h hp hr hl ?_
    have hview : viewEvents (taken body s).list = s.list.events := viewEvents_eq_events hr
    have hnone : s.list.events.find? (fun e => decide (e.key = half body 0)) = none :=
      List.find?_eq_none.2 fun e he => by simpa using hno e he
    simp only [readByKeyOwner, hview, hnone]
    rfl
  · intro s body f moved k i e h hp hr hl hnd hlab hk hi hcov hfirst
    refine lookup_answers h hp hr hl ?_
    have hfind : s.list.events.find? (coversFrame f k) = some e :=
      find?_at hi (coversFrame_iff.2 hcov) fun x hx => by
        rw [Bool.eq_false_iff, ne_eq, coversFrame_iff]
        exact hfirst x hx
    have hev : findEvent body (taken body s) = .ok (e, moved) := by
      rw [findEvent_lookup (s := taken body s) hr hlab hk]
      change (need (s.list.events.find? (coversFrame f k)) .notFound).map _ = _
      rw [hfind]
      rfl
    have hpos : positionOf (taken body s).list e.key = i + 1 :=
      positionOf_eq hnd (by rw [viewEvents_eq_events (l := (taken body s).list) hr]; exact hi)
    have hused : bUsedLabels (taken body s).std [some (labelAt body 0)] = _ := bUsedLabels_read hlab
    simp only [findOwner, hev, hpos, hused]
    rfl
  · intro s body x h hp hr hl hx
    refine lookup_answers h hp hr hl ?_
    have hev : findEvent body (taken body s) = .error x := by
      cases hlab : readLabel s.std false (labelAt body 0) with
      | none =>
        rw [hlab] at hx
        obtain rfl := Option.some.inj hx
        exact findEvent_badTime (s := taken body s) hlab
      | some f =>
        cases hk : trackSetOf (byteAt body 4) with
        | none =>
          rw [hlab, hk] at hx
          obtain rfl := Option.some.inj hx
          exact findEvent_badField (s := taken body s) hlab hk
        | some k =>
          rw [hlab, hk] at hx
          dsimp only at hx
          split at hx
          · cases hx
          · rename_i hno
            obtain rfl := Option.some.inj hx
            have hnone : s.list.events.find? (coversFrame f.1 k) = none :=
              List.find?_eq_none.2 fun e he hc => hno ⟨e, he, coversFrame_iff.1 hc⟩
            rw [findEvent_lookup (s := taken body s) hr hlab hk]
            change (need (s.list.events.find? (coversFrame f.1 k)) .notFound).map _ = _
            rw [hnone]
            rfl
    simp only [findOwner, hev]
    rfl
  · intro s j h hp hr hj hc hused hfree
    refine lookup_answers h hp hr rfl ?_
    have hn : nextKey (taken [] s).list = keyFrom s.list.keyCounter j := nextKey_eq hc (by omega) hused hfree
    have hf : (taken [] s).list.ripple.isSome = false := by
      change s.list.ripple.isSome = false
      rw [hr]
      rfl
    simp only [listStatusOwner, hn, hf]
    rfl
  · intro s c k h hr hk hf
    exact listRequest_left h hr hk hf
  · intro s i r h hr hi hreel hm
    obtain ⟨h1, h2⟩ := reelRequests_wait hr hi hreel hm
    exact ⟨request_left h rfl h1, request_left h rfl h2⟩
  · intro s body h hr hi hl
    have hf : lengthIs 2 body = true := by simp [lengthIs, hl]
    have hw := editWaits_idle hr hi body
    exact ⟨request_left h hf hw, request_left h hf hw, request_left h hf hw⟩

end

-- ==== The changes of the list: INSERT, REPLACE, TRIM ====
section
/-! INSERT, REPLACE and TRIM with every test passed (R34 to R39, R45, R47). -/

namespace Sys2Proof.Machine

/-! ## A change taken -/

/-- A request of the list unit whose change is accepted puts the list and answers. -/
theorem change_answers {code : Nat} {fits : List Byte → Bool} {owner : List Byte → State → State} {body : List Byte}
    {s : State} {a : Answer} {l : ListUnit} (h : Ready s) (hp : PollsShort s) (hr : s.list.ripple = none)
    (hf : fits body = true) (ho : owner body (taken body s) = putAnswer a (setList l (taken body s))) :
    request code fits waitsForList owner body s = .next { s with list := l, link := answered s body a } := by
  rw [request_worked h hf (waitsForList_free hr body), ho]
  have hs : PollsShort (putAnswer a (setList l (taken body s))) := hp
  rw [shortenPolls_eq hs]
  rfl

/-- A key is in use when an event of the list has it. -/
theorem keyUsed_iff {l : ListUnit} {k : Nat} : keyUsed l k = true ↔ ∃ e ∈ l.events, e.key = k := by simp [keyUsed]

/-- An event conflicts with none of a list. -/
theorem clear_iff {e : Event} {es : List Event} : clear e es = true ↔ ∀ f ∈ es, conflicts e f = false := by
  simp [clear]

/-- The duration fits the record length. -/
theorem durationFits_iff {e : Event} : durationFits e = true ↔ ∀ d ∈ durationOf e, d ≤ e.recOut - e.recIn := by
  simp [durationFits, Option.all_eq_true]

/-- The record range of an event that a received record stands for. -/
theorem eventOf_times {r : RawEvent} {t : EventTimes} {e : Event} (h : eventOf r t = some e) :
    e.recIn = t.recIn ∧ e.recOut = t.recOut := by
  unfold eventOf at h
  split at h
  · split at h
    · obtain rfl := Option.some.inj h
      exact ⟨rfl, rfl⟩
    · cases h
  · cases h

/-- An accepted record has its duration within its record length. -/
theorem durationFits_of_accepted {s : State} {raw : RawEvent} {moved : Bool} {t : EventTimes} {e : Event}
    {rest : List Event} (h : Accepted s raw moved t e rest) : durationFits e = true := by
  obtain ⟨-, he, -, -, -, hd, -⟩ := h
  obtain ⟨h1, h2⟩ := eventOf_times he
  rw [durationFits_iff, h1, h2]
  exact hd

/-- An accepted record has its range within the day. -/
theorem rangeInBounds_of_accepted {s : State} {raw : RawEvent} {moved : Bool} {t : EventTimes} {e : Event}
    {rest : List Event} (h : Accepted s raw moved t e rest) : rangeInBounds s.std t.recIn t.recOut = true := by
  obtain ⟨-, -, -, hlt, hle, -, -⟩ := h
  simp only [rangeInBounds, decide_eq_true_eq]
  omega

/-! ## The ripple of an INSERT (R44, R47, R50) -/

/-- The ripple record of a shift set. -/
theorem rippleFor_eq (d : Int) (ms : List Event) : rippleFor d ms = rippleOf d ms := by
  cases ms <;> rfl

/-- A new ripple record shows its members shifted, and the other events as they are stored. -/
theorem seen_rippleFor {l : ListUnit} {d : Int} {ms : List Event} (h : l.ripple = rippleFor d ms) (x : Event) :
    seen l x = if x.key ∈ ms.map Event.key then shiftEvent d x else x := by
  cases ms with
  | nil => exact seen_eq_self h x
  | cons m rest =>
    have hr : l.ripple = some { delta := d, members := (m :: rest).map Event.key, frontier := 0, ahead := [] } := h
    unfold seen
    rw [hr]
    simp only [unworked, List.drop_zero, List.contains_nil, Bool.not_false, Bool.and_true, List.contains_iff_mem]

/-- What a list with a new event and a new ripple record shows. -/
theorem viewEvents_rippleFor {l : ListUnit} {d : Int} {e : Event} {es ms rest : List Event} (h : l.ripple = rippleFor d ms)
    (hl : l.events = e :: es) (hp : es.Perm (rest ++ ms)) (hrest : ∀ x ∈ rest, x.key ∉ ms.map Event.key)
    (he : e.key ∉ ms.map Event.key) : (viewEvents l).Perm (e :: (rest ++ ms.map (shiftEvent d))) := by
  have hs := seen_rippleFor h
  have hr : rest.map (seen l) = rest := by
    rw [List.map_congr_left (g := id) fun x hx => by rw [hs, if_neg (hrest x hx)]; rfl, List.map_id]
  have hm : ms.map (seen l) = ms.map (shiftEvent d) :=
    List.map_congr_left fun x hx => by rw [hs, if_pos (List.mem_map_of_mem hx)]
  unfold viewEvents
  rw [hl, List.map_cons, hs e, if_neg he]
  refine List.Perm.cons e ?_
  have h1 := hp.map (seen l)
  rwa [List.map_append, hr, hm] at h1

/-- The events that a ripple of an INSERT shifts and those it leaves make up the list. -/
theorem shiftSet_perm {flag : Bool} {n : Nat} {es ms rest : List Event}
    (hms : ms = if flag then es.filter (fun f => n ≤ f.recIn) else [])
    (hrest : rest = if flag then es.filter (fun f => f.recIn < n) else es) : es.Perm (rest ++ ms) := by
  cases flag with
  | false =>
    obtain rfl : ms = [] := hms
    obtain rfl : rest = es := hrest
    rw [List.append_nil]
  | true =>
    have hms' : ms = es.filter (fun f => !decide (f.recIn < n)) := by
      rw [hms, if_pos rfl]
      refine List.filter_congr fun f _ => ?_
      rw [Bool.eq_iff_iff]
      simp
    have hrest' : rest = es.filter (fun f => decide (f.recIn < n)) := hrest
    rw [hms', hrest']
    exact (List.filter_append_perm _ es).symm

/-- Events of two parts of a list with different keys have different keys. -/
theorem key_not_mem_of_append_nodup {es ms rest : List Event} (h : (es.map Event.key).Nodup) (hp : es.Perm (rest ++ ms)) :
    ∀ x ∈ rest, x.key ∉ ms.map Event.key := by
  have h1 : ((rest ++ ms).map Event.key).Nodup := (hp.map Event.key).nodup_iff.1 h
  rw [List.map_append, List.nodup_append] at h1
  obtain ⟨-, -, hd⟩ := h1
  exact fun x hx hm => hd _ (List.mem_map_of_mem hx) _ hm rfl

/-! ## INSERT (R35, R47) -/

/-- The list after an INSERT. -/
def insertedList (l : ListUnit) (e : Event) (d : Int) (ms : List Event) : ListUnit :=
  { l with events := { e with key := nextKey l } :: l.events, keyCounter := keyAfter (nextKey l), ripple := rippleFor d ms }

/-- INSERT with its tests passed. -/
theorem insertChange_ok {s : State} {raw : RawEvent} {flag moved : Bool} {t : EventTimes} {e : Event} {ms rest : List Event}
    (hr : s.list.ripple = none)
    (hms : ms = if flag then s.list.events.filter (fun f => t.recIn ≤ f.recIn) else [])
    (hrest : rest = if flag then s.list.events.filter (fun f => f.recIn < t.recIn) else s.list.events)
    (ha : Accepted s raw moved t e (rest ++ ms.map (shiftEvent ((t.recOut : Int) - t.recIn))))
    (hsa : ShiftAllowed s.std ((t.recOut : Int) - t.recIn) ms rest)
    (hheld : ∀ k ∈ s.seq.heldKey, ∀ f ∈ ms, f.key ≠ k) (hlen : s.list.events.length < 511) :
    insertChange raw flag s = .ok { list := reorder (insertedList s.list e ((t.recOut : Int) - t.recIn) ms),
                                    key := nextKey s.list, members := ms.length, moved := moved } := by
  obtain ⟨htimes, hev, hreels, -, -, -, hclear⟩ := id ha
  have hnot : notHeldAmong s ms = true := by
    unfold notHeldAmong
    cases hk : s.seq.heldKey with
    | none => rfl
    | some k => simpa using hheld k hk
  have hbounds : shiftsInBounds s.std ((t.recOut : Int) - t.recIn) ms = true := by
    simp only [shiftsInBounds, List.all_eq_true, decide_eq_true_eq]
    exact fun x hx => ⟨(hsa x hx).1, (hsa x hx).2.1⟩
  have hc1 : clear e rest = true := clear_iff.2 fun f hf => hclear f (List.mem_append_left _ hf)
  have hc2 : clear e (ms.map (shiftEvent ((t.recOut : Int) - t.recIn))) = true :=
    clear_iff.2 fun f hf => hclear f (List.mem_append_right _ hf)
  have hc3 : shiftsClear (ms.map (shiftEvent ((t.recOut : Int) - t.recIn))) rest = true := by
    simp only [shiftsClear, List.all_map, List.all_eq_true, Function.comp_apply, clear_iff]
    exact fun x hx => (hsa x hx).2.2
  simp only [insertChange, need_bind_eq_ok, check_bind_eq_ok, pure_eq_ok, hr, Option.isNone_none, true_and]
  refine ⟨_, htimes, ?_⟩
  dsimp only
  rw [← hms, ← hrest]
  refine ⟨hnot, by simpa using hlen, _, hev, hreels, ?_, durationFits_of_accepted ha, ?_, rfl⟩
  · rw [rangeInBounds_of_accepted ha, hbounds]
    rfl
  · rw [hc1, hc2, hc3]
    rfl

/-- The keys of a list after an INSERT differ. -/
theorem insertedList_keys_nodup {l : ListUnit} (h : (l.events.map Event.key).Nodup)
    (hc : 1 ≤ l.keyCounter ∧ l.keyCounter ≤ 4095) (hlen : l.events.length < 511) (e : Event) (d : Int) (ms : List Event) :
    ((insertedList l e d ms).events.map Event.key).Nodup := by
  obtain ⟨hfree, -, -⟩ := nextKey_spec hc hlen
  refine List.nodup_cons.2 ⟨fun hm => ?_, h⟩
  obtain ⟨x, hx, hk⟩ := List.mem_map.1 hm
  rw [keyUsed_iff.2 ⟨x, hx, hk⟩] at hfree
  exact absurd hfree (by simp)

/-! ## REPLACE and TRIM (R36 to R39) -/

/-- The list after an event was put in the place of the one with a key. -/
def replacedList (l : ListUnit) (key : Nat) (e : Event) : ListUnit :=
  reorder { l with events := e :: l.events.filter (fun f => f.key ≠ key) }

/-- Its keys differ. -/
theorem replacedList_keys_nodup {l : ListUnit} (h : (l.events.map Event.key).Nodup) {key : Nat} {e : Event}
    (he : e.key = key) : ((replacedList l key e).events.map Event.key).Nodup := by
  have hp := (reorder_perm { l with events := e :: l.events.filter (fun f => f.key ≠ key) }).map Event.key
  refine hp.nodup_iff.2 (List.nodup_cons.2 ⟨fun hm => ?_, ?_⟩)
  · obtain ⟨x, hx, hk⟩ := List.mem_map.1 hm
    have hne := (List.mem_filter.1 hx).2
    rw [decide_eq_true_eq] at hne
    exact hne (hk.trans he)
  · exact h.sublist (List.filter_sublist.map _)

/-- It holds the event and the others, in the order of R23. -/
theorem replacedList_events {l : ListUnit} (hr : l.ripple = none) (h : (l.events.map Event.key).Nodup) {key : Nat}
    {e : Event} (he : e.key = key) :
    (replacedList l key e).events.Perm (e :: l.events.filter (fun f => f.key ≠ key))
      ∧ (replacedList l key e).events.Pairwise (fun a b => comesBefore a b = true) := by
  have hp := reorder_perm { l with events := e :: l.events.filter (fun f => f.key ≠ key) }
  refine ⟨hp, ?_⟩
  have hk := (hp.map Event.key).nodup_iff.1 (replacedList_keys_nodup h he)
  have hv : (viewEvents (replacedList l key e)).Pairwise (fun a b => comesBefore a b = true) :=
    viewEvents_reorder_pairwise hk
  rwa [viewEvents_eq_events (l := replacedList l key e) hr] at hv

/-- The position of the event put in place. -/
theorem positionOf_replacedList {l : ListUnit} (hr : l.ripple = none) (h : (l.events.map Event.key).Nodup) {key n : Nat}
    {e : Event} (he : e.key = key) (hn : (replacedList l key e).events[n]? = some e) :
    positionOf (replacedList l key e) key = n + 1 := by
  have hpos := positionOf_eq (replacedList_keys_nodup h he) (n := n) (e := e)
    (by rw [viewEvents_eq_events (l := replacedList l key e) hr]; exact hn)
  rwa [he] at hpos

/-- REPLACE with its tests passed. -/
theorem replaceChange_ok {s : State} {key : Nat} {raw : RawEvent} {moved : Bool} {t : EventTimes} {e : Event}
    (hr : s.list.ripple = none) (hused : keyUsed s.list key = true) (hheld : s.seq.heldKey ≠ some key)
    (ha : Accepted s raw moved t e (s.list.events.filter (fun f => f.key ≠ key))) :
    replaceChange key raw s = .ok { list := replacedList s.list key { e with key := key }, key := key, members := 0
                                    moved := moved } := by
  obtain ⟨htimes, hev, hreels, -, -, -, hclear⟩ := id ha
  have hbusy : s.list.ripple.isNone = true := Option.isNone_iff_eq_none.2 hr
  simp only [replaceChange, need_bind_eq_ok, check_bind_eq_ok, pure_eq_ok, hbusy, true_and, hused]
  exact ⟨_, htimes, by simpa using hheld, e, hev, hreels, rangeInBounds_of_accepted ha, durationFits_of_accepted ha,
    clear_iff.2 hclear, rfl⟩

/-- An event found by its key has it. -/
theorem findKey_key {l : ListUnit} {k : Nat} {e : Event} (h : findKey l k = some e) : e.key = k := by
  simpa using List.find?_some h

/-- A change of the from-source leaves the other fields. -/
theorem mapFromSource_eq (f : Nat → Nat) (e : Event) :
    mapFromSource f e = { e with transition := (mapFromSource f e).transition } := by
  unfold mapFromSource
  split <;> rfl

/-- The from-source with its in changed. -/
theorem fromSource_mapFromSource (f : Nat → Nat) (e : Event) :
    fromSource (mapFromSource f e) = (fromSource e).map (fun x => { x with start := f x.start }) := by
  cases h : e.transition <;> simp [mapFromSource, fromSource, h]

/-- The duration and the wipe stand. -/
theorem durationOf_mapFromSource (f : Nat → Nat) (e : Event) :
    durationOf (mapFromSource f e) = durationOf e ∧ wipeOf (mapFromSource f e) = wipeOf e := by
  cases h : e.transition <;> simp [mapFromSource, durationOf, wipeOf, h]

/-- A TRIM of record in. -/
theorem trimEvent_in (std : FrameStd) (d : Int) (e : Event) : trimEvent std 0 d e = mapFromSource (frameAdd std · d)
    { e with recIn := (trimRange 0 d e).1.toNat, recOut := (trimRange 0 d e).2.toNat
             toSrc := { e.toSrc with start := frameAdd std e.toSrc.start (rateFrames d (eventRate e)) } } := rfl

/-- A TRIM of from-source in. -/
theorem trimEvent_from (std : FrameStd) (d : Int) (e : Event) : trimEvent std 3 d e = mapFromSource (frameAdd std · d)
    { e with recIn := (trimRange 3 d e).1.toNat, recOut := (trimRange 3 d e).2.toNat } := rfl

/-- What a TRIM leaves of the event: the fields that are no record time, no to-source in and no from-source in. -/
theorem trimEvent_keeps {point : Nat} (hp : point ≤ 3) (std : FrameStd) (d : Int) (e : Event) :
    trimEvent std point d e = { trimEvent std point d e with
        key := e.key, tracks := e.tracks, rate := e.rate, triggers := e.triggers, status := e.status
        previewed := e.previewed, recIn := (trimRange point d e).1.toNat, recOut := (trimRange point d e).2.toNat }
      ∧ durationOf (trimEvent std point d e) = durationOf e ∧ wipeOf (trimEvent std point d e) = wipeOf e := by
  obtain rfl | rfl | rfl | rfl : point = 0 ∨ point = 1 ∨ point = 2 ∨ point = 3 := by omega
  · rw [trimEvent_in]
    refine ⟨?_, durationOf_mapFromSource _ _⟩
    rw [mapFromSource_eq]
  · exact ⟨rfl, rfl, rfl⟩
  · exact ⟨rfl, rfl, rfl⟩
  · rw [trimEvent_from]
    refine ⟨?_, durationOf_mapFromSource _ _⟩
    rw [mapFromSource_eq]

/-- A TRIM keeps the key. -/
theorem trimEvent_key {point : Nat} (hp : point ≤ 3) (std : FrameStd) (d : Int) (e : Event) :
    (trimEvent std point d e).key = e.key := by rw [(trimEvent_keeps hp std d e).1]

/-- What a TRIM makes of the sources. -/
theorem trimEvent_sources {point : Nat} (hp : point ≤ 3) (std : FrameStd) (d : Int) (e : Event) :
    (trimEvent std point d e).toSrc = { e.toSrc with start :=
        if point = 0 then ((e.toSrc.start + Int.tdiv (d * (e.rate.getD 1024 : Nat)) 1024) % (fday std : Int)).toNat
        else if point = 2 then ((e.toSrc.start + d) % (fday std : Int)).toNat else e.toSrc.start }
      ∧ fromSource (trimEvent std point d e) = (fromSource e).map (fun f => { f with start :=
        if point = 0 ∨ point = 3 then ((f.start + d) % (fday std : Int)).toNat else f.start }) := by
  have hid : (fromSource e).map (fun f => ({ f with start := f.start } : Source)) = fromSource e := by
    simp
  obtain rfl | rfl | rfl | rfl : point = 0 ∨ point = 1 ∨ point = 2 ∨ point = 3 := by omega
  · refine ⟨?_, fromSource_mapFromSource _ _⟩
    rw [trimEvent_in, mapFromSource_eq]
    rfl
  · exact ⟨rfl, hid.symm⟩
  · exact ⟨rfl, hid.symm⟩
  · refine ⟨?_, fromSource_mapFromSource _ _⟩
    rw [trimEvent_from, mapFromSource_eq]
    rfl

/-- TRIM with its tests passed. -/
theorem trimChange_ok {s : State} {key point : Nat} {d : Int} {e : Event} (hr : s.list.ripple = none)
    (hfind : findKey s.list key = some e) (hheld : s.seq.heldKey ≠ some key)
    (hlegal : point ≤ 3 ∧ -2591999 ≤ d ∧ d ≤ 2591999) (hfrom : point = 3 → (fromSource e).isSome)
    (hrange : 0 ≤ (trimRange point d e).1 ∧ (trimRange point d e).1 < (trimRange point d e).2
      ∧ (trimRange point d e).2 ≤ fday s.std)
    (hdur : durationFits (trimEvent s.std point d e) = true)
    (hclear : ∀ f ∈ s.list.events.filter (fun f => f.key ≠ key), conflicts (trimEvent s.std point d e) f = false) :
    trimChange key point d s = .ok { list := replacedList s.list key (renew (trimEvent s.std point d e)), key := key
                                     members := 0, moved := false } := by
  have hleg : trimLegal point d e = true := by
    simp only [trimLegal, Bool.and_eq_true, decide_eq_true_eq, Bool.or_eq_true]
    exact ⟨hlegal, (Decidable.em (point = 3)).symm.imp_right hfrom⟩
  have hb : rangeInBounds s.std (trimRange point d e).1 (trimRange point d e).2 = true := by
    simpa [rangeInBounds] using hrange
  have hbusy : s.list.ripple.isNone = true := Option.isNone_iff_eq_none.2 hr
  simp only [trimChange, need_bind_eq_ok, check_bind_eq_ok, pure_eq_ok, hbusy, true_and]
  exact ⟨e, hfind, by simpa using hheld, hleg, hb, hdur, clear_iff.2 hclear, rfl⟩

end Sys2Proof.Machine

open Sys2Proof Sys2Proof.Machine

/-- Settles O30: the list after the change is the stored one with the new event, put in the order of what is seen; the next
key is free, so keys differ and every event stands at one place. -/
theorem insertAddsOneEventInItsPlace : Obligations.InsertAddsOneEventInItsPlace := by
  unfold Obligations.InsertAddsOneEventInItsPlace
  intro s body moved t e ms rest h hp hr hnd hfits hms hrest ha hsa hheld hlen hc
  have hch : insertChange (rawEventAt body 0) (flagAt body (eventLength body 0)) (taken body s) = .ok _ :=
    insertChange_ok (s := taken body s) hr hms hrest ha hsa hheld hlen
  have hnodup := insertedList_keys_nodup hnd hc hlen e ((t.recOut : Int) - t.recIn) ms
  have hperm := shiftSet_perm hms hrest
  obtain ⟨hfree, hk1, hk2⟩ := nextKey_spec hc hlen
  have hnew : nextKey s.list ∉ ms.map Event.key := fun hm => by
    obtain ⟨x, hx, hk⟩ := List.mem_map.1 hm
    rw [keyUsed_iff.2 ⟨x, hperm.mem_iff.2 (List.mem_append_right _ hx), hk⟩] at hfree
    exact absurd hfree (by simp)
  have hview := (viewEvents_reorder_perm (insertedList s.list e ((t.recOut : Int) - t.recIn) ms)).trans
    (viewEvents_rippleFor rfl rfl hperm (key_not_mem_of_append_nodup hnd hperm) hnew)
  refine ⟨_, change_answers h hp hr hfits (by simp only [insertOwner, hch]; rfl), rfl, hview,
    viewEvents_reorder_pairwise hnodup, reorder_perm _, keyAfter_eq hk1 hk2, rippleFor_eq _ ms, fun n _ hn => ?_⟩
  have hpos : positionOf (reorder (insertedList s.list e ((t.recOut : Int) - t.recIn) ms)) (nextKey s.list) = n + 1 :=
    positionOf_eq (((reorder_perm _).map Event.key).nodup_iff.2 hnodup) hn
  have hmem : (if ms.length = 0 then [] else b2 ms.length) = if ms = [] then [] else b2 ms.length := by
    simp only [List.length_eq_zero_iff]
  have hpos' : positionOf (reorder (insertedList (taken body s).list e ((t.recOut : Int) - t.recIn) ms))
      (nextKey (taken body s).list) = n + 1 := hpos
  dsimp only
  rw [hpos', hmem]
  rfl

/-- Settles O31: both put one event in the place of the one with its key, and the others keep theirs; the sources that a
TRIM moves are read off its four points. -/
theorem replaceAndTrimChangeOneEvent : Obligations.ReplaceAndTrimChangeOneEvent := by
  unfold Obligations.ReplaceAndTrimChangeOneEvent
  refine ⟨?_, ?_, ?_, ?_⟩
  · rintro s body moved t e rest h hp hr hnd hfits rfl hused hheld ha
    have hch : replaceChange (half body 0) (rawEventAt body 2) (taken body s) = .ok _ :=
      replaceChange_ok (s := taken body s) hr hused hheld ha
    obtain ⟨h1, h2⟩ := replacedList_events (key := half body 0) (e := { e with key := half body 0 }) hr hnd rfl
    refine ⟨_, change_answers (l := replacedList s.list (half body 0) { e with key := half body 0 }) h hp hr hfits
      (by simp only [replaceOwner, hch]; rfl), rfl, h1, h2, fun n _ hn => ?_⟩
    have hpos : positionOf (replacedList (taken body s).list (half body 0) { e with key := half body 0 }) (half body 0)
        = n + 1 := positionOf_replacedList hr hnd rfl hn
    dsimp only
    rw [hpos]
    rfl
  · rintro s body e e1 rest h hp hr hnd hl rfl hfind hheld hlegal hfrom hrange he1 hdur hclear
    have hkey : e1.key = half body 0 := by
      rw [he1]
      exact (trimEvent_key hlegal.1 _ _ e).trans (findKey_key hfind)
    have hdur' : durationFits (trimEvent s.std (byteAt body 2) (signedLong body 3) e) = true := by
      rw [durationFits_iff]
      rw [he1] at hdur
      exact hdur
    have hclear' : ∀ f ∈ s.list.events.filter (fun f => f.key ≠ half body 0),
        conflicts (trimEvent s.std (byteAt body 2) (signedLong body 3) e) f = false := by
      rw [he1] at hclear
      exact hclear
    have hch : trimChange (half body 0) (byteAt body 2) (signedLong body 3) (taken body s) =
        .ok { list := replacedList s.list (half body 0) e1, key := half body 0, members := 0, moved := false } := by
      rw [he1]
      exact trimChange_ok (s := taken body s) hr hfind hheld hlegal hfrom hrange hdur' hclear'
    obtain ⟨h1, h2⟩ := replacedList_events hr hnd hkey
    refine ⟨_, change_answers (l := replacedList s.list (half body 0) e1) h hp hr (by simp [lengthIs, hl])
      (by simp only [trimOwner, hch]; rfl), rfl, h1, h2, fun n _ hn => ?_⟩
    have hpos : positionOf (replacedList s.list (half body 0) e1) (half body 0) = n + 1 :=
      positionOf_replacedList hr hnd hkey hn
    have hget : findKey (replacedList s.list (half body 0) e1) (half body 0) = some e1 := by
      have hf := find?_key (replacedList_keys_nodup hnd hkey) hn
      rwa [hkey] at hf
    dsimp only
    rw [hpos, hget]
    rfl
  · intro std point d e hpt
    obtain ⟨h1, h2, h3⟩ := trimEvent_keeps hpt std d e
    refine ⟨?_, h1, h2, h3⟩
    obtain rfl | rfl | rfl | rfl : point = 0 ∨ point = 1 ∨ point = 2 ∨ point = 3 := by omega
    all_goals rfl
  · intro std point d e hpt
    exact trimEvent_sources hpt std d e

end

-- ==== Deck replies as they are read ====
section
/-! The layout of a reply and its tests (R5, R58, R60). -/

namespace Sys2Proof.Machine

/-! ## The check byte (R58) -/

/-- The check byte of a frame in two parts. -/
theorem checkByte_append (a b : List Byte) : checkByte (a ++ b) = checkByte a + checkByte b := by
  unfold checkByte
  rw [List.foldl_append]
  conv_lhs => rw [← BitVec.add_zero (a.foldl (· + ·) 0)]
  exact List.foldl_assoc

/-- The check byte with one byte first. -/
theorem checkByte_cons (x : Byte) (l : List Byte) : checkByte (x :: l) = x + checkByte l := by
  rw [← List.singleton_append, checkByte_append]
  simp [checkByte]

/-- One changed byte changes the check byte. -/
theorem checkByte_set_ne {l : List Byte} {n : Nat} {b : Byte} (hn : n < l.length) (hb : l[n]? ≠ some b) :
    checkByte (l.set n b) ≠ checkByte l := by
  induction l generalizing n with
  | nil => simp at hn
  | cons x rest ih =>
    cases n with
    | zero =>
      rw [List.set_cons_zero, checkByte_cons, checkByte_cons]
      intro h
      have hx : b = x := by simpa using h
      exact hb (by rw [hx]; rfl)
    | succ m =>
      rw [List.set_cons_succ, checkByte_cons, checkByte_cons]
      intro h
      exact ih (by simpa using hn) (by simpa using hb) (by simpa using h)

/-! ## The bytes of a reply (R60) -/

/-- A number of two decimal digits is read back from its BCD byte. -/
theorem bcdOf_bcd {n : Nat} (h : n ≤ 99) : bcdOf (n / 10 * 16 + n % 10) = some n := by
  unfold bcdOf
  rw [if_pos (by omega)]
  congr 1
  omega

/-- The value of a byte. -/
theorem toNat_byte {n : Nat} (h : n < 256) : (BitVec.ofNat 8 n).toNat = n := by
  rw [BitVec.toNat_ofNat]
  exact Nat.mod_eq_of_lt h

/-- The codes of the modes are read back. -/
theorem deckModeOf_modeCode (m : DeckMode) : deckModeOf (modeCode m) = some m := by cases m <;> rfl

/-- Different kinds have different codes. -/
theorem kindCode_injective {a b : CmdKind} (h : kindCode a = kindCode b) : a = b := by
  revert h
  cases a <;> cases b <;> decide

/-- The flags are the low bits of their byte. -/
theorem flagsByte_testBit (c : Condition) : flagsByte c < 256 ∧ (flagsByte c).testBit 0 = c.remote
    ∧ (flagsByte c).testBit 1 = c.threaded ∧ (flagsByte c).testBit 2 = c.inhibit ∧ (flagsByte c).testBit 3 = c.servo := by
  have key : ∀ a b c d : Bool,
      let n := (if a then 1 else 0) + (if b then 2 else 0) + (if c then 4 else 0) + (if d then 8 else 0)
      n < 256 ∧ n.testBit 0 = a ∧ n.testBit 1 = b ∧ n.testBit 2 = c ∧ n.testBit 3 = d := by decide
  exact key c.remote c.threaded c.inhibit c.servo

/-- The nine bytes of a reply before its check byte. -/
theorem replyHead_eq (std : FrameStd) (k : CmdKind) (c : Condition) (pos : Nat) :
    replyHead std k c pos =
      [BitVec.ofNat 8 (kindCode k), BitVec.ofNat 8 (modeCode c.mode), BitVec.ofNat 8 (flagsByte c),
        BitVec.ofNat 8 c.tracks.toNat,
        BitVec.ofNat 8 ((labelOf std (pos / 64)).hh / 10 * 16 + (labelOf std (pos / 64)).hh % 10),
        BitVec.ofNat 8 ((labelOf std (pos / 64)).mm / 10 * 16 + (labelOf std (pos / 64)).mm % 10),
        BitVec.ofNat 8 ((labelOf std (pos / 64)).ss / 10 * 16 + (labelOf std (pos / 64)).ss % 10),
        BitVec.ofNat 8 ((labelOf std (pos / 64)).ff / 10 * 16 + (labelOf std (pos / 64)).ff % 10),
        BitVec.ofNat 8 (pos % 64)] := rfl

/-- The position of a reply is read back. -/
theorem replyPosition_replyHead {std : FrameStd} {pos : Nat} (h : pos < dayLength std) (k : CmdKind) (c : Condition)
    (x : Byte) : replyPosition std (replyHead std k c pos ++ [x]) 4 = some pos := by
  have hday : pos / 64 < fday std := OnDay.frame_lt h
  have hr := labelOf_inRange hday
  have hmoved : (labelOf std (pos / 64)).moved std = labelOf std (pos / 64) := by
    simp [Label.moved, labelOf_not_leftOut]
  have hframe := frameOf_labelOf std (pos / 64)
  rw [replyHead_eq]
  generalize labelOf std (pos / 64) = l at hr hmoved hframe ⊢
  obtain ⟨h1, h2, h3, h4⟩ := Label.inRange_iff.1 hr
  have hrate : rate std ≤ 30 := by cases std <;> decide
  have digits (n : Nat) (hn : n ≤ 99) : bcdOf (BitVec.ofNat 8 (n / 10 * 16 + n % 10)).toNat = some n := by
    rw [toNat_byte (by omega), bcdOf_bcd hn]
  have hphase : (BitVec.ofNat 8 (pos % 64)).toNat = pos % 64 := toNat_byte (by omega)
  unfold replyPosition byteAt
  simp only [List.cons_append, List.nil_append, List.getD_cons_zero, List.getD_cons_succ]
  rw [digits _ (by omega), digits _ (by omega), digits _ (by omega), digits _ (by omega), hphase]
  dsimp only
  rw [hmoved, hframe, hr, if_pos (by simp; omega)]
  congr 1
  omega

/-! ## Reading -/

/-- The characters of a reply are ten good ones. -/
theorem replyChars_length (std : FrameStd) (k : CmdKind) (c : Condition) (pos : Nat) :
    (replyChars std k c pos).length = 10 := rfl

/-- What makes ten characters a miss (R58, R60). -/
theorem readReply_none {std : FrameStd} {k : CmdKind} {chars : List LineChar}
    (h : (chars.take 10).length = 10 → (chars.take 10).all (fun ch => !ch.error) = true →
      ((chars.take 10).map LineChar.byte).getD 9 0 = checkByte (((chars.take 10).map LineChar.byte).take 9) →
      byteAt ((chars.take 10).map LineChar.byte) 0 ≠ kindCode k) : readReply std k chars = none :=
  if_neg fun ⟨h1, h2, h3, h4, _⟩ => h h1 h2 h3 h4

/-- The bytes of a reply. -/
theorem replyChars_bytes (std : FrameStd) (k : CmdKind) (c : Condition) (pos : Nat) :
    (replyChars std k c pos).map LineChar.byte = replyHead std k c pos ++ [checkByte (replyHead std k c pos)] := by
  unfold replyChars
  rw [List.map_map]
  exact List.map_id _

/-- The echo of a reply. -/
theorem byteAt_echo (std : FrameStd) (k : CmdKind) (c : Condition) (pos : Nat) (x : Byte) :
    byteAt (replyHead std k c pos ++ [x]) 0 = kindCode k := by
  have hk : kindCode k < 256 := by cases k <;> decide
  rw [replyHead_eq]
  exact toNat_byte hk

/-- A reply is read back. -/
theorem readReply_replyChars {std : FrameStd} {pos : Nat} (h : pos < dayLength std) (k : CmdKind) (c : Condition) :
    readReply std k (replyChars std k c pos) = some (c, pos) := by
  have htake : (replyChars std k c pos).take 10 = replyChars std k c pos := rfl
  have hmode : modeCode c.mode < 256 := by cases c.mode <;> decide
  obtain ⟨hf, hf0, hf1, hf2, hf3⟩ := flagsByte_testBit c
  have htracks : c.tracks.toNat < 32 := c.tracks.isLt
  unfold readReply
  dsimp only
  rw [htake, replyChars_bytes]
  have hb1 : byteAt (replyHead std k c pos ++ [checkByte (replyHead std k c pos)]) 1 = modeCode c.mode := by
    rw [replyHead_eq]
    exact toNat_byte hmode
  have hb2 : byteAt (replyHead std k c pos ++ [checkByte (replyHead std k c pos)]) 2 = flagsByte c := by
    rw [replyHead_eq]
    exact toNat_byte hf
  have hb3 : byteAt (replyHead std k c pos ++ [checkByte (replyHead std k c pos)]) 3 = c.tracks.toNat := by
    rw [replyHead_eq]
    exact toNat_byte (by omega)
  rw [hb1, hb2, hb3, byteAt_echo, deckModeOf_modeCode, replyPosition_replyHead h, if_pos ⟨rfl, rfl, rfl, rfl, htracks⟩]
  dsimp only
  rw [hf0, hf1, hf2, hf3, BitVec.ofNat_toNat, BitVec.setWidth_eq]

end Sys2Proof.Machine

open Sys2Proof Sys2Proof.Machine

/-- Settles O38: the ten characters carry each field in bytes of its own, and their sum shows one changed byte. -/
theorem repliesReadBackWhatTheDeckSent : Obligations.RepliesReadBackWhatTheDeckSent := by
  unfold Obligations.RepliesReadBackWhatTheDeckSent
  refine ⟨fun std k k2 c pos h => ⟨readReply_replyChars h k c, fun hne => readReply_none fun _ _ _ he => ?_⟩, ?_, ?_⟩
  · have htake : (replyChars std k c pos).take 10 = replyChars std k c pos := rfl
    rw [htake, replyChars_bytes, byteAt_echo] at he
    exact hne (kindCode_injective he).symm
  · intro std k c pos n b _ hn hb
    refine readReply_none fun _ _ hsum _ => ?_
    have hlen : (replyHead std k c pos).length = 9 := rfl
    have htake : ((replyChars std k c pos).set n { byte := b, error := false }).take 10 =
        (replyChars std k c pos).set n { byte := b, error := false } :=
      List.take_of_length_le (by rw [List.length_set, replyChars_length])
    rw [htake, List.map_set, replyChars_bytes] at hsum
    dsimp only at hsum
    rw [← List.getElem?_map, replyChars_bytes] at hb
    by_cases h9 : n = 9
    · subst h9
      have hset : (replyHead std k c pos ++ [checkByte (replyHead std k c pos)]).set 9 b = replyHead std k c pos ++ [b] := rfl
      have hlast : (replyHead std k c pos ++ [b]).getD 9 0 = b := rfl
      have hhead : (replyHead std k c pos ++ [b]).take 9 = replyHead std k c pos := rfl
      rw [hset, hlast, hhead] at hsum
      rw [hsum] at hb
      exact hb rfl
    · have hn9 : n < (replyHead std k c pos).length := by omega
      rw [List.set_append_left _ _ hn9] at hsum
      rw [List.getElem?_append_left hn9] at hb
      have hl : ((replyHead std k c pos).set n b).length = 9 := by rw [List.length_set, hlen]
      rw [List.take_left' hl, List.getD_append_right _ _ _ _ (by omega), hl] at hsum
      exact checkByte_set_ne hn9 hb hsum.symm
  · intro std k chars h
    refine readReply_none fun hl he _ _ => ?_
    rcases h with h | ⟨ch, hch, herr⟩
    · rw [List.length_take] at hl
      omega
    · have := List.all_eq_true.1 he ch hch
      simp [herr] at this

end

-- ==== RUN ====
section
/-! RUN from IDLE: the first eligible event armed, skipped or not there (R160, R161, R164, R168), and the responses of a run
(R165, R166). -/

namespace Sys2Proof.Machine

/-! ## The claim and the cues of an arm (R139) -/

/-- `t` comes from `s` by work on the decks of some ports: nothing but deck, transport and tracker records, notices and
holders differ, and of the records only those of these ports. -/
structure DeckWork (ps : List Port) (s t : State) : Prop where
  only : { t with ports := s.ports, transports := s.transports, trackers := s.trackers, notices := s.notices,
                  holders := s.holders } = s
  other : ∀ q, q ∉ ps → t.port q = s.port q ∧ t.transport q = s.transport q ∧ t.tracker q = s.tracker q

/-- No work. -/
theorem DeckWork.refl (ps : List Port) (s : State) : DeckWork ps s s := ⟨rfl, fun _ _ => ⟨rfl, rfl, rfl⟩⟩

/-- Work after work. -/
theorem DeckWork.trans {ps : List Port} {s t u : State} (h : DeckWork ps s t) (k : DeckWork ps t u) : DeckWork ps s u := by
  refine ⟨(congrArg (fun u : State => { u with
      ports := s.ports, transports := s.transports, trackers := s.trackers, notices := s.notices,
      holders := s.holders }) k.only).trans h.only, fun q hq => ?_⟩
  obtain ⟨a, b, c⟩ := h.other q hq
  obtain ⟨a', b', c'⟩ := k.other q hq
  exact ⟨a'.trans a, b'.trans b, c'.trans c⟩

/-- Work for one port that leaves the chase records. -/
theorem PortWork.decks {p : Port} {ps : List Port} {s t : State} (h : PortWork none p s t) (ho : OnlyDecks s t)
    (hp : p ∈ ps) : DeckWork ps s t :=
  ⟨congrArg (fun u : State => { u with holders := s.holders }) ho,
    fun q hq => ⟨(h.other q (fun e => hq (e ▸ hp))).1, (h.other q (fun e => hq (e ▸ hp))).2.1,
      (h.other q (fun e => hq (e ▸ hp))).2.2.1⟩⟩

/-- A cue asked by the sequencer. -/
theorem seqCue_work {p : Port} {ps : List Port} (hp : p ∈ ps) (x : Nat) (s : State) :
    DeckWork ps s (seqCue p x s) ∧ OnlyDecks s (seqCue p x s) :=
  ⟨((PortWork.start p s).seqCue (by simp)).decks (onlyDecks_seqCue p x s) hp, onlyDecks_seqCue p x s⟩

/-- A cue asked of a player, if there is one. -/
def playerCue (o : Option Port) (x : Option Nat) (s : State) : State :=
  match o, x with
  | some p, some x => seqCue p x s
  | _, _ => s

/-- The cues of an arm, player by player. -/
theorem askCues_eq (d : DeckSet) (c : CuePoints) (s : State) : askCues d c s =
    playerCue d.fromPort c.fromPos (playerCue d.toPort c.toPos (seqCue d.recorder c.recorder s)) := rfl

/-- A cue asked of a player of the set. -/
theorem playerCue_work {ps : List Port} {o : Option Port} (ho : ∀ p ∈ o, p ∈ ps) (x : Option Nat) (s : State) :
    DeckWork ps s (playerCue o x s) ∧ OnlyDecks s (playerCue o x s) := by
  cases o with
  | none => exact ⟨.refl ps s, .refl s⟩
  | some p =>
    cases x with
    | none => exact ⟨.refl ps s, .refl s⟩
    | some x => exact seqCue_work (ho p rfl) x s

/-- The cues of an arm. -/
theorem askCues_work (d : DeckSet) (c : CuePoints) (s : State) :
    DeckWork (deckPorts d) s (askCues d c s) ∧ OnlyDecks s (askCues d c s) := by
  have hto : ∀ p ∈ d.toPort, p ∈ deckPorts d := fun p hp => by simp [deckPorts, Option.mem_def.1 hp]
  have hfrom : ∀ p ∈ d.fromPort, p ∈ deckPorts d := fun p hp => by simp [deckPorts, Option.mem_def.1 hp]
  obtain ⟨h1, k1⟩ := seqCue_work (p := d.recorder) (ps := deckPorts d) List.mem_cons_self c.recorder s
  obtain ⟨h2, k2⟩ := playerCue_work hto c.toPos (seqCue d.recorder c.recorder s)
  obtain ⟨h3, k3⟩ := playerCue_work hfrom c.fromPos (playerCue d.toPort c.toPos (seqCue d.recorder c.recorder s))
  rw [askCues_eq]
  exact ⟨(h1.trans h2).trans h3, (k1.trans k2).trans k3⟩

/-- A claimed port. -/
theorem deckWork_claimPort {p : Port} {ps : List Port} (hp : p ∈ ps) (h : Holder) (s : State) :
    DeckWork ps s (claimPort h p s) := by
  have hone : DeckWork ps s ((s.setHolder p h).setTransport p { s.transport p with standbyTimer := 0 }) :=
    ⟨rfl, fun q hq => ⟨rfl, State.setTransport_ne _ _ (fun e => hq (e ▸ hp)), rfl⟩⟩
  exact hone.trans (((PortWork.start p _).overrideRelease).decks (onlyDecks_overrideRelease p _) hp)

/-- Claimed ports. -/
theorem deckWork_claimPorts (ps : List Port) (h : Holder) (s : State) : DeckWork ps s (claimPorts h ps s) :=
  List.foldlRecOn (motive := fun u : State => DeckWork ps s u) ps _ (.refl ps s)
    (fun u hu _ hp => hu.trans (deckWork_claimPort hp h u))

/-- What an arm leaves: the record, the holders of its decks, and nothing else but the records of its decks and
notices. -/
theorem arm_eq (mode : Mode) (e : Event) (d : DeckSet) (run : Option Run) (s : State) :
    (arm mode e d run s).seq = armedRecord mode e d run s
      ∧ (arm mode e d run s).holders = s.holders.mapAll (fun p h => if p ∈ deckPorts d then .sequencer else h)
      ∧ DeckWork (deckPorts d) { s with seq := armedRecord mode e d run s } (arm mode e d run s) := by
  obtain ⟨hw, ho⟩ := askCues_work d (cuePointsFor s.std d e (prerollFor s e))
    { claimPorts .sequencer (deckPorts d) s with seq := armedRecord mode e d run s }
  have hc := deckWork_claimPorts (deckPorts d) .sequencer s
  have hclaim : DeckWork (deckPorts d) { s with seq := armedRecord mode e d run s }
      { claimPorts .sequencer (deckPorts d) s with seq := armedRecord mode e d run s } :=
    ⟨congrArg (fun u : State => { u with seq := armedRecord mode e d run s }) hc.only, hc.other⟩
  refine ⟨(congrArg State.seq ho :), PerPort.ext_get fun p => ?_, hclaim.trans hw⟩
  rw [PerPort.get_mapAll]
  refine ((congrArg (fun u : State => u.holder p) ho :) : _ = _).trans ?_
  exact claimPorts_holder .sequencer (deckPorts d) p s

/-! ## The tests of RUN (R160) -/

/-- The run record that a body asks for. -/
def askedRun (body : List Byte) (a b : Nat) (fm : FaultMode) : Run :=
  { start := a, stop := b, faultMode := fm, redo := byteAt body 9 = 1, lastPair := none, done := 0, failed := 0, skipped := 0 }

/-- The fields of a body of RUN. -/
theorem runFields_ok {body : List Byte} {s : State} {a b : Nat} {ma mb : Bool} {fm : FaultMode}
    (ha : readLabel s.std false (labelAt body 0) = some (a, ma)) (hb : readLabel s.std false (labelAt body 4) = some (b, mb))
    (hm : faultModeOf (byteAt body 8) = some fm) (hr : byteAt body 9 ≤ 1) (hab : a < b) :
    runFields body s = .ok (askedRun body a b fm, ma || mb) := by
  simp only [runFields, need_bind_eq_ok, check_bind_eq_ok, pure_eq_ok, decide_eq_true_eq]
  exact ⟨_, ha, _, hb, fm, hm, ⟨hr, hab⟩, rfl⟩

/-- The first five steps of RUN. -/
theorem runChecks_ok {body : List Byte} {s : State} {r : Run × Bool} (hf : runFields body s = .ok r)
    (hi : s.seq.phase = .idle) (hp : s.ref.state = .present) (hrec : s.recorder.isSome) : runChecks body s = .ok r := by
  simp only [runChecks, hf, hi, hp, hrec, check, decide_true, if_true, bind, Except.bind]
  rfl

/-- The labels used in the answer of RUN. -/
theorem bUsedLabels_range {std : FrameStd} {l m : Label} {a b : Nat} {ma mb : Bool}
    (ha : readLabel std false l = some (a, ma)) (hb : readLabel std false m = some (b, mb)) :
    bUsedLabels std [some l, some m] = bOpt 4 bLabel (if ma then some { l with ff := 2 } else none)
      ++ bOpt 4 bLabel (if mb then some { m with ff := 2 } else none) := by
  obtain ⟨-, -, rfl⟩ := readLabel_false_eq_some ha
  rw [bUsedLabels_some, bUsedLabels_read hb]

/-- The first eligible event of a new run, with no ripple in flight. -/
theorem nextEvent_first {l : ListUnit} (h : l.ripple = none) {run : Run} (hl : run.lastPair = none) :
    nextEvent run l = l.events.find? (fun e => decide (run.start ≤ e.recIn ∧ e.recIn < run.stop
      ∧ (run.redo = true ∨ (e.status ≠ .done ∧ e.status ≠ .slipped)))) := by
  unfold nextEvent
  rw [viewEvents_eq_events h]
  congr 1
  funext e
  rw [Bool.eq_iff_iff]
  simp [eligible, afterLast, hl, and_assoc]

/-- The hold lookup of an event of the list, with no ripple in flight. -/
theorem holdLookup_mem {s : State} (h : s.list.ripple = none) (hnd : (s.list.events.map Event.key).Nodup) {e : Event}
    (he : e ∈ s.list.events) : holdLookup e.key s = some (e, s) := by
  obtain ⟨n, hn⟩ := List.mem_iff_getElem?.1 he
  have hw : workAhead e.key s.list = s.list := by
    unfold workAhead
    rw [h]
  have hf : findKey s.list e.key = some e := find?_key hnd hn
  unfold holdLookup
  simp only [hw, hf]

/-- RUN worked with its first five steps passed. -/
theorem run_worked {s : State} {body : List Byte} {r : Run × Bool} (h : Ready s) (hr : s.list.ripple = none)
    (hl : body.length = 10) (hi : s.seq.phase = .idle) (hp : s.ref.state = .present) (hrec : s.recorder.isSome)
    (hf : runFields body s = .ok r) :
    exec (.run body) s = .next (shortenPolls (runCandidates r.2
      (bUsedLabels s.std [some (labelAt body 0), some (labelAt body 4)])
      (s.list.events.length + 1) r.1 (taken body s))) := by
  have hf' : runFields body (taken body s) = .ok r := hf
  have hc' := runChecks_ok hf' hi hp hrec
  have hw : runWaits body (taken body s) = false := by
    unfold runWaits
    rw [waitsForList_free hr]
    rfl
  refine (request_worked h (by simp [lengthIs, hl]) hw).trans (congrArg _ (congrArg _ ?_))
  have hph : ¬ (taken body s).seq.phase ≠ .idle := fun hn => hn hi
  simp only [runOwner, hc', runStep, hf']
  rw [if_neg hph]
  rfl

/-! ## The first candidate (R161, R164) -/

/-- No event is eligible. -/
theorem runCandidates_none {s : State} {run : Run} (hn : nextEvent run s.list = none) (hl : run.lastPair = none)
    (moved : Bool) (used : List Byte) (fuel : Nat) :
    runCandidates moved used (fuel + 1) run s = refuse 0x23 .notFound s := by
  simp only [runCandidates, hn, Option.bind_none, hl, if_true]

/-- The first candidate is armed. -/
theorem runCandidates_armed {s : State} {run : Run} {e : Event} {d : DeckSet} (hn : nextEvent run s.list = some e)
    (hh : holdLookup e.key s = some (e, s)) (hd : armChecks .run e [] s = .ok d)
    (moved : Bool) (used : List Byte) (fuel : Nat) :
    runCandidates moved used (fuel + 1) run s = answer 0x23 (startedOr (moved || prerollShort s e))
      (b2 e.key ++ bDecks d ++ b2 (prerollFor s e) ++ b2 run.skipped ++ used) (arm .run e d (some run) s) := by
  simp only [runCandidates, hn, Option.bind_some, hh, hd]

/-- The first candidate is skipped, and in STOP mode the run ends at once. -/
theorem runCandidates_skipped {s : State} {run : Run} {e : Event} {why : Reason} {reason : RunReason}
    (hn : nextEvent run s.list = some e) (hh : holdLookup e.key s = some (e, s)) (hd : armChecks .run e [] s = .error why)
    (hc : classResponse run.faultMode (skipClass why) = some reason) (moved : Bool) (used : List Byte) (fuel : Nat) :
    runCandidates moved used (fuel + 1) run s = runEndedAtOnce reason (some e.key) moved
      (finishEvent (some (.skipped (skipClass why))) e.recIn e.key run)
      { s with list := takeWrite (some e.key) (skipWrite e.key (skipClass why)) s.list } := by
  simp only [runCandidates, hn, Option.bind_some, hh, hd, hc]

/-- The SKIPPED write of a candidate, with no ripple in flight. -/
theorem takeWrite_skip {l : ListUnit} (h : l.ripple = none) (k : Nat) (c : FaultClass) :
    takeWrite (some k) (skipWrite k c) l = { l with
      events := l.events.map (fun y => if y.key = k then { y with status := .skipped c } else y) } := by
  unfold takeWrite workAhead
  simp only [h]
  rfl

/-- The class of a skip. -/
theorem skipClass_eq (why : Reason) : skipClass why = if why = .noReference then .reference
    else if why = .inhibit then .recorder else if why = .held then .claim else .check := by cases why <;> rfl

/-- In STOP mode every class ends the run. -/
theorem classResponse_stop (c : FaultClass) : classResponse .stop c = some (.fault c) := by cases c <;> rfl

/-- The table of R165. -/
theorem classResponse_eq (fm : FaultMode) (c : FaultClass) :
    classResponse fm c = if fm = .stop ∨ c ∈ [.abort, .reference, .recorder, .claim] then some (.fault c) else none := by
  cases fm with
  | stop => simp [classResponse_stop]
  | goOn => cases c <;> rfl

end Sys2Proof.Machine

open Sys2Proof Sys2Proof.Machine

/-- Settles O51: the first eligible event is the first candidate; it is armed, or skipped, which in STOP mode ends the
run. -/
theorem runTakesTheFirstEligibleEventAndAnswersItsResponses :
    Obligations.RunTakesTheFirstEligibleEventAndAnswersItsResponses := by
  unfold Obligations.RunTakesTheFirstEligibleEventAndAnswersItsResponses
  refine ⟨?_, ?_, ?_, fun fm c o => ⟨classResponse_eq fm c, ?_⟩⟩
  · rintro s body a ma b mb fm run h hp hr hl hi href hrec ha hb hm hredo hab rfl hnone
    have hn : nextEvent (askedRun body a b fm) (taken body s).list = none :=
      (nextEvent_first (l := s.list) hr rfl).trans hnone
    refine (run_worked h hr hl hi href hrec (runFields_ok ha hb hm hredo hab)).trans (congrArg _ ?_)
    rw [runCandidates_none hn rfl]
    exact shortenPolls_eq hp
  · rintro s body a ma b mb fm run e d r h hp hr hl hi href hrec ha hb hm hredo hab rfl hnd hfirst hd rfl
    have hn : nextEvent (askedRun body a b fm) (taken body s).list = some e :=
      (nextEvent_first (l := s.list) hr rfl).trans hfirst
    have hh : holdLookup e.key (taken body s) = some (e, taken body s) :=
      holdLookup_mem (s := taken body s) hr hnd (List.mem_of_find?_eq_some hfirst)
    have hd' : armChecks .run e [] (taken body s) = .ok d := hd
    obtain ⟨k1, k2, k3⟩ := arm_eq .run e d (some (askedRun body a b fm)) (taken body s)
    refine ⟨_, (run_worked h hr hl hi href hrec (runFields_ok ha hb hm hredo hab)).trans
      (congrArg _ (congrArg _ (runCandidates_armed hn hh hd' _ _ _))), k1, k2, ?_, fun q _ hq => ?_, ?_⟩
    · have hlink : (arm .run e d (some (askedRun body a b fm)) (taken body s)).link = (taken body s).link :=
        (congrArg State.link k3.only :)
      have hstatus : startedOr (ma || mb || prerollShort (taken body s) e) =
          if ma = true ∨ mb = true ∨ min (s.live.system.preroll * rate s.std) e.recIn < s.live.system.preroll * rate s.std
          then .adjusted else .started := by
        have hshort : prerollShort (taken body s) e = decide (e.recIn < s.live.system.preroll * rate s.std) := rfl
        unfold startedOr
        rw [hshort]
        simp only [Bool.or_eq_true, decide_eq_true_eq, or_assoc, min_lt_iff, lt_self_iff_false, false_or]
      change ({ (arm .run e d (some (askedRun body a b fm)) (taken body s)).link with
        working := false, waiting := none, answer := some _ } : Link) = _
      rw [hlink, hstatus, bUsedLabels_range ha hb, ← List.append_assoc]
      rfl
    · obtain ⟨hq1, hq2, hq3⟩ := k3.other q hq
      have hqh : (arm .run e d (some (askedRun body a b fm)) (taken body s)).holder q = s.holder q := by
        refine (congrArg (fun h => PerPort.get h q) k2).trans ?_
        rw [PerPort.get_mapAll, if_neg hq]
        rfl
      have hqc : (arm .run e d (some (askedRun body a b fm)) (taken body s)).chase q = s.chase q :=
        (congrArg (fun u : State => u.chase q) k3.only :)
      exact ⟨shortenPolls_port_of_same hp hq1 hq2 hqc hqh, hq2, hq3⟩
    · exact congrArg (fun u : State => { u with seq := s.seq, link := s.link }) k3.only
  · rintro s body a ma b mb fm run e why c u h hp hr hl hi href hrec ha hb hm hredo hab rfl hnd rfl hfirst hd hc rfl
    rw [← skipClass_eq] at hc
    have hn : nextEvent (askedRun body a b .stop) (taken body s).list = some e :=
      (nextEvent_first (l := s.list) hr rfl).trans hfirst
    have hh : holdLookup e.key (taken body s) = some (e, taken body s) :=
      holdLookup_mem (s := taken body s) hr hnd (List.mem_of_find?_eq_some hfirst)
    have hd' : armChecks .run e [] (taken body s) = .error why := hd
    refine (run_worked h hr hl hi href hrec (runFields_ok ha hb hm hredo hab)).trans (congrArg _ ?_)
    dsimp only
    rw [runCandidates_skipped hn hh hd' (classResponse_stop _), takeWrite_skip (l := (taken body s).list) hr, ← hc]
    have hstatus : doneOr (ma || mb) = if ma = true ∨ mb = true then .adjusted else .done := by
      unfold doneOr
      simp only [Bool.or_eq_true]
    unfold runEndedAtOnce
    rw [hstatus]
    refine (shortenPolls_eq ?_).trans ?_
    · exact hp
    · rfl
  · cases ho : o.outcome with
    | fault c => simp only [editResponse, ho]
    | complete =>
      cases he : o.early with
      | none => simp only [editResponse, ho, he, Option.bind_none]
      | some c =>
        simp only [editResponse, ho, he, Option.bind_some]
        cases classResponse fm c <;> rfl

end

-- ==== What a command can do to the list, the reels, the settings and the outputs ====
section
/-! The edit list, the reel table, the settings, the mix port, the GPI lines and the event copy, and the few ways in which
any operation of the machine changes them. `Worked s t` says that `t` comes from `s` by these ways alone; every command but
the end of the settings load is such work, so an invariant of these records is proved by going through the ways once. -/

namespace Sys2Proof.Machine

/-- The state with everything at its reset value but the records named above. -/
def bare (s : State) : State :=
  { State.reset with
    list := s.list, reels := s.reels, live := s.live, snapshot := s.snapshot
    mix := { State.reset.mix with out := s.mix.out, staged := s.mix.staged }
    gpi := { State.reset.gpi with lines := s.gpi.lines }
    seq := { Sequencer.idle with copy := s.seq.copy } }

/-- What the list unit can make of its list (R27, R34 to R41, R45 to R49, R51). -/
inductive ListChange (s : State) : ListUnit → Prop
  | ahead (key : Nat) : ListChange s (workAhead key s.list)
  | write (held : Option Nat) (w : StatusWrite) : ListChange s (takeWrite held w s.list)
  | chunk : ListChange s (workChunk s.list)
  | insert {raw : RawEvent} {flag : Bool} {c : Change} (h : insertChange raw flag s = .ok c) : ListChange s c.list
  | replace {key : Nat} {raw : RawEvent} {c : Change} (h : replaceChange key raw s = .ok c) : ListChange s c.list
  | trim {key point : Nat} {d : Int} {c : Change} (h : trimChange key point d s = .ok c) : ListChange s c.list
  | delete {key : Nat} {flag : Bool} {c : Change} (h : deleteChange key flag s = .ok c) : ListChange s c.list
  | ripple {p : Nat} {d : Int} {c : Change} (h : rippleChange p d s = .ok c) : ListChange s c.list
  | clear {c : Change} (h : clearChange s = .ok c) : ListChange s c.list

/-- The mount of a displaced reel cleared, where there is one (R105). -/
def displace (o : Option Nat) (s : State) : State :=
  match o with
  | some j => setMount j none s
  | none => s

/-- What can be made of the reel table (R102 to R107). -/
inductive ReelChange (s : State) : State → Prop
  | define {name : List Byte} {i : Nat} (hv : nameValid name = true) (hn : nameTaken s name 0 = false)
      (hi : lowestFree s = some i) : ReelChange s (setReel i (some { name := name, mounted := none }) s)
  | rename {name : List Byte} {i : Nat} {r : Reel} (hr : reelAt s i = some (some r)) (hv : nameValid name = true)
      (hn : nameTaken s name i = false) : ReelChange s (setReel i (some { r with name := name }) s)
  | retire {i : Nat} (hf : referenced s i = false) : ReelChange s (setReel i none s)
  | unmount (i : Nat) : ReelChange s (setMount i none s)
  | mount {i : Nat} {p : Port} {r : Reel} (hr : reelAt s i = some (some r)) (hp : s.recorder ≠ some p) :
      ReelChange s (setMount i (some p) (displace (if r.mounted = some p then none else reelOn s p) s))

/-- What can be made of the settings (R73, R193, R194, R196). -/
inductive SettingsChange (s : State) : State → Prop
  | system {body : List Byte} {b : SystemBlock} {moved : Bool} (h : systemChecks body s = .ok (b, moved)) :
      SettingsChange s (setSystemBlock (clampSystem b) s)
  | profile (p : Port) (f : Profile) :
      SettingsChange s { s with live := { s.live with profiles := s.live.profiles.set p (clampProfile f) } }
  | gpi (l : Line) (c : GpiConfig) : SettingsChange s { s with live := { s.live with gpi := s.live.gpi.set l c } }
  | store : SettingsChange s { s with snapshot := some s.live }
  | stored : SettingsChange s { s with snapshot := none }

/-- What can be made of the mix port (R172, R174, R175, R178). -/
inductive MixChange (s : State) : Mix → Prop
  | stage {e : Event} (h : s.seq.copy = some e) (d : DeckSet) : MixChange s (stageSetup e d s).mix
  | field : MixChange s (mixField s).mix
  | flip : MixChange s (flipFlop s.mix)
  | black : MixChange s (blackMix s).mix

/-- `t` comes from `s` by the ways above. The event copy is an event of the list or absent; a line that is active afterwards
was so before, or has a pulse that has not counted 30 fields; and the outputs may be held as they were at an earlier moment of
the same work (R134, R176, R179). -/
inductive Worked (s : State) : State → Prop
  | start : Worked s s
  | same {t u : State} (h : Worked s t) (hu : bare u = bare t) : Worked s u
  | list {t : State} {l : ListUnit} (h : Worked s t) (hl : ListChange t l) : Worked s (setList l t)
  | reels {t u : State} (h : Worked s t) (hu : ReelChange t u) : Worked s u
  | settings {t u : State} (h : Worked s t) (hu : SettingsChange t u) : Worked s u
  | mix {t : State} {m : Mix} (h : Worked s t) (hm : MixChange t m) : Worked s { t with mix := m }
  | held {t u : State} (h : Worked s t) (k : Worked s u) : Worked s { u with mix := { u.mix with out := t.mix.out } }
  | lines {t : State} {v : PerLine (Option Fired)} (h : Worked s t)
      (hv : ∀ l, ∀ f ∈ v.get l, pulseCount f < 30 ∨ t.gpi.lines.get l = some f) :
      Worked s { t with gpi := { t.gpi with lines := v } }
  | copied {t : State} {f : Sequencer → Sequencer} {e : Event} (h : Worked s t) (he : e ∈ t.list.events)
      (hf : (f t.seq).copy = some e) : Worked s (setSeq f t)
  | uncopied {t : State} {f : Sequencer → Sequencer} (h : Worked s t) (hf : (f t.seq).copy = none) : Worked s (setSeq f t)
  | hardwareReset : Worked s State.reset

/-- The event copy of a running edit. -/
theorem liveEdit_copy {s : State} {x : Edit} (h : liveEdit s = some x) :
    s.seq.copy = some x.event := by
  unfold liveEdit editOf at h
  split at h
  · split at h
    · rename_i hc _
      obtain rfl := Option.some.inj h
      exact hc
    · cases h
  · cases h

/-- The final step leaves the list. -/
theorem finalStep_list (s : State) : (finalStep s).list = s.list :=
  (congrArg State.list (BlockWork.start s).finalStep.only :)

/-- A chain of checks goes on with the value of its first part. -/
theorem except_bind_eq_ok {α β : Type} {x : Except Reason β} {f : β → Except Reason α} {a : α} :
    (x >>= f) = .ok a ↔ ∃ b, x = .ok b ∧ f b = .ok a := by
  cases x <;> simp [bind, Except.bind]

/-- A value that is there passes. -/
theorem need_eq_ok {α : Type} {v : Option α} {r : Reason} {a : α} : need v r = .ok a ↔ v = some a := by
  cases v <;> simp [need]

/-- A reel that is defined (R103, R104). -/
theorem definedReel_eq_ok {s : State} {i : Nat} {r : Reel} : definedReel s i = .ok r ↔ reelAt s i = some (some r) := by
  simp only [definedReel, need_bind_eq_ok, need_eq_ok]
  exact ⟨fun ⟨_, h, hr⟩ => hr ▸ h, fun h => ⟨_, h, rfl⟩⟩

namespace Worked

section
variable {s0 s : State}

/-! ## Composition -/

/-- Work of either branch. -/
theorem ite {c : Prop} [Decidable c] {t u : State} (ht : Worked s0 t) (hu : Worked s0 u) :
    Worked s0 (if c then t else u) := by
  split
  · exact ht
  · exact hu

/-- Work done for each entry of a list. -/
theorem foldl {α : Type} {f : State → α → State} (h : Worked s0 s) (hf : ∀ s a, Worked s0 s → Worked s0 (f s a))
    (l : List α) : Worked s0 (l.foldl f s) :=
  List.foldlRecOn l f h (fun s hs a _ => hf s a hs)

/-- Work for one port by the transport controller or the chase servo. -/
theorem port {p : Port} {t : State} (h : Worked s0 s) (k : PortWork none p s s → PortWork none p s t) : Worked s0 t :=
  h.same (congrArg bare (k (PortWork.start p s)).only :)

/-- The sequencer record changed with its event copy standing. -/
theorem setSeq (h : Worked s0 s) {f : Sequencer → Sequencer} (hf : (f s.seq).copy = s.seq.copy) :
    Worked s0 (setSeq f s) := by
  refine h.same ?_
  unfold bare
  simp only [setSeq_seq, hf]
  rfl

/-- A command handed. -/
theorem handCommand (h : Worked s0 s) (p : Port) (c : DeckCmd) : Worked s0 (handCommand p c s) := h.same rfl

/-! ## The outputs (R171 to R185) -/

/-- A line made active by a trigger. -/
theorem setLine (h : Worked s0 s) (l : Line) {o : Option Fired} (ho : ∀ f ∈ o, pulseCount f < 30) :
    Worked s0 (setLine l o s) := by
  refine h.lines (v := s.gpi.lines.set l o) (fun m f hf => ?_)
  rw [PerLine.get_set] at hf
  split at hf
  · exact .inl (ho f hf)
  · exact .inr hf

/-- A trigger fired. -/
theorem fireLine (h : Worked s0 s) (m : Mode) (l : Line) : Worked s0 (fireLine m l s) := by
  unfold Machine.fireLine
  dsimp only
  split
  · exact h
  · refine h.setLine l ?_
    rintro _ ⟨⟩
    split <;> simp [pulseCount]

/-- The triggers reached. -/
theorem fireReached (m : Mode) (reached : Nat → Bool) (ts : List ArmedTrigger) (h : Worked s0 s) :
    Worked s0 (fireReached m reached ts s).1 := by
  induction ts generalizing s with
  | nil => exact h
  | cons t rest ih => exact ih (.ite (h.fireLine m t.line) h)

/-- The armed triggers tested. -/
theorem testTriggers (h : Worked s0 s) (reached : Nat → Bool) : Worked s0 (testTriggers reached s) := by
  unfold Machine.testTriggers
  split
  · exact h
  · exact (h.fireReached _ reached _).same rfl

/-- The triggers of an event handed. -/
theorem armTriggers (h : Worked s0 s) (m : Mode) (e : Event) (pos : Nat) : Worked s0 (armTriggers m e pos s) :=
  Worked.testTriggers (s := { s with gpi := { s.gpi with armed := some { mode := m, recIn := e.recIn, triggers := _ } } })
    (h.same rfl) _

/-- The GPI unit told of an end. -/
theorem endGpi (h : Worked s0 s) (completed : Bool) : Worked s0 (endGpi completed s) := by
  have h1 : Worked s0 (if completed then Machine.testTriggers (fun _ => true) s else s) := .ite (h.testTriggers _) h
  refine (h1.lines (v := ((if completed then Machine.testTriggers (fun _ => true) s else s).gpi.lines.mapAll
    (fun _ f => match f with
      | some (.level _) => some (.level true)
      | other => other))) fun l f hf => ?_).same rfl
  rw [PerLine.get_mapAll] at hf
  split at hf
  · obtain rfl := Option.some.inj hf
    exact .inl (by simp [pulseCount])
  · exact .inr hf

/-- The outputs told of an end. -/
theorem endOutputs (h : Worked s0 s) (m : Mode) (completed : Bool) : Worked s0 (endOutputs m completed s) :=
  .ite h (Worked.endGpi (h.same (u := stopMix s) rfl) completed)

/-- The transition of an event started. -/
theorem startTransition (h : Worked s0 s) (e : Event) : Worked s0 (startTransition e s) := by
  unfold Machine.startTransition
  split
  · exact h.same rfl
  · exact h

/-- The field work of the GPI lines. -/
theorem gpiField (h : Worked s0 s) : Worked s0 (gpiField s) := by
  refine h.lines (fun l f hf => ?_)
  rw [PerLine.get_mapAll] at hf
  unfold lineField at hf
  split at hf
  · split at hf
    · cases hf
    · rename_i n _ hn
      obtain rfl := Option.some.inj hf
      have hlen : pulseFields (s.live.gpi.get l) ≤ 30 := by unfold pulseFields; split <;> omega
      exact .inl (by simp only [pulseCount]; omega)
  · cases hf
  · exact .inr hf

/-! ## The endings of an edit (R153 to R155) -/

/-- The DISENGAGE of an ending. -/
theorem disengageIfEngaged (h : Worked s0 s) (p : Port) : Worked s0 (disengageIfEngaged p s) :=
  .ite (Worked.setSeq (h.handCommand p .disengage) rfl) h

/-- The SEQUENCER chase records removed. -/
theorem removeSeqChases (h : Worked s0 s) (d : DeckSet) : Worked s0 (removeSeqChases d s) := by
  refine h.foldl (fun u p hu => ?_) _
  have removed : Worked s0 (removeChase p u) := hu.same rfl
  exact .ite removed hu

/-- Ports made FREE. -/
theorem freePorts (h : Worked s0 s) (ps : List Port) : Worked s0 (freePorts ps s) :=
  h.foldl (f := fun s p => s.setHolder p .free) (fun _ _ hs => hs.same rfl) ps

/-- The final step of an edit. -/
theorem finalStep (h : Worked s0 s) : Worked s0 (finalStep s) := by
  have h1 : Worked s0 (Machine.setSeq (fun _ => .idle) (Machine.freePorts ((s.seq.decks.map deckPorts).getD []) s)) :=
    (h.freePorts _).uncopied rfl
  unfold Machine.finalStep
  dsimp only
  split
  · exact h1.same rfl
  · exact h1

/-- The ending of an edit. -/
theorem endEdit (h : Worked s0 s) (x : Edit) (o : EditOutcome) (early : Option FaultClass) (completed : Bool) :
    Worked s0 (endEdit x o early completed s) := by
  have h1 := (h.disengageIfEngaged x.decks.recorder).foldl (f := fun s p => seqAct p .halt s)
    (fun s p hs => hs.port (fun k => k.seqAct .halt)) (deckPorts x.decks)
  have h2 := ((h1.removeSeqChases x.decks).endOutputs x.mode completed).setSeq
    (f := fun q => { q with
      closing := true
      outcome := some (endReport x o early (finalWrite x.mode o s.seq.slipped s.seq.engaged x.event.key) q) }) rfl
  unfold Machine.endEdit
  dsimp only
  split
  · exact h2.setSeq rfl
  · exact Worked.finalStep (h2.setSeq rfl)

/-- A fault of the running edit. -/
theorem faultEdit (h : Worked s0 s) (c : FaultClass) : Worked s0 (faultEdit c s) := by
  unfold Machine.faultEdit
  split
  · exact h
  · exact .ite h (h.endEdit _ _ _ _)

/-- A fault that in POSTROLL cuts the edit short. -/
theorem faultOrCutShort (h : Worked s0 s) (c : FaultClass) : Worked s0 (faultOrCutShort c s) := by
  unfold Machine.faultOrCutShort
  split
  · exact h
  · exact .ite (h.endEdit _ _ _ _) (h.endEdit _ _ _ _)

/-! ## The reports (R140, R145, R146, R150 to R152) -/

/-- A deck of the edit lost. -/
theorem deckFault (h : Worked s0 s) (p : Port) : Worked s0 (deckFault p s) := by
  unfold Machine.deckFault
  split
  · exact h
  · exact .ite (h.faultOrCutShort _) h

/-- A cue success reported. -/
theorem seqCued (h : Worked s0 s) (p : Port) : Worked s0 (seqCued p s) := .ite (h.setSeq rfl) h

/-- A cue failure reported. -/
theorem seqCueFailed (h : Worked s0 s) (p : Port) (why : CueReason) : Worked s0 (seqCueFailed p why s) := by
  refine .ite ?_ h
  split
  · exact h.faultEdit _
  · exact h.faultEdit _
  · exact h

/-- A change of the recording tracks reported. -/
theorem confirmTracks (h : Worked s0 s) (x : Edit) (k : TrackSet) : Worked s0 (confirmTracks x k s) :=
  .ite h (.ite (.ite (h.setSeq rfl) h) (.ite (h.faultEdit _) h))

/-- A change of condition reported. -/
theorem seqCondition (h : Worked s0 s) (p : Port) (old new : Condition) : Worked s0 (seqCondition p old new s) := by
  have threaded : Worked s0 (if old.threaded ∧ !new.threaded ∧ (s.transport p).state ≠ .standby ∧
      (s.transport p).state ≠ .waking then Machine.deckFault p s else s) := .ite (h.deckFault p) h
  have inhibit : ∀ u, Worked s0 u → Worked s0 (match liveEdit u with
      | some x => if p = x.decks.recorder ∧ new.inhibit ∧ !old.inhibit then Machine.inhibitFault x u else u
      | none => u) := by
    intro u hu
    split
    · exact .ite (.ite (hu.faultOrCutShort _) hu) hu
    · exact hu
  have tracks : ∀ u, Worked s0 u → Worked s0 (match liveEdit u with
      | some x => if p = x.decks.recorder ∧ old.tracks ≠ new.tracks then Machine.confirmTracks x new.tracks u else u
      | none => u) := by
    intro u hu
    split
    · exact .ite (hu.confirmTracks _ _) hu
    · exact hu
  exact tracks _ (inhibit _ threaded)

/-- A report of the chase servo. -/
theorem seqChaseReport (h : Worked s0 s) (r : ChaseReport) : Worked s0 (seqChaseReport r s) := by
  refine .ite h ?_
  split
  · exact h.setSeq rfl
  · exact h.faultEdit _
  · exact h.faultEdit _
  · exact h

/-- The loss of the reference reported. -/
theorem seqReferenceLost (h : Worked s0 s) : Worked s0 (seqReferenceLost s) := by
  unfold Machine.seqReferenceLost
  split
  · exact .ite (h.faultEdit _) h
  · exact h

/-- A cue failure reported to its requester. -/
theorem reportCueFailed (h : Worked s0 s) (f : CueFailure) : Worked s0 (reportCueFailed f s) := by
  unfold Machine.reportCueFailed
  split
  · exact h
  · exact h.seqCueFailed _ _
  · exact h.port (p := f.port) (fun k => k.chaseCueFailed f.reason)

/-! ## The roll and the moments (R140 to R148) -/

/-- The chase records of a roll leave the rest. -/
theorem bare_setSeqChases (x : Edit) (s : State) :
    bare (setSeqChases x s) = bare s ∧ (setSeqChases x s).seq = s.seq := by
  unfold setSeqChases
  dsimp only
  cases x.decks.toPort <;> cases x.decks.fromPort <;> cases fromSource x.event <;> exact ⟨rfl, rfl⟩

/-- The PLAYs of a roll. -/
theorem askPlays (h : Worked s0 s) (x : Edit) : Worked s0 (askPlays x s) := by
  have play : ∀ n : Nat, ∀ s p, Worked s0 s → Worked s0 (seqAct p (.play n) s) :=
    fun n s p hs => hs.port (fun k => k.seqAct (.play n))
  exact ((play 1024 _ _ h).foldl (play _) _).foldl (play 1024) _

/-- The PLAYs of a roll leave the sequencer record. -/
theorem askPlays_seq (x : Edit) (s : State) : (Machine.askPlays x s).seq = s.seq := by
  have play : ∀ (n : Nat) (l : List Port) (u : State), u.seq = s.seq →
      (l.foldl (fun s p => seqAct p (.play n) s) u).seq = s.seq := fun n l u hu =>
    List.foldlRecOn (motive := fun u : State => u.seq = s.seq) l _ hu
      (fun u hu p _ => (onlyDecks_seqAct p (.play n) u).seq.trans hu)
  exact play _ _ _ (play _ _ _ (onlyDecks_seqAct _ _ s).seq)

/-- The roll of an edit. -/
theorem roll (h : Worked s0 s) {x : Edit} (hx : s.seq.copy = some x.event) : Worked s0 (roll x s) := by
  have h1 := h.setSeq (f := fun q => { q with rollFrame := some s.frame }) rfl
  unfold Machine.roll
  dsimp only
  split
  · exact Worked.setSeq (h1.askPlays x) rfl
  · obtain ⟨hb, hs⟩ := bare_setSeqChases x (Machine.setSeq (fun q => { q with rollFrame := some s.frame }) s)
    have h2 := (h1.same hb).askPlays x
    have hc := congrArg Sequencer.copy ((askPlays_seq x _).trans hs)
    refine Worked.setSeq (Worked.armTriggers ?_ _ _ _) rfl
    exact h2.mix (.stage (hc.trans hx) x.decks)

/-- The engage moment. -/
theorem engageMoment (h : Worked s0 s) (x : Edit) : Worked s0 (engageMoment x s) := by
  have engaged : Worked s0 (engage x s) := by
    unfold engage
    exact Worked.setSeq (.ite (h.handCommand _ _) h) rfl
  exact .ite (.ite (h.faultEdit _) (.ite (h.faultEdit _) engaged)) h

/-- The record-in moment. -/
theorem recordInMoment (h : Worked s0 s) (x : Edit) : Worked s0 (recordInMoment x s) :=
  .ite (.ite (h.setSeq rfl) (Worked.startTransition (h.setSeq rfl) _)) h

/-- The confirmation deadline. -/
theorem deadlineMoment (h : Worked s0 s) (x : Edit) : Worked s0 (deadlineMoment x s) := by
  have h1 := h.setSeq (f := fun q => { q with deadlineTaken := true }) rfl
  exact .ite (.ite h1 (h1.faultEdit _)) h

/-- The release moment. -/
theorem releaseMoment (h : Worked s0 s) (x : Edit) : Worked s0 (releaseMoment x s) := by
  have released : Worked s0 (release x s) := by
    unfold release
    exact Worked.setSeq (.ite (h.handCommand _ _) h) rfl
  exact .ite (.ite (h.faultEdit _) released) h

/-- The bound on the engage moment. -/
theorem engageTimeout (h : Worked s0 s) : Worked s0 (engageTimeout s) := .ite (h.faultEdit _) h

/-- The bound on the release moment. -/
theorem releaseTimeout (h : Worked s0 s) (x : Edit) : Worked s0 (releaseTimeout x s) := .ite (h.faultEdit _) h

/-- The completion of an edit. -/
theorem postrollEndWork (h : Worked s0 s) (x : Edit) : Worked s0 (postrollEndWork x s) := .ite (h.endEdit _ _ _ _) h

/-- The recorder's frame given to the GPI unit. -/
theorem gpiMoment (h : Worked s0 s) (x : Edit) : Worked s0 (gpiMoment x s) := .ite (h.testTriggers _) h

/-- The moments of one frame. -/
theorem moments (h : Worked s0 s) (x : Edit) : Worked s0 (moments x s) :=
  (((((((h.engageMoment x).recordInMoment x).deadlineMoment x).releaseMoment x).engageTimeout).releaseTimeout
    x).postrollEndWork x).gpiMoment x

/-- The sequencer's work for a frame. -/
theorem seqFrame (h : Worked s0 s) : Worked s0 (seqFrame s) := by
  unfold Machine.seqFrame
  split
  · exact h
  · rename_i x hx
    have h1 : Worked s0 { s with recorderFrame := recorderPos x s / 64 } := h.same rfl
    exact .ite (.ite (h1.roll (liveEdit_copy hx)) h1) (h1.moments x)

/-! ## Field events (R12 to R17) -/

/-- Failures reported one after another. -/
theorem reportCues {r : State × List CueFailure} (h : Worked s0 r.1) : Worked s0 (reportCues r) :=
  h.foldl (fun _ _ hs => hs.reportCueFailed _) _

/-- The transport controller's work for a frame. -/
theorem transportFrame (h : Worked s0 s) : Worked s0 (transportFrame s) :=
  Worked.reportCues (List.foldlRecOn (motive := fun r : State × List CueFailure => Worked s0 r.1) allPorts _ h
    (fun _ hr p _ => hr.port (p := p) (fun k => k.transportPort)))

/-- The chase servo's work for a frame with its reports. -/
theorem chaseAndReport (h : Worked s0 s) : Worked s0 (chaseAndReport s) := by
  have h1 : Worked s0 (chaseFrame s).1 :=
    List.foldlRecOn (motive := fun r : State × List ChaseReport => Worked s0 r.1) allPorts _ h
      (fun _ hr p _ => hr.port (p := p) (fun k => k.chasePort))
  exact h1.foldl (fun _ _ hs => hs.seqChaseReport _) _

/-- The work of every block for a frame event. -/
theorem frameWork (h : Worked s0 s) : Worked s0 (frameWork s) := by
  have h1 : Worked s0 (trackerFrame (countdownFrame { s with frame := s.frame + 1 })) := h.same rfl
  exact h1.transportFrame.chaseAndReport.seqFrame

/-- A field event. -/
theorem fieldEvent (h : Worked s0 s) (y : Parity) (stopFirst : Bool) : Worked s0 (fieldEvent y stopFirst s) := by
  have hb : Worked s0 { s with ref := { s.ref with parity := y } } := h.same rfl
  have h1 : Worked s0 (indexField { s with ref := { s.ref with parity := y } }) := .ite (hb.setSeq rfl) hb
  have h2 := Worked.gpiField (h1.mix .field)
  unfold Machine.fieldEvent
  dsimp only
  split
  · exact h2
  · exact .ite (.ite (hb.held h2.frameWork) h2.frameWork) h2.frameWork

/-- The loss of the reference. -/
theorem loseReference (h : Worked s0 s) (m : Nat) (lossFirst stopFirst : Bool) :
    Worked s0 (loseReference m lossFirst stopFirst s) := by
  have h1 : Worked s0 { s with ref := { s.ref with state := .lost, goodRun := 0, lastSeen := none, lastField := m } } :=
    h.same rfl
  have field : ∀ u, Worked s0 u →
      Worked s0 (raise (.reference false) (Machine.fieldEvent (otherParity s.ref.parity) stopFirst u)) :=
    fun u hu => (hu.fieldEvent _ _).same rfl
  exact .ite (field _ (.ite h1.seqReferenceLost h1)) (field _ (.ite h1.seqReferenceLost h1)).seqReferenceLost

/-- A pulse while LOST. -/
theorem lostPulse (h : Worked s0 s) (time : Nat) : Worked s0 (lostPulse time s) := .ite (h.same rfl) (h.same rfl)

/-- A field pulse. -/
theorem fieldPulseWork (h : Worked s0 s) (time : Nat) (field1 stopFirst : Bool) :
    Worked s0 (fieldPulseWork time field1 stopFirst s) := by
  have accept : Worked s0 (acceptPulse time field1 stopFirst s) :=
    Worked.fieldEvent (s := { s with ref := { s.ref with lastAccepted := some time } }) (h.same rfl) _ _
  unfold Machine.fieldPulseWork
  split
  · exact h.lostPulse time
  · split
    · exact accept
    · exact .ite ((h.loseReference _ _ _).lostPulse time) (.ite accept h)

/-- The loss timer. -/
theorem referenceLossWork (h : Worked s0 s) (lossFirst stopFirst : Bool) :
    Worked s0 (referenceLossWork lossFirst stopFirst s) := by
  unfold Machine.referenceLossWork
  split
  · exact h.loseReference _ _ _
  · exact h

/-- The restoration by itself. -/
theorem referenceRestoredWork (h : Worked s0 s) : Worked s0 (referenceRestoredWork s) := by
  unfold Machine.referenceRestoredWork
  split
  · exact .ite (h.same rfl) h
  · exact h

/-- A field of the internal timebase. -/
theorem internalFieldWork (h : Worked s0 s) (stopFirst : Bool) : Worked s0 (internalFieldWork stopFirst s) := by
  unfold Machine.internalFieldWork
  split
  · exact Worked.fieldEvent (s := { s with ref := { s.ref with lastField := s.ref.lastField + period s.std } })
      (h.same rfl) _ _
  · exact h

/-! ## The decks (R60 to R69, R76 to R91, R107, R113) -/

/-- A sample accepted as a jump. -/
theorem jump (h : Worked s0 s) (p : Port) (x : Nat) : Worked s0 (jump p x s) := by
  unfold Machine.jump
  dsimp only
  split
  · exact h.same rfl
  · exact h.same rfl

/-- A sample taken. -/
theorem takeSample (h : Worked s0 s) (p : Port) (tested : Bool) (x : Nat) : Worked s0 (takeSample p tested x s) :=
  .ite (h.same rfl) (.ite (h.jump p x) (h.same rfl))

/-- A cue failure told. -/
theorem tellCueFailed (h : Worked s0 s) (p : Port) (why : CueReason) (r : Requester) (n : Nat) (f : Option Nat) :
    Worked s0 (tellCueFailed p why r n f s) :=
  Worked.reportCueFailed (s := raiseCueEnd p (.failed why) r n f s) (h.same rfl) _

/-- The motions of a deck failed. -/
theorem failMotions (h : Worked s0 s) (p : Port) (why : CueReason) : Worked s0 (failMotions p why s) := by
  have h1 : Worked s0 (s.setTransport p { s.transport p with cue := none, motion := none }) := h.same rfl
  have h2 : Worked s0 (match (s.transport p).cue with
      | some c => Machine.tellCueFailed p why c.requester c.attempts c.lastStop
          (s.setTransport p { s.transport p with cue := none, motion := none })
      | none => s.setTransport p { s.transport p with cue := none, motion := none }) := by
    split
    · exact h1.tellCueFailed _ _ _ _ _
    · exact h1
  unfold Machine.failMotions
  dsimp only
  split
  · exact h2.tellCueFailed _ _ _ _ _
  · exact h2

/-- A cue that succeeds. -/
theorem cueSucceeds (h : Worked s0 s) (p : Port) (c : Cue) : Worked s0 (cueSucceeds p c s) := by
  unfold Machine.cueSucceeds
  dsimp only
  split
  · exact h.same rfl
  · refine Worked.seqCued ?_ p
    exact h.same rfl
  · unfold chaseCued
    split
    · exact .ite (h.same rfl) (h.same rfl)
    · exact h.same rfl

/-- The line of a deck down. -/
theorem lineDown (h : Worked s0 s) (p : Port) (st : TransportState) : Worked s0 (lineDown p st s) := by
  have h1 := Worked.failMotions (s := stillDeck p ((enterState p st s).setTransport p
    { (enterState p st s).transport p with wakeCount := 0, wakeTaken := false })) (h.same rfl) p .line
  have h2 := Worked.ite (c := st = .offline) (h1.same (u := forgetPosition p _) rfl) (h1.same (u := removeChase p _) rfl)
  exact .ite (h2.deckFault p) h2

/-- The transport state taken from a mode. -/
theorem stateFromMode (h : Worked s0 s) (p : Port) (m : DeckMode) : Worked s0 (stateFromMode p m s) := by
  have halted : Worked s0 (handTransport p .halt s) := h.port (fun k => k.handTransport rfl (by simp))
  unfold Machine.stateFromMode
  split
  · exact h.same rfl
  · exact h.same rfl
  · exact h.same rfl
  · exact h.same rfl
  · exact halted.same rfl

/-- Tape out. -/
theorem tapeGone (h : Worked s0 s) (p : Port) (c : Condition) : Worked s0 (tapeGone p c s) := by
  have h1 := Worked.failMotions (s := (stillDeck p (enterState p .empty s)).setTransport p
    { (stillDeck p (enterState p .empty s)).transport p with wakeCount := 0 }) (h.same rfl) p .tape
  have h2 := h1.same (u := tapeLost p (raiseDeck p (some c) _)) rfl
  exact .ite (h2.deckFault p) h2

/-- A deck gone to standby unasked. -/
theorem unaskedStandby (h : Worked s0 s) (p : Port) (c : Condition) : Worked s0 (unaskedStandby p c s) := by
  have h1 := Worked.failMotions (s := dropMotionCmds p (stillDeck p (enterState p .standby s))) (h.same rfl) p .standby
  have h2 := h1.same (u := raiseDeck p (some c) _) rfl
  have standby : ∀ u, Worked s0 u → Worked s0 (chaserStandby p u) := by
    intro u hu
    unfold chaserStandby
    split
    · exact .ite (hu.port (p := p) (fun k => k.parkChase (by simp))) hu
    · exact hu
  exact .ite ((standby _ h2).deckFault p) (standby _ h2)

/-- The verify of a stopped deck. -/
theorem verifyCue (h : Worked s0 s) (p : Port) (x : Nat) (c : Cue) : Worked s0 (verifyCue p x c s) := by
  have seek : Worked s0 (handTransport p (.seek c.target) s) := h.port (fun k => k.handTransport rfl (by simp))
  exact .ite (h.cueSucceeds p _) (.ite (seek.same rfl)
    (Worked.reportCueFailed (h.port (p := p) (fun k => k.cueGivenUp .attempts (by simp))) _))

/-- A good reply of a CUEING deck. -/
theorem cueReply (h : Worked s0 s) (p : Port) (kind : CmdKind) (c : Condition) (x : Nat) :
    Worked s0 (cueReply p kind c x s) := by
  unfold Machine.cueReply
  split
  · exact h
  · exact .ite (.ite (h.same rfl) h) (.ite (h.verifyCue p x _) h)

/-- What a good reply's mode does. -/
theorem modeReply (h : Worked s0 s) (p : Port) (kind : CmdKind) (c : Condition) (x : Nat) :
    Worked s0 (modeReply p kind c x s) := by
  unfold Machine.modeReply
  split
  · exact h
  · exact h
  · exact h
  · exact (h.stateFromMode p _).same rfl
  · exact h.tapeGone p c
  · exact h
  · exact .ite (h.same rfl) h
  · exact h.unaskedStandby p c
  · exact h.cueReply p kind c x
  · exact h

/-- The changes of the reported condition. -/
theorem conditionChange (h : Worked s0 s) (p : Port) (old : Option Condition) (new : Condition) :
    Worked s0 (conditionChange p old new s) := by
  unfold Machine.conditionChange
  split
  · exact h
  · rename_i o
    have tell : ∀ u, Worked s0 u → Worked s0 (if u.holder p = .sequencer then Machine.seqCondition p o new u else u) :=
      fun u hu => .ite (hu.seqCondition p o new) hu
    exact tell _ (.ite (h.same rfl) h)

/-- Entry to OFFLINE. -/
theorem goOffline (h : Worked s0 s) (p : Port) : Worked s0 (goOffline p s) :=
  (Worked.lineDown (s := (setLine0 p .offline s).setPort p { (setLine0 p .offline s).port p with countdown := 25 })
    (h.same rfl) p .offline).same rfl

/-- A miss. -/
theorem miss (h : Worked s0 s) (p : Port) (c : DeckCmd) : Worked s0 (miss p c s) := by
  have h1 : Worked s0 (s.setPort p { s.port p with
      misses := min 4 ((s.port p).misses + 1)
      commands := if (s.port p).line = .online then returned c (s.port p).commands else (s.port p).commands }) := h.same rfl
  exact .ite (h1.goOffline p) (h1.port (fun k => k.overrideRelease))

/-- What a good reply's remote flag does. -/
theorem lineReply (h : Worked s0 s) (p : Port) (c : Condition) : Worked s0 (lineReply p c s) := by
  have panel : Worked s0 (raiseDeck p (some c) (Machine.lineDown p .panel (setLine0 p .panel s))) :=
    (Worked.lineDown (s := setLine0 p .panel s) (h.same rfl) p .panel).same rfl
  have online : Worked s0 (raiseDeck p (some c) (Machine.stateFromMode p c.mode (setLine0 p .online s))) :=
    (Worked.stateFromMode (s := setLine0 p .online s) (h.same rfl) p c.mode).same rfl
  unfold Machine.lineReply
  split
  · exact h
  · exact panel
  · exact online
  · exact h
  · exact online
  · exact panel

/-- A tape-out report. -/
theorem tapeOut (h : Worked s0 s) (p : Port) : Worked s0 (tapeOut p s) := by
  unfold Machine.tapeOut
  split
  · exact h
  · split
    · exact (h.reels (.unmount _)).same rfl
    · exact h

/-- The mode and flags of a good reply taken. -/
theorem takeCondition (h : Worked s0 s) (p : Port) (kind : CmdKind) (c : Condition) (x : Nat) :
    Worked s0 (takeCondition p kind c x s) := by
  have h1 : Worked s0 (s.setTransport p { s.transport p with condition := some c }) := h.same rfl
  exact (h1.modeReply p kind c x).conditionChange p _ c

/-- A good reply. -/
theorem goodReply (h : Worked s0 s) (p : Port) (x : Exchange) (c : Condition) (n : Nat) :
    Worked s0 (goodReply p x c n s) := by
  have h1 := Worked.lineReply (s := s.setPort p { s.port p with misses := 0 }) (h.same rfl) p c
  have stored : ∀ u : State, Worked s0 u → Worked s0 (u.setPort p { u.port p with
      lastReply := some { condition := c, position := n, frame := x.frame } }) := fun u hu => hu.same rfl
  have sample : ∀ u, Worked s0 u → Worked s0 (if c.mode = .noTape then u
      else Machine.takeSample p (sampleTested (u.tracker p) (u.transport p)) n u) := fun u hu => .ite hu (hu.takeSample p _ n)
  have out : ∀ u, Worked s0 u → Worked s0 (if c.mode = .noTape then Machine.tapeOut p u else u) :=
    fun u hu => .ite (hu.tapeOut p) hu
  have guarded : ∀ u, Worked s0 u → Worked s0 (recordGuard p x.cmd c u) := fun u hu => .ite (hu.handCommand p .disengage) hu
  exact guarded _ (out _ ((sample _ (stored _ h1)).takeCondition p _ c n))

/-- The outcome of an exchange dealt with. -/
theorem endExchange (h : Worked s0 s) (p : Port) (r : Option (Condition × Nat)) : Worked s0 (endExchange p r s) := by
  have h1 : Worked s0 (closeExchange p s) := h.same rfl
  have load : ∀ u, Worked s0 u → Worked s0 (reload p u) := fun u hu => hu.same rfl
  unfold Machine.endExchange
  split
  · exact h
  · refine load _ ?_
    split
    · exact h1.goodReply p _ _ _
    · exact h1.miss p _

/-- A deck reply. -/
theorem deckReplyWork (h : Worked s0 s) (p : Port) (chars : List LineChar) : Worked s0 (deckReplyWork p chars s) := by
  unfold Machine.deckReplyWork
  split
  · exact h
  · exact h.endExchange p _

/-! ## The sequencer's arms and runs (R138, R139, R163, R164) -/

/-- The hold lookup: the list with the event worked, and the event one of it. -/
theorem holdLookup (h : Worked s0 s) {key : Nat} {e : Event} {t : State} (hl : holdLookup key s = some (e, t)) :
    Worked s0 t ∧ e ∈ t.list.events := by
  obtain ⟨rfl, hf⟩ := holdLookup_eq hl
  exact ⟨h.list (.ahead key), List.mem_of_find?_eq_some hf⟩

/-- The arm of an event of the list. -/
theorem arm (h : Worked s0 s) (m : Mode) {e : Event} (he : e ∈ s.list.events) (d : DeckSet) (run : Option Run) :
    Worked s0 (arm m e d run s) := by
  obtain ⟨-, -, hd⟩ := arm_eq m e d run s
  have h1 : Worked s0 (Machine.setSeq (fun _ => armedRecord m e d run s) s) := h.copied he rfl
  exact h1.same (congrArg bare hd.only :)

/-- The end of a run. -/
theorem endRun (h : Worked s0 s) (why : RunReason) (key : Option Nat) (run : Run) : Worked s0 (endRun why key run s) :=
  h.finalStep.same rfl

/-- The next candidate of a run. -/
theorem nextCandidate (h : Worked s0 s) (run : Run) : Worked s0 (nextCandidate run s) := by
  unfold Machine.nextCandidate
  split
  · exact h.endRun _ _ _
  · rename_i e s1 hl
    obtain ⟨_, -, hl⟩ := Option.bind_eq_some_iff.1 hl
    obtain ⟨h1, he⟩ := h.holdLookup hl
    split
    · exact h1.finalStep.arm _ (by rwa [finalStep_list]) _ _
    · exact h1.copied he rfl

/-- The passage from one edit of a run to the next. -/
theorem passOn (h : Worked s0 s) (o : Option RunReason) (key : Nat) (run : Run) : Worked s0 (passOn o key run s) := by
  unfold Machine.passOn
  split
  · exact h.endRun _ _ _
  · exact h.nextCandidate _

/-- The handed write taken. -/
theorem takeHanded (h : Worked s0 s) (ending : Bool) : Worked s0 (takeHanded ending s) := by
  have taken : ∀ w, Worked s0 (writeTaken w s) := fun w => Worked.setSeq (h.list (.write s.seq.heldKey w)) rfl
  unfold Machine.takeHanded
  split
  · exact h
  · dsimp only
    split
    · exact (taken _).passOn _ _ _
    · exact (taken _).finalStep
  · dsimp only
    split
    · exact (taken _).passOn _ _ _
    · exact (taken _).finalStep

/-- The candidates of RUN. -/
theorem runCandidates (h : Worked s0 s) (moved : Bool) (used : List Byte) (fuel : Nat) (run : Run) :
    Worked s0 (runCandidates moved used fuel run s) := by
  induction fuel generalizing s run with
  | zero => exact h.same rfl
  | succ fuel ih =>
    unfold Machine.runCandidates
    split
    · exact .ite (h.same rfl) (h.same rfl)
    · rename_i e s1 hl
      obtain ⟨_, -, hl⟩ := Option.bind_eq_some_iff.1 hl
      obtain ⟨h1, he⟩ := h.holdLookup hl
      split
      · exact (h1.arm _ he _ _).same rfl
      · have h2 := h1.list (.write (some e.key) (skipWrite e.key (skipClass ‹Reason›)))
        dsimp only
        split
        · exact h2.same rfl
        · exact ih h2 _

/-! ## The requests -/

/-- A single edit request. -/
theorem editOwner (h : Worked s0 s) (m : Mode) (body : List Byte) : Worked s0 (editOwner m body s) := by
  refine .ite (h.same rfl) ?_
  unfold armStep
  split
  · exact h.same rfl
  · rename_i e s1 hl
    obtain ⟨h1, he⟩ := h.holdLookup hl
    split
    · exact h1.same rfl
    · exact (h1.arm _ he _ _).same rfl

/-- RUN from its sixth step on. -/
theorem runStep (h : Worked s0 s) (body : List Byte) : Worked s0 (runStep body s) := by
  unfold Machine.runStep
  split
  · exact .ite (h.same rfl) (h.runCandidates _ _ _ _)
  · exact h.same rfl

/-- RUN. -/
theorem runOwner (h : Worked s0 s) (body : List Byte) : Worked s0 (runOwner body s) := by
  unfold Machine.runOwner
  split
  · exact h.runStep body
  · exact h.same rfl

/-- ABORT. -/
theorem abortOwner (h : Worked s0 s) (body : List Byte) : Worked s0 (abortOwner body s) :=
  .ite (h.same rfl) (.ite (h.same rfl) ((h.faultOrCutShort .abort).same rfl))

/-- INSERT. -/
theorem insertOwner (h : Worked s0 s) (body : List Byte) : Worked s0 (insertOwner body s) := by
  unfold Machine.insertOwner
  dsimp only
  split
  · rename_i hc
    exact (h.list (.insert hc)).same rfl
  · exact h.same rfl

/-- REPLACE. -/
theorem replaceOwner (h : Worked s0 s) (body : List Byte) : Worked s0 (replaceOwner body s) := by
  unfold Machine.replaceOwner
  split
  · rename_i hc
    exact (h.list (.replace hc)).same rfl
  · exact h.same rfl

/-- TRIM. -/
theorem trimOwner (h : Worked s0 s) (body : List Byte) : Worked s0 (trimOwner body s) := by
  unfold Machine.trimOwner
  split
  · rename_i hc
    exact (h.list (.trim hc)).same rfl
  · exact h.same rfl

/-- DELETE. -/
theorem deleteOwner (h : Worked s0 s) (body : List Byte) : Worked s0 (deleteOwner body s) := by
  unfold Machine.deleteOwner
  dsimp only
  split
  · rename_i hc
    exact (h.list (.delete hc)).same rfl
  · exact h.same rfl

/-- CLEAR LIST. -/
theorem clearListOwner (h : Worked s0 s) (body : List Byte) : Worked s0 (clearListOwner body s) := by
  unfold Machine.clearListOwner
  split
  · rename_i hc
    exact (h.list (.clear hc)).same rfl
  · exact h.same rfl

/-- RIPPLE. -/
theorem rippleOwner (h : Worked s0 s) (body : List Byte) : Worked s0 (rippleOwner body s) := by
  unfold Machine.rippleOwner
  dsimp only
  split
  · rename_i hc
    exact (h.list (.ripple hc)).same rfl
  · exact h.same rfl

/-- DEFINE REEL. -/
theorem defineReelOwner (h : Worked s0 s) (body : List Byte) : Worked s0 (defineReelOwner body s) := by
  unfold Machine.defineReelOwner
  dsimp only
  split
  · rename_i i hp
    simp only [check_bind_eq_ok, need_eq_ok, Bool.not_eq_true'] at hp
    obtain ⟨hv, hn, hi⟩ := hp
    exact (h.reels (.define hv hn hi)).same rfl
  · exact h.same rfl

/-- RENAME. -/
theorem renameOwner (h : Worked s0 s) (body : List Byte) : Worked s0 (renameOwner body s) := by
  unfold Machine.renameOwner
  dsimp only
  split
  · rename_i r hp
    obtain ⟨q, hq, hp⟩ := except_bind_eq_ok.1 hp
    simp only [check_bind_eq_ok, pure_eq_ok, Bool.not_eq_true'] at hp
    obtain ⟨hv, hn, rfl⟩ := hp
    exact (h.reels (.rename (definedReel_eq_ok.1 hq) hv hn)).same rfl
  · exact h.same rfl

/-- RETIRE from its fourth step on. -/
theorem retireStep (h : Worked s0 s) (body : List Byte) : Worked s0 (retireStep body s) := by
  unfold Machine.retireStep
  dsimp only
  split
  · split
    · exact h.same rfl
    · rename_i hf
      exact (h.reels (.retire (by simpa using hf))).same rfl
  · exact h.same rfl

/-- RETIRE. -/
theorem retireOwner (h : Worked s0 s) (body : List Byte) : Worked s0 (retireOwner body s) := by
  unfold Machine.retireOwner
  split
  · exact h.retireStep body
  · exact h.same rfl

/-- MOUNT. -/
theorem mountOwner (h : Worked s0 s) (body : List Byte) : Worked s0 (mountOwner body s) := by
  unfold Machine.mountOwner
  dsimp only
  split
  · rename_i r p hp
    simp only [mountChecks, need_bind_eq_ok, check_bind_eq_ok, pure_eq_ok, decide_eq_true_eq] at hp
    obtain ⟨entry, hr, q, -, r', rfl, hq, -, ⟨⟩⟩ := hp
    exact (h.reels (.mount hr hq)).same rfl
  · exact h.same rfl

/-- UNMOUNT. -/
theorem unmountOwner (h : Worked s0 s) (body : List Byte) : Worked s0 (unmountOwner body s) := by
  have cleared : ∀ o : Option Nat, Worked s0 (match o with
      | some i => setMount i none s
      | none => s) := by
    intro o
    split
    · exact h.reels (.unmount _)
    · exact h
  unfold Machine.unmountOwner
  dsimp only
  split
  · exact (cleared _).same rfl
  · exact h.same rfl

/-- A request of the reel table that answers alone. -/
theorem readReelOwner (h : Worked s0 s) (body : List Byte) : Worked s0 (readReelOwner body s) := by
  unfold Machine.readReelOwner
  dsimp only
  split
  · exact h.same rfl
  · exact h.same rfl
  · exact h.same rfl

/-- FIND REEL. -/
theorem findReelOwner (h : Worked s0 s) (body : List Byte) : Worked s0 (findReelOwner body s) := by
  refine .ite (h.same rfl) ?_
  split
  · exact h.same rfl
  · exact h.same rfl

/-- TRANSPORT. -/
theorem transportOwner (h : Worked s0 s) (body : List Byte) : Worked s0 (transportOwner body s) := by
  unfold Machine.transportOwner
  split
  · rename_i p a _
    exact (h.port (fun k => k.act .console a)).same rfl
  · exact h.same rfl

/-- CUE. -/
theorem cueOwner (h : Worked s0 s) (body : List Byte) : Worked s0 (cueOwner body s) := by
  unfold Machine.cueOwner
  split
  · rename_i p n _ _
    exact (h.port (fun k => k.beginCue (p := p) .console (x := n * 64) (by simp))).same rfl
  · exact h.same rfl

/-- A claim by the console. -/
theorem claimAnswer (h : Worked s0 s) (code : Nat) (granted : Bool) (ps : List Port) :
    Worked s0 (claimAnswer code granted ps s) := by
  refine .ite ?_ (h.same rfl)
  have claimed : Worked s0 (claimPorts .console ps s) :=
    h.same (congrArg bare (deckWork_claimPorts ps .console s).only :)
  exact claimed.same rfl

/-- CLAIM SET. -/
theorem claimSetOwner (h : Worked s0 s) (body : List Byte) : Worked s0 (claimSetOwner body s) := by
  unfold Machine.claimSetOwner
  split
  · exact h.same rfl
  · exact h.claimAnswer _ _ _

/-- CLAIM EXCLUSIVE. -/
theorem claimExclusiveOwner (h : Worked s0 s) (body : List Byte) : Worked s0 (claimExclusiveOwner body s) := by
  unfold Machine.claimExclusiveOwner
  split
  · exact h.same rfl
  · exact h.claimAnswer _ _ _

/-- RELEASE SET. -/
theorem releaseSetOwner (h : Worked s0 s) (body : List Byte) : Worked s0 (releaseSetOwner body s) := by
  have release : ∀ u p, Worked s0 u → Worked s0 (releasePort p u) := by
    intro u p hu
    unfold releasePort chaserFreed
    split
    · exact .ite (hu.same rfl) (hu.same rfl)
    · exact hu.same rfl
  unfold Machine.releaseSetOwner
  split
  · exact h.same rfl
  · exact (h.foldl release _).same rfl

/-- CHASE. -/
theorem chaseOwner (h : Worked s0 s) (body : List Byte) : Worked s0 (chaseOwner body s) := by
  unfold Machine.chaseOwner
  dsimp only
  split
  · exact h.same rfl
  · exact h.same rfl

/-- CHASE STOP. -/
theorem chaseStopOwner (h : Worked s0 s) (body : List Byte) : Worked s0 (chaseStopOwner body s) := by
  unfold Machine.chaseStopOwner
  split
  · rename_i p _
    exact (h.port (p := p) (fun k => (k.chaseAct .halt).removeChase)).same rfl
  · exact h.same rfl

/-! ## The settings (R193 to R196) -/

/-- SET SYSTEM. -/
theorem setSystemOwner (h : Worked s0 s) (body : List Byte) : Worked s0 (setSystemOwner body s) := by
  unfold Machine.setSystemOwner
  split
  · rename_i hc
    exact (h.settings (.system hc)).same rfl
  · exact h.same rfl

/-- SET PROFILE. -/
theorem setProfileOwner (h : Worked s0 s) (body : List Byte) : Worked s0 (setProfileOwner body s) := by
  unfold Machine.setProfileOwner
  split
  · exact h.same rfl
  · exact (h.settings (.profile _ _)).same rfl

/-- SET GPI. -/
theorem setGpiOwner (h : Worked s0 s) (body : List Byte) : Worked s0 (setGpiOwner body s) := by
  unfold Machine.setGpiOwner
  split
  · exact h.same rfl
  · rename_i l _
    have h1 := h.settings (.gpi l (gpiOf (byteAt body 1)))
    have configured : Worked s0 (setGpiConfig l (gpiOf (byteAt body 1)) s) := .ite h1 (h1.setLine l (by simp))
    exact .ite (h.same rfl) (configured.same rfl)

/-- STORE SETTINGS. -/
theorem storeSettingsOwner (h : Worked s0 s) (body : List Byte) : Worked s0 (storeSettingsOwner body s) :=
  .ite (h.same rfl) ((h.settings .store).same rfl)

/-- The end of a store. -/
theorem storeEndWork (h : Worked s0 s) (stop : Option StoreStop) : Worked s0 (storeEndWork stop s) := by
  unfold Machine.storeEndWork
  split
  · exact h
  · exact (h.settings .stored).same rfl

/-! ## RESET and the end of a ripple chunk (R49, R53, R192) -/

/-- A deck's part of RESET. -/
theorem resetDeck (h : Worked s0 s) (p : Port) : Worked s0 (resetDeck p s) := by
  have h1 : Worked s0 (s.setTransport p { s.transport p with cue := none, standbyTimer := 0 }) := h.same rfl
  unfold Machine.resetDeck
  dsimp only
  split
  · exact h1
  · exact h1
  · exact h1
  · exact h1
  · exact h1.same rfl
  · exact h1.port (fun k => (k.handTransport rfl (by simp)).enterState _)

/-- RESET with no ripple in flight. -/
theorem resetRest (h : Worked s0 s) : Worked s0 (resetRest s) := by
  have h1 := (h.faultOrCutShort .abort).takeHanded true
  have h2 : Worked s0 (resetDisengage (Machine.takeHanded true (abortEdit s))) := by
    unfold resetDisengage
    split
    · exact h1.handCommand _ _
    · exact h1
  have decks : ∀ u, Worked s0 u → Worked s0 (resetDecks u) := fun u hu =>
    (hu.foldl (f := fun s p => Machine.resetDeck p (s.setHolder p .free))
      (fun v p hv => Worked.resetDeck (s := v.setHolder p .free) (hv.same rfl) p) allPorts).same rfl
  exact (((decks _ h2).mix .black).lines (v := .const none) (fun l f hf => by simp at hf)).same rfl

/-- RESET. -/
theorem resetOwner (h : Worked s0 s) (body : List Byte) : Worked s0 (resetOwner body s) :=
  .ite ((h.faultOrCutShort .abort).same rfl) h.resetRest

/-- TAKE NOTICE. -/
theorem takeNoticeOwner (h : Worked s0 s) (body : List Byte) : Worked s0 (takeNoticeOwner body s) := by
  unfold Machine.takeNoticeOwner
  split
  · exact h.same rfl
  · exact h.same rfl

/-- The lookups of the list answer alone. -/
theorem lookup (h : Worked s0 s) (body : List Byte) : Worked s0 (readByPositionOwner body s) ∧
    Worked s0 (readByKeyOwner body s) ∧ Worked s0 (findOwner body s) := by
  unfold readByPositionOwner readByKeyOwner findOwner
  refine ⟨?_, ?_, ?_⟩
  · dsimp only
    split
    · exact h.same rfl
    · exact h.same rfl
  · dsimp only
    split
    · exact h.same rfl
    · exact h.same rfl
  · split
    · exact h.same rfl
    · exact h.same rfl

/-- A request that waited taken up. -/
theorem takeUp (h : Worked s0 s) (w : Waiting) : Worked s0 (takeUp w s) := by
  obtain ⟨position, key, find⟩ := h.lookup w.body
  unfold Machine.takeUp
  split
  · exact position
  · exact key
  · exact find
  · exact h.same rfl
  · exact h.insertOwner _
  · exact h.replaceOwner _
  · exact h.trimOwner _
  · exact h.deleteOwner _
  · exact h.clearListOwner _
  · exact h.rippleOwner _
  · exact h.retireStep _
  · exact h.readReelOwner _
  · exact h.findReelOwner _
  · exact h.editOwner _ _
  · exact h.editOwner _ _
  · exact h.editOwner _ _
  · exact h.runStep _
  · exact .ite h h.resetRest
  · exact h

/-- The end of a chunk. -/
theorem rippleChunkEndWork (h : Worked s0 s) (sequencerFirst : Bool) :
    Worked s0 (rippleChunkEndWork sequencerFirst s) := by
  have waiting : ∀ u, Worked s0 u → Worked s0 (takeWaiting u) := by
    intro u hu
    unfold takeWaiting
    split
    · exact hu.takeUp _
    · exact hu
  have both : ∀ u, Worked s0 u → Worked s0 (takeBoth sequencerFirst u) :=
    fun u hu => .ite (waiting _ (hu.takeHanded _)) ((waiting _ hu).takeHanded _)
  have h1 : Worked s0 { s with list := workChunk s.list } := h.list .chunk
  exact .ite (both _ (.ite h1 (h1.same rfl))) h

/-! ## The other timed steps (log entry 9) -/

/-- SEQUENCER_ROLL. -/
theorem sequencerRollWork (h : Worked s0 s) : Worked s0 (sequencerRollWork s) := by
  unfold Machine.sequencerRollWork
  split
  · rename_i x hx
    exact .ite (Worked.roll (s := { s with recorderFrame := recorderPos x s / 64 }) (h.same rfl) (liveEdit_copy hx)) h
  · exact h

/-- RELEASE_TIMEOUT. -/
theorem releaseTimeoutWork (h : Worked s0 s) : Worked s0 (releaseTimeoutWork s) := by
  unfold Machine.releaseTimeoutWork
  split
  · exact h.releaseTimeout _
  · exact h

/-- POSTROLL_END. -/
theorem postrollEndCommand (h : Worked s0 s) : Worked s0 (postrollEndCommand s) := by
  unfold Machine.postrollEndCommand
  split
  · exact h.postrollEndWork _
  · exact h

/-- FLIP_FLOP. -/
theorem flipFlopWork (h : Worked s0 s) : Worked s0 (flipFlopWork s) := by
  unfold Machine.flipFlopWork
  split
  · exact .ite (h.mix .flip) h
  · exact h

/-- GPI_PULSE_END. -/
theorem gpiPulseEndWork (h : Worked s0 s) (l : Line) : Worked s0 (gpiPulseEndWork l s) := by
  unfold Machine.gpiPulseEndWork
  split
  · exact .ite (h.setLine l (by simp)) h
  · exact h

/-- POLL_MOMENT. -/
theorem pollWork (h : Worked s0 s) (p : Port) : Worked s0 (pollWork p s) := .ite (h.same rfl) h

/-! ## Every command -/

/-- A command's work. -/
theorem work {f : State → State} {t : State} (hf : ∀ u, Worked s u → Worked s (f u)) (ht : work f s = .next t) :
    Worked s t := by
  obtain rfl : (if s.inReset then s else shortenPolls (f s)) = t := by simpa [Machine.work] using ht
  exact .ite .start ((hf s .start).same rfl)

/-- A request. -/
theorem request {code : Nat} {fits : List Byte → Bool} {waits : List Byte → State → Bool}
    {owner : List Byte → State → State} {body : List Byte} {t : State} (ho : ∀ u, Worked s u → Worked s (owner body u))
    (ht : request code fits waits owner body s = .next t) : Worked s t := by
  have taken : Worked s (taken body s) := Worked.start.same rfl
  rw [request_eq] at ht
  split at ht
  · obtain rfl := Host.Outcome.next.inj ht
    exact Worked.start.same rfl
  · split at ht
    · obtain rfl := Host.Outcome.next.inj ht
      exact Worked.start.same rfl
    · split at ht
      · obtain rfl := Host.Outcome.next.inj ht
        exact Worked.start.same rfl
      · obtain rfl := Host.Outcome.next.inj ht
        exact (ho _ taken).same rfl

/-- Every command but the end of the settings load is such work. -/
theorem exec {c : Instr} {t : State} (hc : ∀ read time, c ≠ .settingsLoadEnd read time) (ht : exec c s = .next t) :
    Worked s t := by
  cases c with
  | hardwareReset =>
    obtain rfl := Host.Outcome.next.inj ht
    exact Worked.hardwareReset.same rfl
  | settingsLoadEnd read time => exact absurd rfl (hc read time)
  | fieldPulse time field1 stopFirst => exact work (fun _ h => h.fieldPulseWork time field1 stopFirst) ht
  | referenceRestored => exact work (fun _ h => h.referenceRestoredWork) ht
  | referenceLoss lossFirst stopFirst => exact work (fun _ h => h.referenceLossWork lossFirst stopFirst) ht
  | goodFieldTimeout =>
    refine work (fun u h => ?_) ht
    unfold goodFieldTimeoutWork
    split
    · exact h.same rfl
    · exact h
  | internalField stopFirst => exact work (fun _ h => h.internalFieldWork stopFirst) ht
  | sequencerRoll => exact work (fun _ h => h.sequencerRollWork) ht
  | engageTimeout => exact work (fun _ h => h.engageTimeout) ht
  | releaseTimeout => exact work (fun _ h => h.releaseTimeoutWork) ht
  | postrollEnd => exact work (fun _ h => h.postrollEndCommand) ht
  | statusWrite => exact work (fun _ h => .ite h (h.takeHanded false)) ht
  | rippleChunkEnd sequencerFirst => exact work (fun _ h => h.rippleChunkEndWork sequencerFirst) ht
  | flipFlop => exact work (fun _ h => h.flipFlopWork) ht
  | gpiPulseEnd line => exact work (fun _ h => h.gpiPulseEndWork line) ht
  | pollMoment port => exact work (fun _ h => h.pollWork port) ht
  | deckReply port chars => exact work (fun _ h => h.deckReplyWork port chars) ht
  | replyTimeout port => exact work (fun _ h => h.endExchange port none) ht
  | portOffline port => exact work (fun _ h => .ite (h.goOffline port) h) ht
  | sampleJump port sample => exact work (fun _ h => .ite (h.jump port _) h) ht
  | cueTimeout port => exact work (fun _ h => Worked.reportCues (h.port (p := port) (fun k => k.cueTimesOut))) ht
  | wakeEnd port => exact work (fun _ h => .ite (h.port (p := port) (fun k => k.endWake)) h) ht
  | standbyTimeout port => exact work (fun _ h => .ite (h.port (p := port) (fun k => k.sendToStandby)) h) ht
  | fetch clocked =>
    obtain rfl := Host.Outcome.next.inj ht
    exact .ite (Worked.start.same rfl) (Worked.start.same rfl)
  | unknownRequest code body => exact request (fits := fun _ => false) (owner := fun _ s => s) (body := body) (fun _ h => h) ht
  | readByPosition body => exact request (fun _ h => (h.lookup body).1) ht
  | readByKey body => exact request (fun _ h => (h.lookup body).2.1) ht
  | find body => exact request (fun _ h => (h.lookup body).2.2) ht
  | listStatus body => exact request (owner := listStatusOwner) (body := body) (fun _ h => h.same rfl) ht
  | insert body => exact request (fun _ h => h.insertOwner body) ht
  | replace body => exact request (fun _ h => h.replaceOwner body) ht
  | trim body => exact request (fun _ h => h.trimOwner body) ht
  | delete body => exact request (fun _ h => h.deleteOwner body) ht
  | clearList body => exact request (fun _ h => h.clearListOwner body) ht
  | ripple body => exact request (fun _ h => h.rippleOwner body) ht
  | portStatus body =>
    refine request (owner := portStatusOwner) (body := body) (fun u h => ?_) ht
    unfold portStatusOwner
    split <;> exact h.same rfl
  | transport body => exact request (fun _ h => h.transportOwner body) ht
  | cue body => exact request (fun _ h => h.cueOwner body) ht
  | transportStatus body =>
    refine request (owner := transportStatusOwner) (body := body) (fun u h => ?_) ht
    unfold transportStatusOwner
    split <;> exact h.same rfl
  | claimSet body => exact request (fun _ h => h.claimSetOwner body) ht
  | claimExclusive body => exact request (fun _ h => h.claimExclusiveOwner body) ht
  | testSet body =>
    refine request (owner := testSetOwner) (body := body) (fun u h => ?_) ht
    unfold testSetOwner
    split <;> exact h.same rfl
  | releaseSet body => exact request (fun _ h => h.releaseSetOwner body) ht
  | defineReel body => exact request (fits := (nameFits · 0)) (fun _ h => h.defineReelOwner body) ht
  | rename body => exact request (fits := (nameFits · 1)) (fun _ h => h.renameOwner body) ht
  | retire body => exact request (fun _ h => h.retireOwner body) ht
  | mount body => exact request (fun _ h => h.mountOwner body) ht
  | unmount body => exact request (fun _ h => h.unmountOwner body) ht
  | readReel body => exact request (fun _ h => h.readReelOwner body) ht
  | findReel body => exact request (fits := (nameFits · 0)) (fun _ h => h.findReelOwner body) ht
  | mountTable body => exact request (owner := mountTableOwner) (body := body) (fun _ h => h.same rfl) ht
  | chase body => exact request (fun _ h => h.chaseOwner body) ht
  | chaseStop body => exact request (fun _ h => h.chaseStopOwner body) ht
  | trackStatus body =>
    refine request (owner := trackStatusOwner) (body := body) (fun u h => ?_) ht
    unfold trackStatusOwner
    split <;> exact h.same rfl
  | perform body => exact request (fun _ h => h.editOwner .perform body) ht
  | preview body => exact request (fun _ h => h.editOwner .preview body) ht
  | review body => exact request (fun _ h => h.editOwner .review body) ht
  | abort body => exact request (fun _ h => h.abortOwner body) ht
  | sequencerStatus body => exact request (owner := sequencerStatusOwner) (body := body) (fun _ h => h.same rfl) ht
  | run body => exact request (fun _ h => h.runOwner body) ht
  | runStatus body => exact request (owner := runStatusOwner) (body := body) (fun _ h => h.same rfl) ht
  | outputStatus body => exact request (owner := outputStatusOwner) (body := body) (fun _ h => h.same rfl) ht
  | takeNotice body => exact request (fun _ h => h.takeNoticeOwner body) ht
  | reset body => exact request (fun _ h => h.resetOwner body) ht
  | setSystem body => exact request (fun _ h => h.setSystemOwner body) ht
  | setProfile body => exact request (fun _ h => h.setProfileOwner body) ht
  | setGpi body => exact request (fun _ h => h.setGpiOwner body) ht
  | readSettings body =>
    refine request (owner := readSettingsOwner) (body := body) (fun u h => ?_) ht
    unfold readSettingsOwner
    split <;> exact h.same rfl
  | storeSettings body => exact request (fun _ h => h.storeSettingsOwner body) ht
  | storeEnd stop => exact work (fun _ h => h.storeEndWork stop) ht
  | selectAsserted =>
    obtain rfl := Host.Outcome.next.inj ht
    exact Worked.start.same rfl

/-- Work after work. -/
theorem trans {t u : State} (h : Worked s t) (k : Worked t u) : Worked s u := by
  induction k with
  | start => exact h
  | same _ hu ih => exact ih.same hu
  | list _ hl ih => exact ih.list hl
  | reels _ hu ih => exact ih.reels hu
  | settings _ hu ih => exact ih.settings hu
  | mix _ hm ih => exact ih.mix hm
  | held _ _ ih ik => exact ih.held ik
  | lines _ hv ih => exact ih.lines hv
  | copied _ he hf ih => exact ih.copied he hf
  | uncopied _ hf ih => exact ih.uncopied hf
  | hardwareReset => exact .hardwareReset

end
end Worked

/-- A step is such work, or it ends the settings load, which puts the settings alone (R195). -/
theorem step_worked {s t : State} (h : step s = .next t) :
    Worked s t ∨ s.inReset = true ∧ ∃ read, bare t = bare { s with live := (loadOutcome read).1 } := by
  unfold step at h
  split at h
  · obtain rfl := Host.Outcome.next.inj h
    exact .inl .start
  · rename_i c rest _
    have hs : Worked s { s with pending := rest } := Worked.start.same rfl
    by_cases hc : ∃ read time, c = .settingsLoadEnd read time
    · obtain ⟨read, time, rfl⟩ := hc
      obtain rfl := Host.Outcome.next.inj h
      unfold loadEndWork
      split
      · rename_i hin
        exact .inr ⟨hin, read, rfl⟩
      · exact .inl hs
    · exact .inl (hs.trans (Worked.exec (fun read time he => hc ⟨read, time, he⟩) h))

end Sys2Proof.Machine
end

-- ==== What is seen of the list after a write, a chunk or a member worked ahead ====
section
/-! A member worked ahead and a chunk leave what is seen of the list; a status write is seen at its event alone (R27, R49 to
R51, R53). -/

namespace Sys2Proof.Machine

/-! ## What the view is after a write, a chunk or a member worked ahead (R49 to R51) -/

/-- An event that is no unworked member is seen as it is stored. -/
theorem seen_worked {l : ListUnit} {e : Event} (h : ∀ r ∈ l.ripple, unworked r e.key = false) : seen l e = e := by
  unfold seen
  split
  · rename_i r hr
    rw [if_neg (by simp [h r hr])]
  · rfl

/-- An unworked member lies past the frontier and not among the worked-ahead ones. -/
theorem unworked_iff {r : Ripple} {k : Nat} : unworked r k = true ↔ k ∈ r.members.drop r.frontier ∧ k ∉ r.ahead := by
  simp [unworked]

/-- A key worked ahead is no unworked member afterwards. -/
theorem workAhead_worked (k : Nat) (l : ListUnit) : ∀ r ∈ (workAhead k l).ripple, unworked r k = false := by
  intro r hr
  unfold workAhead at hr
  split at hr
  · split at hr
    · obtain rfl := Option.some.inj hr
      simp [unworked]
    · rename_i r' hr' hu
      obtain rfl : r' = r := Option.some.inj (hr'.symm.trans hr)
      simpa using hu
  · rename_i hn
    rw [hn] at hr
    cases hr

/-- A member worked ahead is seen as before, and so is every other event (R51). -/
theorem viewEvents_workAhead (k : Nat) (l : ListUnit) : viewEvents (workAhead k l) = viewEvents l := by
  unfold workAhead
  split
  · rename_i r hr
    split
    · rename_i hu
      unfold viewEvents updateKey
      rw [List.map_map]
      refine List.map_congr_left fun e _ => ?_
      by_cases he : e.key = k
      · subst he
        have h1 : (shiftEvent r.delta e).key = e.key := rfl
        simp only [Function.comp_apply, seen, hr, hu, if_true, h1]
        rw [if_neg (by simp [unworked])]
      · have h1 : unworked { r with ahead := k :: r.ahead } e.key = unworked r e.key := by
          simp [unworked, he]
        simp only [Function.comp_apply, seen, hr, if_neg he, h1]
    · rfl
  · rfl

/-- What a status write makes of its event (R27). -/
def writtenEvent (held : Option Nat) (w : StatusWrite) (e : Event) : Event := writePreviewed held w (writeStatus held w e)

/-- A status write changes the status and the previewed flag alone (R27, R55). -/
theorem frozenFields_writtenEvent (held : Option Nat) (w : StatusWrite) (e : Event) :
    frozenFields (writtenEvent held w e) = frozenFields e := by
  have hp : ∀ f, frozenFields (writePreviewed held w f) = frozenFields f := by
    intro f
    unfold writePreviewed
    split <;> rfl
  refine (hp _).trans ?_
  unfold writeStatus
  split
  · rfl
  · rfl
  · split <;> rfl
  · split <;> rfl
  · rfl

/-- It keeps the key. -/
theorem writtenEvent_key (held : Option Nat) (w : StatusWrite) (e : Event) : (writtenEvent held w e).key = e.key :=
  (congrArg Event.key (frozenFields_writtenEvent held w e) :)

/-- A status write is seen at the event it names, and nowhere else (R27, R51). -/
theorem viewEvents_takeWrite (held : Option Nat) (w : StatusWrite) (l : ListUnit) :
    viewEvents (takeWrite held w l) = updateKey w.key (writtenEvent held w) (viewEvents l) := by
  rw [← viewEvents_workAhead w.key l]
  unfold viewEvents updateKey
  simp only [takeWrite, updateKey, List.map_map]
  refine List.map_congr_left fun e _ => ?_
  have hseen : ∀ f, seen { workAhead w.key l with events := (workAhead w.key l).events.map (fun e =>
      if e.key = w.key then writePreviewed held w (writeStatus held w e) else e) } f = seen (workAhead w.key l) f :=
    fun _ => rfl
  simp only [Function.comp_apply, seen_key]
  by_cases he : e.key = w.key
  · have hw := workAhead_worked w.key l
    rw [if_pos he, if_pos he, seen_worked (e := e) (by rwa [he])]
    refine seen_worked (e := writtenEvent held w e) ?_
    rw [writtenEvent_key, he]
    exact hw
  · rw [if_neg he, if_neg he]
    rfl

/-- The members of a chunk and those after it make up those from the frontier on. -/
theorem mem_drop_frontier {r : Ripple} {k : Nat} :
    k ∈ r.members.drop r.frontier ↔ k ∈ chunkMembers r ∨ k ∈ r.members.drop (r.frontier + (chunkMembers r).length) := by
  have h : r.members.drop r.frontier = chunkMembers r ++ r.members.drop (r.frontier + (chunkMembers r).length) := by
    unfold chunkMembers
    rw [← List.drop_drop, List.length_take]
    conv_lhs => rw [← List.take_append_drop 16 (r.members.drop r.frontier)]
    congr 1
    by_cases hl : 16 ≤ (r.members.drop r.frontier).length
    · rw [Nat.min_eq_left hl]
    · rw [Nat.min_eq_right (by omega), List.drop_of_length_le (by omega), List.drop_of_length_le (Nat.le_refl _)]
  rw [h, List.mem_append]

/-- A member of a chunk does not come again after it. -/
theorem not_mem_after_chunk {r : Ripple} (h : r.members.Nodup) {k : Nat} (hk : k ∈ chunkMembers r) :
    k ∉ r.members.drop (r.frontier + (chunkMembers r).length) := by
  have hd : (r.members.drop r.frontier).Nodup := h.sublist (List.drop_sublist _ _)
  have hs := List.take_append_drop 16 (r.members.drop r.frontier)
  rw [← hs, List.nodup_append] at hd
  obtain ⟨-, -, hd⟩ := hd
  intro hk'
  refine hd k hk k ?_ rfl
  rw [List.drop_drop]
  have hlen : (chunkMembers r).length ≤ 16 := by simp [chunkMembers]
  unfold chunkMembers at hk'
  by_cases hl : 16 ≤ (r.members.drop r.frontier).length
  · rwa [List.length_take, Nat.min_eq_left hl] at hk'
  · rw [List.length_take, Nat.min_eq_right (by omega), List.length_drop,
      List.drop_of_length_le (by rw [List.length_drop] at hl; omega)] at hk'
    simp at hk'

/-- The chunk is the last when no more than its sixteen members are left. -/
theorem last_chunk_iff (r : Ripple) :
    r.members.length ≤ r.frontier + (chunkMembers r).length ↔ r.members.length ≤ r.frontier + 16 := by
  simp only [chunkMembers, List.length_take, List.length_drop]
  omega

/-- A chunk that is not the last has sixteen members. -/
theorem chunkMembers_length {r : Ripple} (h : ¬ r.members.length ≤ r.frontier + 16) : (chunkMembers r).length = 16 := by
  simp only [chunkMembers, List.length_take, List.length_drop]
  omega

/-- The list after a chunk (R49, R53). -/
theorem workChunk_eq {l : ListUnit} {r : Ripple} (h : l.ripple = some r) : workChunk l = { l with
    events := l.events.map (fun e =>
      if e.key ∈ chunkMembers r ∧ e.key ∉ r.ahead then shiftEvent r.delta e else e)
    ripple := if r.members.length ≤ r.frontier + 16 then none
      else some { r with frontier := r.frontier + 16, ahead := r.ahead.filter (fun k => k ∉ chunkMembers r) } } := by
  unfold workChunk
  simp only [h]
  have hev : ∀ e : Event, (if (chunkMembers r).contains e.key && !r.ahead.contains e.key then shiftEvent r.delta e else e)
      = if e.key ∈ chunkMembers r ∧ e.key ∉ r.ahead then shiftEvent r.delta e else e := by
    intro e
    simp
  simp only [hev]
  by_cases hl : r.members.length ≤ r.frontier + 16
  · rw [if_pos hl, if_pos ((last_chunk_iff r).2 hl)]
  · rw [if_neg hl, if_neg (fun k => hl ((last_chunk_iff r).1 k)), chunkMembers_length hl]
    simp

/-- The last chunk leaves the list as it was seen (R53). -/
theorem workChunk_last {l : ListUnit} {r : Ripple} (h : l.ripple = some r) (hl : r.members.length ≤ r.frontier + 16) :
    workChunk l = { l with events := viewEvents l, ripple := none } := by
  rw [workChunk_eq h, if_pos hl]
  congr 1
  refine List.map_congr_left fun e _ => ?_
  have hd : r.members.drop (r.frontier + (chunkMembers r).length) = [] :=
    List.drop_of_length_le ((last_chunk_iff r).2 hl)
  have hm : e.key ∈ r.members.drop r.frontier ↔ e.key ∈ chunkMembers r := by
    rw [mem_drop_frontier, hd]
    simp
  simp only [seen, h, unworked_iff, hm]

/-- A chunk leaves what is seen of the list (R50). -/
theorem viewEvents_workChunk {l : ListUnit} (h : ∀ r ∈ l.ripple, r.members.Nodup) :
    viewEvents (workChunk l) = viewEvents l := by
  cases hr : l.ripple with
  | none =>
    unfold workChunk
    rw [hr]
  | some r =>
    by_cases hl : r.members.length ≤ r.frontier + 16
    · rw [workChunk_last hr hl]
      exact viewEvents_eq_events rfl
    · have hn := h r hr
      rw [workChunk_eq hr, if_neg hl]
      unfold viewEvents
      rw [List.map_map]
      refine List.map_congr_left fun e _ => ?_
      have hmem := mem_drop_frontier (r := r) (k := e.key)
      rw [chunkMembers_length hl] at hmem
      by_cases hc : e.key ∈ chunkMembers r
      · have hafter := not_mem_after_chunk hn hc
        rw [chunkMembers_length hl] at hafter
        by_cases ha : e.key ∈ r.ahead
        · simp [seen, hr, unworked_iff, hc, ha, hafter]
        · have hkey : (shiftEvent r.delta e).key = e.key := rfl
          simp [seen, hr, unworked_iff, hc, ha, hafter, hmem, hkey]
      · have hahead : e.key ∈ r.ahead.filter (fun k => k ∉ chunkMembers r) ↔ e.key ∈ r.ahead := by simp [hc]
        simp only [Function.comp_apply, seen, hr, unworked_iff, hc, false_and, if_false, hmem, false_or, hahead]

end Sys2Proof.Machine
end

-- ==== The list as seen, right: its parts ====
section
/-! What makes the list right as it is seen (R20 to R25, R44), taken apart; and that shifts, status writes, chunks and the
events of received records keep each part. -/

namespace Sys2Proof.Machine

/-! ## Events that are right apart from their order (R20 to R25) -/

/-- At most 511 events with different keys, exclusive on every track and every field in its range (R20 to R25). -/
structure EventsRight (std : FrameStd) (es : List Event) : Prop where
  few : es.length ≤ 511
  keys : (es.map Event.key).Nodup
  exclusive : es.Pairwise (fun a b => conflicts a b = false)
  range : ∀ e ∈ es, RangeRight std e ∧ FieldsRight std e

/-- The list is right when the events seen are, in the order of R23, with the key counter and the ripple record. -/
theorem listRight_iff {std : FrameStd} {l : ListUnit} :
    ListRight std l ↔ (1 ≤ l.keyCounter ∧ l.keyCounter ≤ 4095) ∧ EventsRight std (viewEvents l)
      ∧ (viewEvents l).Pairwise (fun a b => comesBefore a b = true) ∧ ∀ r ∈ l.ripple, RippleRight l r := by
  have hlen : (viewEvents l).length = l.events.length := List.length_map _
  constructor
  · rintro ⟨hfew, h1, h2, hkeys, hsort, hexcl, hrange, hr⟩
    exact ⟨⟨h1, h2⟩, ⟨hlen ▸ hfew, by rwa [viewEvents_keys], hexcl, hrange⟩, hsort, hr⟩
  · rintro ⟨⟨h1, h2⟩, ⟨hfew, hkeys, hexcl, hrange⟩, hsort, hr⟩
    exact ⟨hlen ▸ hfew, h1, h2, by rwa [viewEvents_keys] at hkeys, hsort, hexcl, hrange, hr⟩

/-- Conflict has no direction (R24). -/
theorem conflicts_comm (a b : Event) : conflicts a b = conflicts b a := by
  unfold conflicts
  rw [BitVec.and_comm, Bool.and_assoc, Bool.and_assoc, Bool.and_comm (decide (a.recIn < b.recOut))]

namespace EventsRight

section
variable {std : FrameStd} {es fs : List Event}

/-- The order does not matter. -/
theorem perm (h : EventsRight std es) (hp : es.Perm fs) : EventsRight std fs where
  few := hp.length_eq ▸ h.few
  keys := (hp.map Event.key).nodup_iff.1 h.keys
  exclusive := (hp.pairwise_iff fun hab => by rwa [conflicts_comm]).1 h.exclusive
  range e he := h.range e (hp.mem_iff.2 he)

/-- A part of the events. -/
theorem sublist (h : EventsRight std es) (hs : fs.Sublist es) : EventsRight std fs where
  few := hs.length_le.trans h.few
  keys := h.keys.sublist (hs.map _)
  exclusive := h.exclusive.sublist hs
  range e he := h.range e (hs.subset he)

/-- One more event. -/
theorem cons {e : Event} (h : EventsRight std es) (hl : es.length < 511) (hk : e.key ∉ es.map Event.key)
    (hc : clear e es = true) (he : RangeRight std e) (hf : FieldsRight std e) : EventsRight std (e :: es) where
  few := hl
  keys := List.nodup_cons.2 ⟨hk, h.keys⟩
  exclusive := List.pairwise_cons.2 ⟨clear_iff.1 hc, h.exclusive⟩
  range := List.forall_mem_cons.2 ⟨⟨he, hf⟩, h.range⟩

/-- Status, fault class and previewed flag do not matter. -/
theorem iff_frozen : EventsRight std es ↔ EventsRight std (es.map frozenFields) := by
  have hk : (es.map frozenFields).map Event.key = es.map Event.key := by
    rw [List.map_map]
    rfl
  have he : (es.map frozenFields).Pairwise (fun a b => conflicts a b = false)
      ↔ es.Pairwise (fun a b => conflicts a b = false) := List.pairwise_map
  exact ⟨fun ⟨h1, h2, h3, h4⟩ => ⟨by simpa using h1, hk ▸ h2, he.2 h3, List.forall_mem_map.2 h4⟩,
    fun ⟨h1, h2, h3, h4⟩ => ⟨by simpa using h1, hk ▸ h2, he.1 h3, List.forall_mem_map.1 h4⟩⟩

/-- Events that differ from these in status, fault class and previewed flag alone. -/
theorem frozen (h : EventsRight std es) (he : es.map frozenFields = fs.map frozenFields) : EventsRight std fs :=
  iff_frozen.2 (he ▸ iff_frozen.1 h)

end
end EventsRight

/-! ## A shift of some events (R44, R45) -/

/-- Two events shifted alike conflict as before. -/
theorem conflicts_shiftEvent {d : Int} {a b : Event} (ha : 0 ≤ (a.recIn : Int) + d) (hb : 0 ≤ (b.recIn : Int) + d) :
    conflicts (shiftEvent d a) (shiftEvent d b) = conflicts a b := by
  have h1 : (shiftEvent d a).recIn < (shiftEvent d b).recOut ↔ a.recIn < b.recOut := by
    simp only [shiftEvent, renew, shiftTime]
    omega
  have h2 : (shiftEvent d b).recIn < (shiftEvent d a).recOut ↔ b.recIn < a.recOut := by
    simp only [shiftEvent, renew, shiftTime]
    omega
  unfold conflicts
  simp only [h1, h2]
  rfl

/-- An event shifted within the day keeps its range right. -/
theorem rangeRight_shiftEvent {std : FrameStd} {d : Int} {e : Event} (h : RangeRight std e)
    (h0 : 0 ≤ (e.recIn : Int) + d) (h1 : (e.recOut : Int) + d ≤ fday std) : RangeRight std (shiftEvent d e) := by
  obtain ⟨hk1, hk2, hlt, -, hd⟩ := h
  have hin : (shiftEvent d e).recIn = ((e.recIn : Int) + d).toNat := rfl
  have hout : (shiftEvent d e).recOut = ((e.recOut : Int) + d).toNat := rfl
  refine ⟨hk1, hk2, by omega, by omega, fun n hn => ?_⟩
  have := hd n hn
  omega

/-- The tests of a shift: every member within the day. -/
theorem shiftsInBounds_iff {std : FrameStd} {d : Int} {ms : List Event} : shiftsInBounds std d ms = true ↔
    ∀ e ∈ ms, 0 ≤ (e.recIn : Int) + d ∧ (e.recOut : Int) + d ≤ fday std := by
  simp [shiftsInBounds]

/-- Some of the events shifted, within the day and clear of the others. -/
theorem EventsRight.shift {std : FrameStd} {d : Int} {rest ms : List Event} (h : EventsRight std (rest ++ ms))
    (hb : shiftsInBounds std d ms = true) (hc : shiftsClear (ms.map (shiftEvent d)) rest = true) :
    EventsRight std (rest ++ ms.map (shiftEvent d)) := by
  obtain ⟨hfew, hkeys, hexcl, hrange⟩ := h
  rw [shiftsInBounds_iff] at hb
  rw [List.pairwise_append] at hexcl
  obtain ⟨hrest, hms, -⟩ := hexcl
  have hkeys' : (rest ++ ms.map (shiftEvent d)).map Event.key = (rest ++ ms).map Event.key := by
    rw [List.map_append, List.map_append, List.map_map]
    rfl
  simp only [shiftsClear, List.all_eq_true, clear_iff] at hc
  refine ⟨by simpa using hfew, hkeys' ▸ hkeys, List.pairwise_append.2 ⟨hrest, ?_, fun a ha b hb' => ?_⟩, fun e he => ?_⟩
  · rw [List.pairwise_map]
    exact hms.imp_of_mem fun ha hb' hab => by rw [conflicts_shiftEvent (hb _ ha).1 (hb _ hb').1, hab]
  · rw [conflicts_comm]
    exact hc b hb' a ha
  · rcases List.mem_append.1 he with he | he
    · exact hrange e (List.mem_append_left _ he)
    · obtain ⟨m, hm, rfl⟩ := List.mem_map.1 he
      obtain ⟨hr, hf⟩ := hrange m (List.mem_append_right _ hm)
      exact ⟨rangeRight_shiftEvent hr (hb m hm).1 (hb m hm).2, hf⟩

/-- What a list with a new ripple record shows. -/
theorem viewEvents_shiftSet {l : ListUnit} {d : Int} {ms rest : List Event} (h : l.ripple = rippleFor d ms)
    (hp : l.events.Perm (rest ++ ms)) (hk : (l.events.map Event.key).Nodup) :
    (viewEvents l).Perm (rest ++ ms.map (shiftEvent d)) := by
  have hs := seen_rippleFor h
  have hrest := key_not_mem_of_append_nodup hk hp
  have hr : rest.map (seen l) = rest := by
    rw [List.map_congr_left (g := id) fun x hx => by rw [hs, if_neg (hrest x hx)]; rfl, List.map_id]
  have hm : ms.map (seen l) = ms.map (shiftEvent d) :=
    List.map_congr_left fun x hx => by rw [hs, if_pos (List.mem_map_of_mem hx)]
  have h1 := hp.map (seen l)
  rwa [List.map_append, hr, hm] at h1

/-! ## The ripple record (R44) -/

/-- A key is in use when the list has an event of it. -/
theorem keyUsed_iff_mem {l : ListUnit} {k : Nat} : keyUsed l k = true ↔ k ∈ l.events.map Event.key := by
  rw [keyUsed_iff, List.mem_map]

/-- A ripple record is right for any list that holds its keys. -/
theorem RippleRight.of_keys {l m : ListUnit} {r : Ripple} (h : RippleRight l r)
    (hk : ∀ k, keyUsed l k = true → keyUsed m k = true) : RippleRight m r := by
  obtain ⟨h1, h2, h3, h4, h5⟩ := h
  exact ⟨h1, h2, fun k hm => hk k (h3 k hm), h4, h5⟩

/-- A new ripple record over some of the events (R44). -/
theorem rippleRight_rippleFor {l : ListUnit} {d : Int} {ms rest : List Event} (hp : l.events.Perm (rest ++ ms))
    (hk : (l.events.map Event.key).Nodup) : ∀ r ∈ rippleFor d ms, RippleRight l r := by
  intro r hr
  rw [rippleFor_eq] at hr
  unfold rippleOf at hr
  split at hr
  · cases hr
  · rename_i hne
    obtain rfl := Option.some.inj hr
    have hn : ((rest ++ ms).map Event.key).Nodup := (hp.map Event.key).nodup_iff.1 hk
    rw [List.map_append] at hn
    refine ⟨hn.of_append_right, ?_, fun k hm => ?_, List.nodup_nil, by simp⟩
    · simpa [List.length_pos_iff] using hne
    · obtain ⟨e, he, rfl⟩ := List.mem_map.1 hm
      exact keyUsed_iff.2 ⟨e, hp.mem_iff.2 (List.mem_append_right _ he), rfl⟩

/-- A list put in its order is right when what it shows is and its ripple record is. -/
theorem listRight_reorder {std : FrameStd} {l : ListUnit} (hc : 1 ≤ l.keyCounter ∧ l.keyCounter ≤ 4095)
    (hv : EventsRight std (viewEvents l)) (hr : ∀ r ∈ l.ripple, RippleRight l r) : ListRight std (reorder l) := by
  have hk : (l.events.map Event.key).Nodup := viewEvents_keys l ▸ hv.keys
  refine listRight_iff.2 ⟨hc, hv.perm (viewEvents_reorder_perm l).symm, viewEvents_reorder_pairwise hk, fun r hm => ?_⟩
  refine (hr r hm).of_keys fun k hu => ?_
  rw [keyUsed_iff_mem] at hu ⊢
  exact ((reorder_perm l).map Event.key).mem_iff.2 hu

/-! ## Worked-ahead members, status writes and chunks (R27, R49, R51) -/

/-- The keys of the list are those of what it shows, so a list that shows the same holds the same keys. -/
theorem keyUsed_of_viewEvents {l m : ListUnit} (h : (viewEvents l).map Event.key = (viewEvents m).map Event.key) (k : Nat) :
    keyUsed l k = true ↔ keyUsed m k = true := by
  rw [keyUsed_iff_mem, keyUsed_iff_mem, ← viewEvents_keys l, ← viewEvents_keys m, h]

/-- A member worked ahead leaves the list right. -/
theorem listRight_workAhead {std : FrameStd} {l : ListUnit} (h : ListRight std l) (k : Nat) :
    ListRight std (workAhead k l) := by
  rw [listRight_iff] at h ⊢
  obtain ⟨hc, hv, hs, hr⟩ := h
  have hview := viewEvents_workAhead k l
  refine ⟨?_, hview ▸ hv, hview ▸ hs, fun r hm => ?_⟩
  · unfold workAhead
    split
    · split
      · exact hc
      · exact hc
    · exact hc
  · have used := fun j => (keyUsed_of_viewEvents (congrArg (List.map Event.key) hview) j).2
    unfold workAhead at hm
    split at hm
    · rename_i q hq
      split at hm
      · rename_i hu
        obtain rfl := Option.some.inj hm
        obtain ⟨hd, hn⟩ := unworked_iff.1 hu
        obtain ⟨h1, h2, h3, h4, h5⟩ := (hr q hq).of_keys used
        exact ⟨h1, h2, h3, List.nodup_cons.2 ⟨hn, h4⟩, List.forall_mem_cons.2 ⟨hd, h5⟩⟩
      · exact (hr r hm).of_keys used
    · exact (hr r hm).of_keys used

/-- A status write changes no frozen field (R27, R55). -/
theorem map_frozenFields_updateKey (held : Option Nat) (w : StatusWrite) (es : List Event) :
    (updateKey w.key (writtenEvent held w) es).map frozenFields = es.map frozenFields := by
  unfold updateKey
  rw [List.map_map]
  refine List.map_congr_left fun e _ => ?_
  rw [Function.comp_apply]
  split
  · exact frozenFields_writtenEvent held w e
  · rfl

/-- A status write leaves the list right. -/
theorem listRight_takeWrite {std : FrameStd} {l : ListUnit} (h : ListRight std l) (held : Option Nat) (w : StatusWrite) :
    ListRight std (takeWrite held w l) := by
  have ha := listRight_workAhead h w.key
  have hf : (viewEvents (takeWrite held w l)).map frozenFields = (viewEvents (workAhead w.key l)).map frozenFields := by
    rw [viewEvents_takeWrite, map_frozenFields_updateKey, viewEvents_workAhead]
  have hkeys : (viewEvents (takeWrite held w l)).map Event.key = (viewEvents (workAhead w.key l)).map Event.key := by
    have h1 := congrArg (List.map Event.key) hf
    rw [List.map_map, List.map_map] at h1
    exact h1
  rw [listRight_iff] at ha ⊢
  obtain ⟨hc, hv, hs, hr⟩ := ha
  refine ⟨hc, hv.frozen hf.symm, ?_, fun r hm => (hr r hm).of_keys fun k => (keyUsed_of_viewEvents hkeys k).2⟩
  have hs' : ((viewEvents (workAhead w.key l)).map frozenFields).Pairwise (fun a b => comesBefore a b = true) :=
    List.pairwise_map.2 hs
  rw [← hf] at hs'
  exact List.pairwise_map.1 hs'

/-- A chunk leaves the list right. -/
theorem listRight_workChunk {std : FrameStd} {l : ListUnit} (h : ListRight std l) : ListRight std (workChunk l) := by
  rw [listRight_iff] at h ⊢
  obtain ⟨hc, hv, hs, hr⟩ := h
  have hview := viewEvents_workChunk fun r hm => (hr r hm).1
  have hcounter : (workChunk l).keyCounter = l.keyCounter := by
    unfold workChunk
    split
    · rfl
    · rfl
  refine ⟨hcounter ▸ hc, hview ▸ hv, hview ▸ hs, fun r hm => ?_⟩
  have used := fun j => (keyUsed_of_viewEvents (congrArg (List.map Event.key) hview) j).2
  cases hq : l.ripple with
  | none =>
    unfold workChunk at hm
    rw [hq] at hm
    exact absurd (hm.symm.trans hq) (by simp)
  | some q =>
    obtain ⟨h1, h2, h3, h4, h5⟩ := (hr q hq).of_keys used
    rw [workChunk_eq hq] at hm
    by_cases hl : q.members.length ≤ q.frontier + 16
    · rw [if_pos hl] at hm
      cases hm
    · rw [if_neg hl] at hm
      obtain rfl := Option.some.inj hm
      refine ⟨h1, Nat.lt_of_not_le hl, h3, h4.filter _, fun k hk => ?_⟩
      obtain ⟨hk, hout⟩ := List.mem_filter.1 hk
      have hm := mem_drop_frontier.1 (h5 k hk)
      rw [chunkMembers_length hl] at hm
      exact hm.resolve_left (by simpa using hout)

/-! ## The event of a received record, and a trimmed event (R20, R21, R38, R39) -/

/-- The times of a record that passes step 1 of R34 are frames of the day. -/
theorem readTimes_lt {std : FrameStd} {r : RawEvent} {t : EventTimes} {m : Bool} (h : readTimes std r = some (t, m)) :
    t.toIn < fday std ∧ t.fromIn < fday std := by
  unfold readTimes at h
  dsimp only at h
  split at h
  · rename_i a b c d ha hb hc hd
    obtain ⟨rfl, -⟩ := Prod.mk.inj (Option.some.inj h)
    refine ⟨readLabel_lt (moved := c.2) hc, ?_⟩
    split at hd
    · exact readLabel_lt (moved := d.2) hd
    · obtain rfl := Option.some.inj hd
      exact fday_pos std
  · cases h

/-- A received trigger in its ranges. -/
theorem triggerRight_of_triggerOf {x : Nat × Int} {t : Trigger} (h : triggerOf x = some t) : TriggerRight t := by
  unfold triggerOf at h
  split at h
  · split at h
    · rename_i hr
      obtain rfl := Option.some.inj h
      exact hr
    · cases h
  · cases h

/-- Every result of a list of results comes from one of them. -/
theorem mem_allSome {α : Type} {os : List (Option α)} {as : List α} (h : allSome os = some as) : ∀ a ∈ as, some a ∈ os := by
  induction os generalizing as with
  | nil =>
    obtain rfl := Option.some.inj h
    simp
  | cons o rest ih =>
    cases o with
    | none => cases h
    | some a =>
      unfold allSome at h
      split at h
      · rename_i l hl
        obtain rfl := Option.some.inj h
        intro b hb
        rcases List.mem_cons.1 hb with rfl | hb
        · exact List.mem_cons_self
        · exact List.mem_cons_of_mem _ (ih hl b hb)
      · cases h

/-- The kind that a received record stands for, with its source, duration and pattern in their ranges. -/
theorem transitionRight_of_transitionOf {std : FrameStd} {r : RawEvent} {t : EventTimes} {x : Transition}
    (h : transitionOf r t = some x) (ht : t.fromIn < fday std) {e : Event} (he : e.transition = x) :
    (∀ y ∈ fromSource e, SourceRight std y) ∧ (∀ d ∈ durationOf e, 1 ≤ d ∧ d ≤ 999)
      ∧ ∀ n ∈ patternOf e.transition, n ≤ 31 := by
  subst he
  unfold transitionOf at h
  dsimp only at h
  split at h
  · split at h
    · cases h
    · have hx := (Option.some.inj h).symm
      simp [fromSource, durationOf, patternOf, hx]
  · split at h
    · rename_i hc
      have hx := (Option.some.inj h).symm
      simp only [Bool.and_eq_true, decide_eq_true_eq] at hc
      obtain ⟨-, h1, h2, h3, h4⟩ := hc
      simp [fromSource, durationOf, patternOf, hx, SourceRight, h1, h2, h3, h4, ht]
    · cases h
  · split at h
    · rename_i hc
      have hx := (Option.some.inj h).symm
      simp only [Bool.and_eq_true, decide_eq_true_eq] at hc
      obtain ⟨⟨-, h1, h2, h3, h4⟩, h5⟩ := hc
      simp [fromSource, durationOf, patternOf, hx, SourceRight, h1, h2, h3, h4, h5, ht]
    · cases h
  · cases h

/-- A received rate in its range. -/
theorem rateRight_of_rateOf {r : RawEvent} {o : Option Nat} (h : rateOf r = some o) :
    ∀ k ∈ o, 256 ≤ k ∧ k ≤ 2048 ∧ k ≠ 1024 := by
  unfold rateOf at h
  split at h
  · split at h
    · rename_i hr
      obtain rfl := Option.some.inj h
      split
      · simp
      · simp_all
    · cases h
  · obtain rfl := Option.some.inj h
    simp

/-- The event a received record stands for has its fields in their ranges (R20, R21). -/
theorem fieldsRight_of_eventOf {std : FrameStd} {r : RawEvent} {t : EventTimes} {e : Event} (h : eventOf r t = some e)
    (h1 : t.toIn < fday std) (h2 : t.fromIn < fday std) : FieldsRight std e := by
  unfold eventOf at h
  split at h
  · rename_i tracks tr rate trig htracks htr hrate htrig
    split at h
    · rename_i hc
      obtain ⟨hreel1, hreel2, hlen⟩ := hc
      obtain ⟨hsrc, hdur, hpat⟩ :=
        transitionRight_of_transitionOf htr h2 (congrArg Event.transition (Option.some.inj h)).symm
      obtain rfl := Option.some.inj h
      refine ⟨?_, ⟨hreel1, hreel2, h1⟩, hsrc, hdur, hpat, rateRight_of_rateOf hrate, hlen, fun x hx => ?_⟩
      · unfold trackSetOf at htracks
        split at htracks
        · cases htracks
        · rename_i hn
          obtain rfl := Option.some.inj htracks
          intro hz
          have hz' : r.tracks % 32 = 0 := congrArg BitVec.toNat hz
          omega
      · obtain ⟨y, -, hy⟩ := List.mem_map.1 (mem_allSome htrig x hx)
        exact triggerRight_of_triggerOf hy
    · cases h
  · cases h

/-- A frame moved around the day is a frame of the day (R38, R39). -/
theorem frameAdd_lt (std : FrameStd) (n : Nat) (d : Int) : frameAdd std n d < fday std := by
  have := fday_pos std
  have h1 := Int.emod_nonneg ((n : Int) + d) (show (fday std : Int) ≠ 0 by omega)
  have h2 := Int.emod_lt_of_pos ((n : Int) + d) (show 0 < (fday std : Int) by omega)
  unfold frameAdd
  omega

/-- The pattern of a kind is that of its wipe. -/
theorem patternOf_eq_wipeOf (e : Event) : patternOf e.transition = (wipeOf e).map Prod.fst := by
  cases h : e.transition <;> simp [patternOf, wipeOf, h]

/-- A TRIM leaves each source its reel, and its in a frame of the day (R38, R39). -/
theorem sourceRight_trim {std : FrameStd} {x : Source} (h : SourceRight std x) {c : Prop} [Decidable c] (d : Int) :
    SourceRight std { x with start := if c then frameAdd std x.start d else x.start } := by
  obtain ⟨h1, h2, h3⟩ := h
  refine ⟨h1, h2, ?_⟩
  dsimp only
  split
  · exact frameAdd_lt std _ d
  · exact h3

/-- A TRIM leaves the fields in their ranges. -/
theorem fieldsRight_trimEvent {std : FrameStd} {point : Nat} (hp : point ≤ 3) (d : Int) {e : Event}
    (h : FieldsRight std e) : FieldsRight std (trimEvent std point d e) := by
  obtain ⟨htracks, hto, hfrom, hdur, hpat, hrate, hlen, htrig⟩ := h
  obtain ⟨hkeeps, hd, hw⟩ := trimEvent_keeps hp std d e
  obtain ⟨hsrc, hsrc'⟩ := trimEvent_sources hp std d e
  have ht : (trimEvent std point d e).tracks = e.tracks := (congrArg Event.tracks hkeeps :)
  have hr : (trimEvent std point d e).rate = e.rate := (congrArg Event.rate hkeeps :)
  have hg : (trimEvent std point d e).triggers = e.triggers := (congrArg Event.triggers hkeeps :)
  rw [patternOf_eq_wipeOf] at hpat
  refine ⟨ht ▸ htracks, ?_, ?_, hd ▸ hdur, by rwa [patternOf_eq_wipeOf, hw], hr ▸ hrate, hg ▸ hlen, hg ▸ htrig⟩
  · rw [hsrc]
    split
    · exact ⟨hto.1, hto.2.1, frameAdd_lt std _ _⟩
    · exact sourceRight_trim hto d
  · rw [hsrc']
    intro x hx
    obtain ⟨y, hy, rfl⟩ := Option.mem_map.1 hx
    exact sourceRight_trim (hfrom y hy) d

end Sys2Proof.Machine
end

-- ==== The list stays right ====
section
/-! Every change of the list leaves it in its order, exclusive on every track and in range (R20 to R25, R34 to R51). -/

namespace Sys2Proof.Machine

/-! ## Every change of the list (R34 to R41, R45 to R49, R51) -/

section
variable {s : State} {c : Change}

/-- Without a ripple the stored events are the events seen. -/
theorem ListRight.stored {std : FrameStd} {l : ListUnit} (h : ListRight std l) (hr : l.ripple = none) :
    (1 ≤ l.keyCounter ∧ l.keyCounter ≤ 4095) ∧ EventsRight std l.events := by
  obtain ⟨hc, hv, -, -⟩ := listRight_iff.1 h
  exact ⟨hc, viewEvents_eq_events hr ▸ hv⟩

/-- A record range that passes step 8 of R34 and a duration that passes step 9 make the event right as it is seen. -/
theorem rangeRight_of_checks {std : FrameStd} {e : Event} (hk : 1 ≤ e.key ∧ e.key ≤ 4095)
    (hb : rangeInBounds std e.recIn e.recOut = true) (hd : durationFits e = true) : RangeRight std e := by
  simp only [rangeInBounds, decide_eq_true_eq] at hb
  exact ⟨hk.1, hk.2, by omega, by omega, durationFits_iff.1 hd⟩

/-- An event put in the place of the one with its key (R36 to R39). -/
theorem listRight_replacedList {std : FrameStd} {l : ListUnit} (h : ListRight std l) (hr : l.ripple = none) {e : Event}
    (hu : keyUsed l e.key = true) (hc : clear e (l.events.filter (fun f => f.key ≠ e.key)) = true)
    (hb : rangeInBounds std e.recIn e.recOut = true) (hd : durationFits e = true) (hf : FieldsRight std e) :
    ListRight std (replacedList l e.key e) := by
  obtain ⟨hcount, hev⟩ := h.stored hr
  obtain ⟨old, hold, hkey⟩ := keyUsed_iff.1 hu
  obtain ⟨⟨hk1, hk2, -⟩, -⟩ := hev.range old hold
  have hlen : (l.events.filter (fun f => f.key ≠ e.key)).length < l.events.length :=
    List.length_filter_lt_length_iff_exists.2 ⟨old, hold, by simp [hkey]⟩
  refine listRight_reorder hcount ?_ fun r hm => absurd (hr ▸ hm) (by simp)
  rw [viewEvents_eq_events (l := { l with events := e :: l.events.filter (fun f => f.key ≠ e.key) }) hr]
  refine (hev.sublist List.filter_sublist).cons (hlen.trans_le hev.few) ?_ hc
    (rangeRight_of_checks ⟨hkey ▸ hk1, hkey ▸ hk2⟩ hb hd) hf
  simp

/-- INSERT. -/
theorem listRight_insertChange {raw : RawEvent} {flag : Bool} (h : ListRight s.std s.list)
    (hc : insertChange raw flag s = .ok c) : ListRight s.std c.list := by
  simp only [insertChange, need_bind_eq_ok, check_bind_eq_ok, pure_eq_ok, Bool.and_eq_true, decide_eq_true_eq,
    Option.isNone_iff_eq_none] at hc
  obtain ⟨⟨t, moved⟩, ht, hr, -, hlen, e, he, -, ⟨hb, hsb⟩, hd, ⟨⟨hc1, hc2⟩, hc3⟩, rfl⟩ := hc
  dsimp only at *
  generalize hms : (if flag then s.list.events.filter (fun f => t.recIn ≤ f.recIn) else []) = ms at *
  generalize hrest : (if flag then s.list.events.filter (fun f => f.recIn < t.recIn) else s.list.events) = rest at *
  generalize (t.recOut : Int) - t.recIn = d at *
  obtain ⟨hcount, hev⟩ := h.stored hr
  obtain ⟨hfree, hk1, hk2⟩ := nextKey_spec hcount hlen
  obtain ⟨hin, hout⟩ := eventOf_times he
  obtain ⟨hto, hfrom⟩ := readTimes_lt ht
  have hp := shiftSet_perm hms.symm hrest.symm
  have hnew : nextKey s.list ∉ s.list.events.map Event.key := fun hm => by
    rw [keyUsed_iff_mem.2 hm] at hfree
    cases hfree
  have hkeys := insertedList_keys_nodup hev.keys hcount hlen e d ms
  have hp' : (insertedList s.list e d ms).events.Perm (({ e with key := nextKey s.list } :: rest) ++ ms) := hp.cons _
  refine listRight_reorder (l := insertedList s.list e d ms) ?_ ?_ (rippleRight_rippleFor hp' hkeys)
  · unfold insertedList keyAfter
    dsimp only
    split <;> omega
  · refine EventsRight.perm ?_ (viewEvents_shiftSet rfl hp' hkeys).symm
    have hshift := (hev.perm hp).shift hsb hc3
    have hfields : FieldsRight s.std e := fieldsRight_of_eventOf he hto hfrom
    refine hshift.cons ?_ ?_ ?_ ?_ hfields
    · have := hp.length_eq
      simp only [List.length_append, List.length_map] at *
      omega
    · have hsame : (rest ++ ms.map (shiftEvent d)).map Event.key = (rest ++ ms).map Event.key := by
        simp only [List.map_append, List.map_map]
        rfl
      rw [hsame, ← (hp.map Event.key).mem_iff]
      exact hnew
    · rw [clear_iff] at hc1 hc2 ⊢
      exact fun f hf => (List.mem_append.1 hf).elim (hc1 f) (hc2 f)
    · exact rangeRight_of_checks ⟨hk1, hk2⟩ (by rw [hin, hout]; exact hb) hd

/-- REPLACE. -/
theorem listRight_replaceChange {key : Nat} {raw : RawEvent} (h : ListRight s.std s.list)
    (hc : replaceChange key raw s = .ok c) : ListRight s.std c.list := by
  simp only [replaceChange, need_bind_eq_ok, check_bind_eq_ok, pure_eq_ok, Option.isNone_iff_eq_none] at hc
  obtain ⟨⟨t, moved⟩, ht, hr, hu, -, e, he, -, hb, hd, hclear, rfl⟩ := hc
  obtain ⟨hin, hout⟩ := eventOf_times he
  obtain ⟨hto, hfrom⟩ := readTimes_lt ht
  rw [← hin, ← hout] at hb
  have hfields : FieldsRight s.std e := fieldsRight_of_eventOf he hto hfrom
  exact listRight_replacedList (e := { e with key := key }) h hr hu hclear hb hd hfields

/-- TRIM. -/
theorem listRight_trimChange {key point : Nat} {d : Int} (h : ListRight s.std s.list)
    (hc : trimChange key point d s = .ok c) : ListRight s.std c.list := by
  simp only [trimChange, need_bind_eq_ok, check_bind_eq_ok, pure_eq_ok, Option.isNone_iff_eq_none] at hc
  obtain ⟨hr, e, he, -, hl, hb, hd, hclear, rfl⟩ := hc
  simp only [trimLegal, Bool.and_eq_true, decide_eq_true_eq] at hl
  obtain ⟨⟨hpoint, -⟩, -⟩ := hl
  have hkey : (trimEvent s.std point d e).key = key := (trimEvent_key hpoint s.std d e).trans (findKey_key he)
  obtain ⟨hkeeps, -, -⟩ := trimEvent_keeps hpoint s.std d e
  obtain ⟨-, hev⟩ := h.stored hr
  have hmem : e ∈ s.list.events := List.mem_of_find?_eq_some he
  have hbounds : rangeInBounds s.std (trimEvent s.std point d e).recIn (trimEvent s.std point d e).recOut = true := by
    have hin : (trimEvent s.std point d e).recIn = (trimRange point d e).1.toNat := (congrArg Event.recIn hkeeps :)
    have hout : (trimEvent s.std point d e).recOut = (trimRange point d e).2.toNat := (congrArg Event.recOut hkeeps :)
    simp only [rangeInBounds, decide_eq_true_eq] at hb ⊢
    omega
  have := listRight_replacedList (e := renew (trimEvent s.std point d e)) h hr
    (keyUsed_iff.2 ⟨e, hmem, (findKey_key he).trans hkey.symm⟩) (by rw [← hkey] at hclear; exact hclear) hbounds hd
    (fieldsRight_trimEvent hpoint d (hev.range e hmem).2)
  have hkey' : (renew (trimEvent s.std point d e)).key = key := hkey
  rwa [hkey'] at this

/-- Without one event the list is what comes before it and what comes after it. -/
theorem deleted_perm {es : List Event} (h : (es.map Event.key).Nodup) {e : Event} (he : e ∈ es) :
    (es.filter (fun f => decide (f.key ≠ e.key))).Perm
      (es.filter (fun f => comesBefore f e) ++ es.filter (fun f => comesBefore e f)) := by
  have hsame : ∀ f ∈ es, f.key = e.key → f = e := fun f hf hk => List.inj_on_of_nodup_map h hf he hk
  have hirr : comesBefore e e = false := by simp [comesBefore]
  have hbefore : ∀ f ∈ es, (comesBefore f e && decide (f.key ≠ e.key)) = comesBefore f e := by
    intro f hf
    by_cases hk : f.key = e.key
    · obtain rfl := hsame f hf hk
      simp [hirr]
    · simp [hk]
  have hafter : ∀ f ∈ es, (!comesBefore f e && decide (f.key ≠ e.key)) = comesBefore e f := by
    intro f hf
    by_cases hk : f.key = e.key
    · obtain rfl := hsame f hf hk
      simp [hirr]
    · cases hb : comesBefore f e with
      | true =>
        rw [comesBefore_iff] at hb
        simp only [Bool.not_true, Bool.false_and, comesBefore, eq_comm (a := false), Bool.or_eq_false_iff,
          Bool.and_eq_false_iff, decide_eq_false_iff_not]
        omega
      | false => simp [hk, comesBefore_of_not hk (by simp [hb])]
  have hsplit := (List.filter_append_perm (fun f => comesBefore f e) (es.filter (fun f => decide (f.key ≠ e.key)))).symm
  rwa [List.filter_filter, List.filter_filter, List.filter_congr hbefore, List.filter_congr hafter] at hsplit

/-- DELETE. -/
theorem listRight_deleteChange {key : Nat} {flag : Bool} (h : ListRight s.std s.list)
    (hc : deleteChange key flag s = .ok c) : ListRight s.std c.list := by
  simp only [deleteChange, need_bind_eq_ok, check_bind_eq_ok, pure_eq_ok, Option.isNone_iff_eq_none] at hc
  obtain ⟨hr, e, he, -, hsb, hc3, rfl⟩ := hc
  obtain ⟨hcount, hev⟩ := h.stored hr
  obtain ⟨-, -, hsort, -⟩ := listRight_iff.1 h
  have hmem : e ∈ s.list.events := List.mem_of_find?_eq_some he
  have hkey := findKey_key he
  have hleft := hev.sublist (List.filter_sublist (p := fun f => decide (f.key ≠ key)))
  cases flag with
  | false =>
    refine listRight_reorder hcount ?_ (by simp [rippleFor])
    rw [viewEvents_eq_events rfl]
    exact hleft
  | true =>
    simp only [if_true] at hsb hc3 ⊢
    have hp := deleted_perm hev.keys hmem
    rw [hkey] at hp
    have hkeys : ((s.list.events.filter (fun f => decide (f.key ≠ key))).map Event.key).Nodup := hleft.keys
    refine listRight_reorder hcount ?_ (rippleRight_rippleFor hp hkeys)
    exact ((hleft.perm hp).shift hsb hc3).perm (viewEvents_shiftSet rfl hp hkeys).symm

/-- RIPPLE. -/
theorem listRight_rippleChange {p : Nat} {d : Int} (h : ListRight s.std s.list)
    (hc : rippleChange p d s = .ok c) : ListRight s.std c.list := by
  simp only [rippleChange, check_bind_eq_ok, pure_eq_ok, Option.isNone_iff_eq_none] at hc
  obtain ⟨hr, -, -, -, hsb, hc3, rfl⟩ := hc
  obtain ⟨hcount, hev⟩ := h.stored hr
  have hp : s.list.events.Perm (s.list.events.take (p - 1) ++ s.list.events.drop (p - 1)) := by
    rw [List.take_append_drop]
  refine listRight_reorder hcount ?_ (rippleRight_rippleFor hp hev.keys)
  exact ((hev.perm hp).shift hsb hc3).perm
    (viewEvents_shiftSet (l := { s.list with ripple := rippleFor d (s.list.events.drop (p - 1)) }) rfl hp hev.keys).symm

/-- CLEAR LIST. -/
theorem listRight_clearChange (hc : clearChange s = .ok c) : ListRight s.std c.list := by
  simp only [clearChange, check_bind_eq_ok, pure_eq_ok] at hc
  obtain ⟨-, -, rfl⟩ := hc
  exact listRight_iff.2 ⟨by simp, ⟨by simp [viewEvents], by simp [viewEvents], by simp [viewEvents], by simp [viewEvents]⟩,
    by simp [viewEvents], by simp⟩

/-- Every change of the list leaves it right. -/
theorem listRight_of_listChange {l : ListUnit} (h : ListRight s.std s.list) (hl : ListChange s l) :
    ListRight s.std l := by
  cases hl with
  | ahead key => exact listRight_workAhead h key
  | write held w => exact listRight_takeWrite h held w
  | chunk => exact listRight_workChunk h
  | insert hc => exact listRight_insertChange h hc
  | replace hc => exact listRight_replaceChange h hc
  | trim hc => exact listRight_trimChange h hc
  | delete hc => exact listRight_deleteChange h hc
  | ripple hc => exact listRight_rippleChange h hc
  | clear hc => exact listRight_clearChange hc

/-- An empty list is right in every frame standard. -/
theorem ListRight.of_empty {std std' : FrameStd} {l : ListUnit} (h : ListRight std l) (he : l.events = []) :
    ListRight std' l := by
  obtain ⟨h1, h2, h3, h4, h5, h6, -, h8⟩ := h
  exact ⟨h1, h2, h3, h4, h5, h6, by simp [viewEvents, he], h8⟩

/-- The tests of SET SYSTEM let the standard change only with the list empty (R193). -/
theorem systemChecks_std {body : List Byte} {b : SystemBlock} {moved : Bool} (h : systemChecks body s = .ok (b, moved)) :
    b.std = s.std ∨ s.list.events = [] := by
  simp only [systemChecks, need_bind_eq_ok, check_bind_eq_ok, pure_eq_ok, Prod.mk.injEq, Bool.and_eq_true,
    Bool.or_eq_true, decide_eq_true_eq, List.isEmpty_iff] at h
  obtain ⟨⟨n, m⟩, -, -, -, ⟨hs, -⟩, -, -, rfl, -⟩ := h
  exact hs.imp id And.left

/-- A change of the settings leaves the list, and its standard while it has events. -/
theorem listRight_of_settingsChange {u : State} (h : ListRight s.std s.list) (hu : SettingsChange s u) :
    ListRight u.std u.list := by
  cases hu with
  | system hc =>
    rename_i b moved
    have hlist : (setSystemBlock (clampSystem b) s).list = s.list := by
      unfold setSystemBlock
      dsimp only
      split <;> rfl
    have hstd : (setSystemBlock (clampSystem b) s).std = b.std := rfl
    rw [hlist, hstd]
    rcases systemChecks_std hc with he | he
    · rwa [he]
    · exact h.of_empty he
  | profile => exact h
  | gpi => exact h
  | store => exact h
  | stored => exact h

/-- An entry put in the reel table changes nothing else. -/
theorem setReel_eq (i : Nat) (r : Option Reel) (s : State) : setReel i r s = { s with reels := (setReel i r s).reels } := by
  unfold setReel
  split
  · rfl
  · rfl

/-- A mount put in the reel table changes nothing else. -/
theorem setMount_eq (i : Nat) (p : Option Port) (s : State) :
    setMount i p s = { s with reels := (setMount i p s).reels } := by
  unfold setMount
  split
  · exact setReel_eq _ _ _
  · rfl

/-- A change of the reel table changes nothing else. -/
theorem ReelChange.eq {u : State} (h : ReelChange s u) : u = { s with reels := u.reels } := by
  cases h with
  | define => exact setReel_eq _ _ _
  | rename => exact setReel_eq _ _ _
  | retire => exact setReel_eq _ _ _
  | unmount => exact setMount_eq _ _ _
  | mount =>
    unfold displace
    split
    · rw [setMount_eq, setMount_eq _ none s]
    · exact setMount_eq _ _ _

/-- The list and the settings are among the records that the work can change. -/
theorem list_of_bare {t : State} (h : bare s = bare t) : s.list = t.list ∧ s.live = t.live :=
  ⟨(congrArg State.list h :), (congrArg State.live h :)⟩

/-- Every operation leaves the list right. -/
theorem Worked.listRight {t : State} (h : Worked s t) (hs : ListRight s.std s.list) : ListRight t.std t.list := by
  induction h with
  | start => exact hs
  | same _ hu ih =>
    obtain ⟨hlist, hlive⟩ := list_of_bare hu
    unfold State.std at *
    rwa [hlist, hlive]
  | list _ hl ih =>
    have hl := listRight_of_listChange ih hl
    exact hl
  | reels _ hu ih => exact hu.eq ▸ ih
  | settings _ hu ih => exact listRight_of_settingsChange ih hu
  | mix _ _ ih => exact ih
  | held _ _ _ ih => exact ih
  | lines _ _ ih => exact ih
  | copied _ _ _ ih => exact ih
  | uncopied _ _ ih => exact ih
  | hardwareReset =>
    have hno : viewEvents State.reset.list = [] := rfl
    exact listRight_iff.2 ⟨by decide, by rw [hno]; exact ⟨by simp, by simp, by simp, by simp⟩, by simp [hno],
      by simp [State.reset]⟩

end
end Sys2Proof.Machine

open Sys2Proof Sys2Proof.Machine

/-- Settles O10: the list is right under every one of the ways a command can work (`Worked`), and the end of the settings load
finds it empty. -/
theorem editListStaysSortedExclusiveAndInRange : Obligations.EditListStaysSortedExclusiveAndInRange := by
  intro s t hr h ht
  rcases step_worked ht with hw | ⟨hin, read, hb⟩
  · exact hw.listRight h
  · obtain ⟨hlist, -⟩ := list_of_bare hb
    have hreset : s.list = State.reset.list := (congrArg State.list (hr hin).1 :)
    rw [hlist]
    exact h.of_empty (by rw [hreset]; rfl)

end

-- ==== Where the reels and patterns of a changed list come from ====
section
/-! Every event of a changed list has the reels and the pattern of an event that the list held, or was received with defined
reels and a legal pattern (R20 to R22, R34). -/

namespace Sys2Proof.Machine

/-- Two events refer to the same reels and have the same wipe pattern. -/
structure SameReels (e f : Event) : Prop where
  toReel : e.toSrc.reel = f.toSrc.reel
  fromReel : (fromSource e).map Source.reel = (fromSource f).map Source.reel
  pattern : patternOf e.transition = patternOf f.transition

/-- Two events with the same sources and transition. -/
theorem SameReels.of_eq {e f : Event} (h : e.toSrc = f.toSrc) (ht : e.transition = f.transition) : SameReels e f :=
  ⟨by rw [h], by simp only [fromSource, ht], by rw [ht]⟩

/-- Each event has the reels and the pattern of an event of the list, or defined reels and a legal pattern. -/
def DrawnFrom (s : State) (es : List Event) : Prop :=
  ∀ e ∈ es, (∃ f ∈ s.list.events, SameReels e f) ∨ reelsDefined s e = true ∧ ∀ n ∈ patternOf e.transition, n ≤ 31

section
variable {s : State} {es : List Event}

/-- Events of the list. -/
theorem DrawnFrom.of_subset (h : es ⊆ s.list.events) : DrawnFrom s es :=
  fun e he => .inl ⟨e, h he, .of_eq rfl rfl⟩

/-- Events changed one by one. -/
theorem DrawnFrom.map (h : DrawnFrom s es) {g : Event → Event} (hto : ∀ e, (g e).toSrc = e.toSrc)
    (htr : ∀ e, (g e).transition = e.transition) : DrawnFrom s (es.map g) := by
  intro e he
  obtain ⟨f, hf, rfl⟩ := List.mem_map.1 he
  have hs : fromSource (g f) = fromSource f := by simp only [fromSource, htr]
  refine (h f hf).imp (fun ⟨x, hx, h1, h2, h3⟩ => ⟨x, hx, ?_, ?_, ?_⟩) fun ⟨h1, h2⟩ => ⟨?_, ?_⟩
  · rw [hto, h1]
  · rw [hs, h2]
  · rw [htr, h3]
  · rwa [reelsDefined, hto, hs]
  · rwa [htr]

/-- An event of the list worked ahead. -/
theorem DrawnFrom.workAhead (key : Nat) : DrawnFrom s (workAhead key s.list).events := by
  have h := DrawnFrom.of_subset (s := s) (List.Subset.refl s.list.events)
  unfold Machine.workAhead
  split
  · split
    · refine h.map (fun e => ?_) (fun e => ?_) <;> split <;> rfl
    · exact h
  · exact h

/-- A status write. -/
theorem DrawnFrom.takeWrite (held : Option Nat) (w : StatusWrite) : DrawnFrom s (takeWrite held w s.list).events := by
  have hw := frozenFields_writtenEvent held w
  refine (DrawnFrom.workAhead w.key).map (g := fun e => if e.key = w.key then writtenEvent held w e else e)
    (fun e => ?_) (fun e => ?_)
  · split
    · exact (congrArg Event.toSrc (hw e) :)
    · rfl
  · split
    · exact (congrArg Event.transition (hw e) :)
    · rfl

/-- A chunk. -/
theorem DrawnFrom.workChunk : DrawnFrom s (workChunk s.list).events := by
  have h := DrawnFrom.of_subset (s := s) (List.Subset.refl s.list.events)
  unfold Machine.workChunk
  split
  · exact h
  · refine h.map (fun e => ?_) (fun e => ?_) <;> split <;> rfl

/-- A received event with its reels defined, and events of the list. -/
theorem DrawnFrom.received {std : FrameStd} {raw : RawEvent} {t : EventTimes} {moved : Bool} {e : Event} {key : Nat}
    (ht : readTimes std raw = some (t, moved)) (he : eventOf raw t = some e) (hr : reelsDefined s e = true)
    (h : es ⊆ s.list.events) : DrawnFrom s ({ e with key := key } :: es) := by
  obtain ⟨hto, hfrom⟩ := readTimes_lt ht
  obtain ⟨-, -, -, -, hpat, -⟩ := fieldsRight_of_eventOf he hto hfrom
  exact List.forall_mem_cons.2 ⟨.inr ⟨hr, hpat⟩, DrawnFrom.of_subset h⟩

/-- A trimmed event refers to the same reels (R38, R39). -/
theorem sameReels_trimEvent {point : Nat} (hp : point ≤ 3) (std : FrameStd) (d : Int) (e : Event) :
    SameReels (trimEvent std point d e) e := by
  obtain ⟨-, -, hw⟩ := trimEvent_keeps hp std d e
  obtain ⟨hsrc, hsrc'⟩ := trimEvent_sources hp std d e
  refine ⟨by rw [hsrc], ?_, by rw [patternOf_eq_wipeOf, hw, ← patternOf_eq_wipeOf]⟩
  rw [hsrc', Option.map_map]
  rfl

/-- Every change of the list. -/
theorem ListChange.drawnFrom {l : ListUnit} (h : ListChange s l) : DrawnFrom s l.events := by
  cases h with
  | ahead key => exact .workAhead key
  | write held w => exact .takeWrite held w
  | chunk => exact .workChunk
  | insert hc =>
    simp only [insertChange, need_bind_eq_ok, check_bind_eq_ok, pure_eq_ok] at hc
    obtain ⟨⟨t, moved⟩, ht, -, -, -, e, he, hr, -, -, -, rfl⟩ := hc
    have hd := DrawnFrom.received (key := nextKey s.list) ht he hr (List.Subset.refl _)
    exact fun x hx => hd x ((reorder_perm _).mem_iff.1 hx)
  | replace hc =>
    simp only [replaceChange, need_bind_eq_ok, check_bind_eq_ok, pure_eq_ok] at hc
    obtain ⟨⟨t, moved⟩, ht, -, -, -, e, he, hr, -, -, -, rfl⟩ := hc
    exact fun x hx => DrawnFrom.received ht he hr List.filter_sublist.subset x ((reorder_perm _).mem_iff.1 hx)
  | trim hc =>
    simp only [trimChange, need_bind_eq_ok, check_bind_eq_ok, pure_eq_ok] at hc
    obtain ⟨-, e, he, -, hl, -, -, -, rfl⟩ := hc
    simp only [trimLegal, Bool.and_eq_true, decide_eq_true_eq] at hl
    obtain ⟨⟨hpoint, -⟩, -⟩ := hl
    intro x hx
    rcases List.mem_cons.1 ((reorder_perm _).mem_iff.1 hx) with rfl | hx
    · obtain ⟨h1, h2, h3⟩ := sameReels_trimEvent hpoint s.std _ e
      exact .inl ⟨e, List.mem_of_find?_eq_some he, h1, h2, h3⟩
    · exact DrawnFrom.of_subset List.filter_sublist.subset x hx
  | delete hc =>
    simp only [deleteChange, need_bind_eq_ok, check_bind_eq_ok, pure_eq_ok] at hc
    obtain ⟨-, e, -, -, -, -, rfl⟩ := hc
    exact DrawnFrom.of_subset fun x hx => List.mem_of_mem_filter ((reorder_perm _).mem_iff.1 hx)
  | @ripple p d _ hc =>
    simp only [rippleChange, check_bind_eq_ok, pure_eq_ok] at hc
    obtain ⟨-, -, -, -, -, -, rfl⟩ := hc
    exact DrawnFrom.of_subset fun x hx => 
      (reorder_perm { s.list with ripple := rippleFor d (s.list.events.drop (p - 1)) }).mem_iff.1 hx
  | clear hc =>
    simp only [clearChange, check_bind_eq_ok, pure_eq_ok] at hc
    obtain ⟨-, -, rfl⟩ := hc
    exact fun x hx => absurd hx (by simp)

end
end Sys2Proof.Machine
end

-- ==== The settings and the outputs stay in their ranges ====
section
/-! The live settings and the snapshot are clamped wherever they are set (R72, R73, R193, R195), and the mix port, the staged
setup and the pulses stay in their ranges (R171, R174, R179, R183). -/

namespace Sys2Proof.Machine

section
variable {s t u : State}

/-! ## The settings -/

/-- The live settings and the snapshot lie in their ranges. -/
def AllSettingsRight (s : State) : Prop := SettingsRight s.live ∧ ∀ x ∈ s.snapshot, SettingsRight x

/-- The block that SET SYSTEM asks for has its window start on the day of its standard (R193). -/
theorem systemChecks_windowStart {body : List Byte} {b : SystemBlock} {moved : Bool}
    (h : systemChecks body s = .ok (b, moved)) : b.windowStart < fday b.std := by
  simp only [systemChecks, need_bind_eq_ok, check_bind_eq_ok, pure_eq_ok, Prod.mk.injEq] at h
  obtain ⟨⟨n, m⟩, hn, -, -, -, -, -, rfl, -⟩ := h
  exact readLabel_lt hn

/-- The default settings lie in their ranges. -/
theorem settingsRight_defaults : SettingsRight .defaults := by
  unfold SettingsRight SystemRight ProfileRight
  decide

/-- What the settings load makes live lies in its ranges (R195). -/
theorem settingsRight_loadOutcome (read : Option (List Byte)) : SettingsRight (loadOutcome read).1 := by
  unfold loadOutcome
  split
  · split
    · exact settingsRight_loadImage _
    · exact settingsRight_defaults
  · exact settingsRight_defaults

/-- A new system block is live, and the rest of the settings and the snapshot stand (R193). -/
theorem setSystemBlock_settings (b : SystemBlock) (s : State) :
    (setSystemBlock b s).live = { s.live with system := b } ∧ (setSystemBlock b s).snapshot = s.snapshot := by
  unfold setSystemBlock
  dsimp only
  split
  · exact ⟨rfl, rfl⟩
  · exact ⟨rfl, rfl⟩

/-- Every change of the settings keeps them in their ranges. -/
theorem AllSettingsRight.of_settingsChange (h : AllSettingsRight s) (hu : SettingsChange s u) : AllSettingsRight u := by
  obtain ⟨⟨hsys, hprof⟩, hsnap⟩ := id h
  cases hu with
  | system hc =>
    rename_i b moved
    obtain ⟨hlive, hkept⟩ := setSystemBlock_settings (clampSystem b) s
    exact ⟨hlive ▸ ⟨systemRight_clampSystem (systemChecks_windowStart hc), hprof⟩, hkept ▸ hsnap⟩
  | profile p f =>
    refine ⟨⟨hsys, fun q hq => ?_⟩, hsnap⟩
    rw [PerPort.get_set]
    split
    · exact profileRight_clampProfile f
    · exact hprof q hq
  | gpi => exact ⟨⟨hsys, hprof⟩, hsnap⟩
  | store =>
    refine ⟨h.1, fun x hx => ?_⟩
    obtain rfl := Option.some.inj hx
    exact h.1
  | stored => exact ⟨h.1, by simp⟩

/-- Every operation keeps the settings in their ranges. -/
theorem Worked.allSettingsRight (h : Worked s t) (hs : AllSettingsRight s) : AllSettingsRight t := by
  induction h with
  | start => exact hs
  | same _ hu ih =>
    have hlive : _ = _ := (congrArg State.live hu :)
    have hsnap : _ = _ := (congrArg State.snapshot hu :)
    exact ⟨hlive ▸ ih.1, hsnap ▸ ih.2⟩
  | list _ _ ih => exact ih
  | reels _ hu ih => exact hu.eq ▸ ih
  | settings _ hu ih => exact ih.of_settingsChange hu
  | mix _ _ ih => exact ih
  | held _ _ _ ih => exact ih
  | lines _ _ ih => exact ih
  | copied _ _ _ ih => exact ih
  | uncopied _ _ ih => exact ih
  | hardwareReset => exact ⟨settingsRight_defaults, by simp [State.reset]⟩

/-! ## The mix port (R171 to R178) -/

/-- The outputs of the mix port in their ranges. -/
def OutRight (o : MixOut) : Prop := o.busA ≤ 6 ∧ o.busB ≤ 6 ∧ o.coef ≤ 1023 ∧ o.pattern ≤ 31

/-- The mix port and a staged setup in their ranges. -/
def MixRight (m : Mix) : Prop :=
  OutRight m.out ∧ ∀ o ∈ m.staged, o.busA ≤ 6 ∧ o.busB ≤ 6 ∧ o.coef = 0 ∧ o.pattern ≤ 31

/-- A bus carries the number of a port, or none. -/
theorem busNum_le (o : Option Port) : (o.map portNum).getD 0 ≤ 6 := by
  cases o with
  | none => decide
  | some p => cases p <;> decide

/-- A ramp that has not come to its end has a coefficient in range (R174). -/
theorem rampCoef_le {d j : Nat} (h : ¬ 2 * d + 1 ≤ j) : rampCoef d j ≤ 1023 := by
  unfold rampCoef
  rcases Nat.eq_zero_or_pos d with rfl | hd
  · simp
  · rw [← Nat.lt_succ_iff, Nat.div_lt_iff_lt_mul (by omega)]
    omega

/-- The flip-flop keeps the mix port in its ranges. -/
theorem mixRight_flipFlop {m : Mix} (h : MixRight m) : MixRight (flipFlop m) := by
  obtain ⟨⟨-, hb, -, hp⟩, hs⟩ := h
  exact ⟨⟨hb, Nat.zero_le _, Nat.zero_le _, hp⟩, hs⟩

/-- A ramp keeps the mix port in its ranges. -/
theorem mixRight_rampField {m : Mix} (h : MixRight m) (r : Ramp) (j : Nat) : MixRight (rampField r j m) := by
  unfold rampField
  split
  · exact mixRight_flipFlop h
  · rename_i hj
    obtain ⟨⟨ha, hb, -, hp⟩, hs⟩ := h
    exact ⟨⟨ha, hb, rampCoef_le hj, hp⟩, hs⟩

/-- A field keeps the mix port in its ranges: a staged setup is presented with coefficient 0. -/
theorem mixRight_mixField (h : MixRight s.mix) : MixRight (mixField s).mix := by
  unfold mixField
  dsimp only
  split
  · rename_i o ho
    obtain ⟨ha, hb, hc, hp⟩ := h.2 o ho
    exact ⟨⟨ha, hb, hc.le.trans (Nat.zero_le _), hp⟩, by simp⟩
  · exact mixRight_rampField h _ _
  · exact h

/-- A staged setup has the pattern of its event, or the one on the port. -/
theorem mixRight_stageSetup (h : MixRight s.mix) {e : Event} (he : ∀ n ∈ patternOf e.transition, n ≤ 31) (d : DeckSet) :
    MixRight (stageSetup e d s).mix := by
  obtain ⟨ho, -⟩ := id h
  obtain ⟨-, -, -, hp⟩ := id ho
  refine ⟨ho, fun o hs => ?_⟩
  obtain rfl := Option.some.inj hs
  cases htr : e.transition with
  | cut => exact ⟨busNum_le _, Nat.zero_le _, rfl, hp⟩
  | dissolve => exact ⟨busNum_le _, busNum_le _, rfl, hp⟩
  | wipe x d n r => exact ⟨busNum_le _, busNum_le _, rfl, he n (by simp [patternOf, htr])⟩

/-! ## Every output -/

/-- The outputs in their ranges, with the mix port taken together. -/
theorem outputsRight_iff : OutputsRight s ↔ MixRight s.mix ∧ (∀ e ∈ s.list.events, ∀ n ∈ patternOf e.transition, n ≤ 31)
    ∧ (∀ e ∈ s.seq.copy, ∀ n ∈ patternOf e.transition, n ≤ 31)
    ∧ ∀ l ∈ allLines, ∀ f ∈ s.gpi.lines.get l, pulseCount f < 30 := by
  unfold OutputsRight MixRight
  exact and_assoc.symm

/-- The outputs of one state and the rest of another. -/
theorem outputsRight_held (ht : OutputsRight t) (hu : OutputsRight u) :
    OutputsRight { u with mix := { u.mix with out := t.mix.out } } := by
  rw [outputsRight_iff] at *
  obtain ⟨⟨ho, -⟩, -⟩ := ht
  obtain ⟨⟨-, hs⟩, hrest⟩ := hu
  exact ⟨⟨ho, hs⟩, hrest⟩

/-- A change of the mix port keeps it in its ranges. -/
theorem OutputsRight.of_mixChange (h : OutputsRight s) {m : Mix} (hm : MixChange s m) : MixRight m := by
  obtain ⟨hmix, -, hcopy, -⟩ := outputsRight_iff.1 h
  cases hm with
  | stage he d => exact mixRight_stageSetup hmix (hcopy _ he) d
  | field => exact mixRight_mixField hmix
  | flip => exact mixRight_flipFlop hmix
  | black => exact ⟨by simp [blackMix, OutRight, MixOut.black], by simp [blackMix]⟩

/-- Every operation keeps the outputs in their ranges. -/
theorem Worked.outputsRight (h : Worked s t) (hs : OutputsRight s) : OutputsRight t := by
  induction h with
  | start => exact hs
  | same _ hu ih =>
    have hout : _ = _ := (congrArg (fun x : State => x.mix.out) hu :)
    have hstaged : _ = _ := (congrArg (fun x : State => x.mix.staged) hu :)
    have hlist : _ = _ := (congrArg State.list hu :)
    have hcopy : _ = _ := (congrArg (fun x : State => x.seq.copy) hu :)
    have hlines : _ = _ := (congrArg (fun x : State => x.gpi.lines) hu :)
    obtain ⟨h1, h2, h3, h4, h5⟩ := ih
    exact ⟨hout ▸ h1, hstaged ▸ h2, hlist ▸ h3, hcopy ▸ h4, hlines ▸ h5⟩
  | list _ hl ih =>
    obtain ⟨h1, h2, h3, h4⟩ := ih
    refine ⟨h1, h2, fun e he => ?_, h4⟩
    rcases hl.drawnFrom e he with ⟨f, hf, hsame⟩ | ⟨-, hp⟩
    · exact hsame.pattern ▸ h3 f hf
    · exact hp
  | reels _ hu ih => exact hu.eq ▸ ih
  | settings _ hu ih =>
    cases hu with
    | system =>
      unfold setSystemBlock
      dsimp only
      split
      · exact ih
      · exact ih
    | profile => exact ih
    | gpi => exact ih
    | store => exact ih
    | stored => exact ih
  | mix _ hm ih => exact outputsRight_iff.2 ⟨ih.of_mixChange hm, (outputsRight_iff.1 ih).2⟩
  | held _ _ iht ihu => exact outputsRight_held iht ihu
  | lines _ hv ih =>
    obtain ⟨h1, h2, h3, h4, h5⟩ := ih
    exact ⟨h1, h2, h3, h4, fun l hl f hf => (hv l f hf).elim id (h5 l hl f)⟩
  | copied _ he hf ih =>
    obtain ⟨h1, h2, h3, -, h5⟩ := ih
    refine ⟨h1, h2, h3, fun x hx => ?_, h5⟩
    exact h3 x (Option.some.inj (hf.symm.trans hx) ▸ he)
  | uncopied _ hf ih =>
    obtain ⟨h1, h2, h3, -, h5⟩ := ih
    exact ⟨h1, h2, h3, fun x hx => absurd (hf.symm.trans hx) (by simp), h5⟩
  | hardwareReset => exact ⟨by decide, by decide, by decide, by decide, by decide⟩

/-- The settings load leaves every output alone. -/
theorem outputsRight_of_bare (h : OutputsRight s) {x : Settings} (hb : bare t = bare { s with live := x }) :
    OutputsRight t :=
  Worked.outputsRight (Worked.start.same hb) h

end
end Sys2Proof.Machine

open Sys2Proof Sys2Proof.Machine

/-- Settles O13: settings are clamped wherever they are set, and every way a command can work on the outputs (`Worked`) keeps
them in their ranges. -/
theorem settingsAndOutputsStayInTheirRanges : Obligations.SettingsAndOutputsStayInTheirRanges := by
  refine ⟨fun s t hlive hsnap ht => ?_, fun s t h ht => ?_⟩
  · rcases step_worked ht with hw | ⟨-, read, hb⟩
    · exact hw.allSettingsRight ⟨hlive, hsnap⟩
    · exact Worked.allSettingsRight (Worked.start.same hb) ⟨settingsRight_loadOutcome read, hsnap⟩
  · rcases step_worked ht with hw | ⟨-, read, hb⟩
    · exact hw.outputsRight h
    · exact outputsRight_of_bare h hb

end

-- ==== The reel table stays whole ====
section
/-! Each port holds at most one reel and the recorder none, names differ, and every reel an event refers to is defined (R22,
R100 to R106, R193). -/

namespace Sys2Proof.Machine

section
variable {s t u : State}

/-! ## The table by its indices -/

/-- At most one entry of a list meets a condition when no two do. -/
theorem countP_le_one_iff {α : Type} {p : α → Bool} {l : List α} :
    l.countP p ≤ 1 ↔ l.Pairwise (fun a b => ¬ (p a = true ∧ p b = true)) := by
  induction l with
  | nil => simp
  | cons x rest ih =>
    rw [List.countP_cons, List.pairwise_cons]
    by_cases hx : p x = true
    · rw [if_pos hx, show List.countP p rest + 1 ≤ 1 ↔ List.countP p rest = 0 by omega,
        List.countP_eq_zero]
      have h : ∀ a ∈ rest, ¬ (p x = true ∧ p a = true) ↔ ¬ p a = true := fun a _ => by simp [hx]
      rw [forall₂_congr h]
      refine ⟨fun h => ⟨h, ?_⟩, And.left⟩
      exact List.pairwise_of_forall_mem_list fun a ha b _ hab => h a ha hab.1
    · rw [if_neg hx, Nat.add_zero, ih]
      exact ⟨fun h => ⟨fun a _ hab => hx hab.1, h⟩, And.right⟩

/-- A symmetric relation between all entries of a list, by their places. -/
theorem pairwise_iff_places {α : Type} {R : α → α → Prop} (hR : ∀ a b, R a b → R b a) {l : List α} :
    l.Pairwise R ↔ ∀ (i j : Nat) (a b : α), i ≠ j → l[i]? = some a → l[j]? = some b → R a b := by
  rw [List.pairwise_iff_getElem]
  constructor
  · intro h i j a b hij hi hj
    obtain ⟨hi', rfl⟩ := List.getElem?_eq_some_iff.1 hi
    obtain ⟨hj', rfl⟩ := List.getElem?_eq_some_iff.1 hj
    rcases Nat.lt_or_gt_of_ne hij with hlt | hlt
    · exact h i j hi' hj' hlt
    · exact hR _ _ (h j i hj' hi' hlt)
  · exact fun h i j hi hj hlt => h i j _ _ (by omega) (List.getElem?_eq_getElem hi) (List.getElem?_eq_getElem hj)

/-- The entries of the table by their indices 1 to 64. -/
theorem reels_toList_getElem? (s : State) (i : Nat) : s.reels.toList[i]? = reelAt s (i + 1) := by
  simp [reelAt]

/-- The entries of the table, as its list holds them and by their indices. -/
theorem mem_reels_iff {r : Option Reel} : r ∈ s.reels.toList ↔ ∃ i, reelAt s i = some r := by
  rw [List.mem_iff_getElem?]
  constructor
  · rintro ⟨i, hi⟩
    exact ⟨i + 1, reels_toList_getElem? s i ▸ hi⟩
  · rintro ⟨i, hi⟩
    cases i with
    | zero => cases hi
    | succ i => exact ⟨i, (reels_toList_getElem? s i).trans hi⟩

/-- A symmetric relation between all entries of the table, by their indices. -/
theorem pairwise_reels_iff {R : Option Reel → Option Reel → Prop} (hR : ∀ a b, R a b → R b a) :
    s.reels.toList.Pairwise R ↔
      ∀ (i j : Nat) (a b : Option Reel), i ≠ j → reelAt s i = some a → reelAt s j = some b → R a b := by
  rw [pairwise_iff_places hR]
  constructor
  · intro h i j a b hij hi hj
    cases i with
    | zero => cases hi
    | succ i =>
      cases j with
      | zero => cases hj
      | succ j =>
        exact h i j a b (by omega) ((reels_toList_getElem? s i).trans hi) ((reels_toList_getElem? s j).trans hj)
  · intro h i j a b hij hi hj
    rw [reels_toList_getElem?] at hi hj
    exact h (i + 1) (j + 1) a b (by omega) hi hj

/-- A reel is defined when the table has it. -/
theorem reelDefined_iff {i : Nat} : reelDefined s i = true ↔ ∃ r, reelAt s i = some (some r) := by
  unfold reelDefined reelAt
  rcases Nat.eq_zero_or_pos i with rfl | hi
  · simp
    split <;> simp
  · rw [if_neg (by omega)]
    split
    · rename_i r hr
      simp [hr]; omega
    · rename_i hn
      simp
      exact fun r hr => hn r hr

/-- The reel table is whole, by its indices (R22, R100, R101). -/
structure TableRight (s : State) : Prop where
  single {i j : Nat} {x y : Reel} {p : Port} : reelAt s i = some (some x) → reelAt s j = some (some y) →
    x.mounted = some p → y.mounted = some p → i = j
  recorder {i : Nat} {x : Reel} {p : Port} : reelAt s i = some (some x) → s.recorder = some p → x.mounted ≠ some p
  names {i j : Nat} {x y : Reel} : reelAt s i = some (some x) → reelAt s j = some (some y) → x.name = y.name → i = j
  valid {i : Nat} {x : Reel} : reelAt s i = some (some x) → nameValid x.name = true
  referred {e : Event} : e ∈ s.list.events → reelsDefined s e = true

/-- The two ways to say that the table is whole. -/
theorem reelsRight_iff : ReelsRight s ↔ TableRight s := by
  have hsingle : (∀ p ∈ allPorts, s.reels.toList.countP (fun r => r.any (fun x => x.mounted = some p)) ≤ 1) ↔
      ∀ {i j : Nat} {x y : Reel} {p : Port}, reelAt s i = some (some x) → reelAt s j = some (some y) →
        x.mounted = some p → y.mounted = some p → i = j := by
    have hsymm : ∀ (p : Port) (a b : Option Reel),
        ¬ (a.any (fun x => x.mounted = some p) = true ∧ b.any (fun x => x.mounted = some p) = true) →
        ¬ (b.any (fun x => x.mounted = some p) = true ∧ a.any (fun x => x.mounted = some p) = true) :=
      fun p a b h k => h k.symm
    simp only [countP_le_one_iff, pairwise_reels_iff (hsymm _)]
    constructor
    · intro h i j x y p hi hj hx hy
      by_contra hij
      exact h p (mem_allPorts p) i j _ _ hij hi hj (by simp [hx, hy])
    · intro h p _ i j a b hij hi hj hab
      simp only [Option.any_eq_true, decide_eq_true_eq] at hab
      obtain ⟨⟨x, rfl, hx⟩, y, rfl, hy⟩ := hab
      exact hij (h hi hj hx hy)
  have hnames : (s.reels.toList.reduceOption.map Reel.name).Nodup ↔ ∀ {i j : Nat} {x y : Reel},
      reelAt s i = some (some x) → reelAt s j = some (some y) → x.name = y.name → i = j := by
    have hsymm : ∀ a b : Option Reel, (∀ x ∈ a, ∀ y ∈ b, x.name ≠ y.name) → ∀ x ∈ b, ∀ y ∈ a, x.name ≠ y.name :=
      fun a b h x hx y hy => (h y hy x hx).symm
    rw [List.Nodup, List.pairwise_map, List.reduceOption, List.pairwise_filterMap]
    refine (pairwise_reels_iff hsymm).trans ⟨fun h i j x y hi hj hxy => ?_, fun h i j a b hij hi hj x hx y hy hxy => ?_⟩
    · by_contra hij
      exact h i j _ _ hij hi hj x rfl y rfl hxy
    · obtain rfl := hx
      obtain rfl := hy
      exact hij (h hi hj hxy)
  constructor
  · rintro ⟨h1, h2, h3, h4, h5⟩
    exact ⟨hsingle.1 h1, fun hi hp => h2 _ hp _ (mem_reels_iff.2 ⟨_, hi⟩) _ rfl, hnames.1 h3,
      fun hi => h4 _ (mem_reels_iff.2 ⟨_, hi⟩) _ rfl, fun he => h5 _ he⟩
  · rintro ⟨h1, h2, h3, h4, h5⟩
    refine ⟨hsingle.2 h1, fun p hp r hr x hx => ?_, hnames.2 h3, fun r hr x hx => ?_, fun e he => h5 he⟩
    · obtain rfl := hx
      obtain ⟨i, hi⟩ := mem_reels_iff.1 hr
      exact h2 hi hp
    · obtain rfl := hx
      obtain ⟨i, hi⟩ := mem_reels_iff.1 hr
      exact h4 hi

/-! ## Changes of an entry (R102 to R106) -/

/-- An entry put at an index. -/
theorem reelAt_setReel (i j : Nat) (r : Option Reel) (s : State) :
    reelAt (setReel i r s) j = if j = i then (reelAt s j).map (fun _ => r) else reelAt s j := by
  unfold setReel reelAt
  rcases Nat.eq_zero_or_pos j with rfl | hj
  · simp
  · rcases Nat.eq_zero_or_pos i with rfl | hi
    · simp [Nat.ne_of_gt hj]
    · rw [if_neg (Nat.ne_of_gt hj), if_neg (Nat.ne_of_gt hi)]
      by_cases hij : j = i
      · subst hij
        by_cases hb : j - 1 < 64 <;> simp [hb, Nat.ne_of_gt hj]
      · have hne : i - 1 ≠ j - 1 := by omega
        simp [hij, hne, Nat.ne_of_gt hj, Vector.getElem?_setIfInBounds_ne]

/-- A reel put at an index: every other entry stands. -/
theorem reelAt_setReel_some {i j : Nat} {y x : Reel} (h : reelAt (setReel i (some y) s) j = some (some x)) :
    j = i ∧ x = y ∨ j ≠ i ∧ reelAt s j = some (some x) := by
  rw [reelAt_setReel] at h
  split at h
  · rename_i hji
    obtain ⟨-, -, hy⟩ := Option.map_eq_some_iff.1 h
    exact .inl ⟨hji, (Option.some.inj hy).symm⟩
  · rename_i hji
    exact .inr ⟨hji, h⟩

/-- An entry made free: the others stand. -/
theorem reelAt_setReel_none {i j : Nat} {x : Reel} :
    reelAt (setReel i none s) j = some (some x) ↔ j ≠ i ∧ reelAt s j = some (some x) := by
  rw [reelAt_setReel]
  by_cases hji : j = i
  · simp [hji]
  · simp [hji]

/-- The reels of an event are defined. -/
theorem reelsDefined_iff {e : Event} : reelsDefined s e = true ↔
    (∃ r, reelAt s e.toSrc.reel = some (some r)) ∧ ∀ f ∈ fromSource e, ∃ r, reelAt s f.reel = some (some r) := by
  simp only [reelsDefined, Bool.and_eq_true, reelDefined_iff, Option.all_eq_true]
  rfl

/-- An event whose reels are defined in one table and whose reels another table has. -/
theorem reelsDefined_mono {e : Event} (h : reelsDefined s e = true)
    (hto : ∀ i, i = e.toSrc.reel ∨ (∃ f ∈ fromSource e, i = f.reel) → ∀ r, reelAt s i = some (some r) →
      ∃ q, reelAt t i = some (some q)) : reelsDefined t e = true := by
  rw [reelsDefined_iff] at h ⊢
  obtain ⟨⟨r, hr⟩, hf⟩ := h
  refine ⟨hto _ (.inl rfl) r hr, fun f hm => ?_⟩
  obtain ⟨q, hq⟩ := hf f hm
  exact hto _ (.inr ⟨f, hm, rfl⟩) q hq

namespace TableRight

/-- The table depends on the reels, the list and the recorder alone. -/
theorem congr (h : TableRight s) (hr : t.reels = s.reels) (hl : t.list = s.list) (hrec : t.recorder = s.recorder) :
    TableRight t := by
  have hat : ∀ i, reelAt t i = reelAt s i := fun i => by simp only [reelAt, hr]
  refine ⟨fun hi hj => ?_, fun hi hp => ?_, fun hi hj => ?_, fun hi => ?_, fun he => ?_⟩
  · rw [hat] at hi hj
    exact h.single hi hj
  · rw [hat] at hi
    exact h.recorder hi (hrec ▸ hp)
  · rw [hat] at hi hj
    exact h.names hi hj
  · rw [hat] at hi
    exact h.valid hi
  · rw [hl] at he
    exact reelsDefined_mono (h.referred he) fun i _ r hr => ⟨r, (hat i).trans hr⟩

/-- A reel put at an index whose name no other reel has and whose port no other reel is on and the recorder is not. -/
theorem put (h : TableRight s) {i : Nat} {y : Reel} (hv : nameValid y.name = true)
    (hn : ∀ j x, j ≠ i → reelAt s j = some (some x) → x.name ≠ y.name)
    (hm : ∀ p, y.mounted = some p → s.recorder ≠ some p ∧ ∀ j x, j ≠ i → reelAt s j = some (some x) → x.mounted ≠ some p) :
    TableRight (setReel i (some y) s) := by
  have hlist : (setReel i (some y) s).list = s.list := (congrArg State.list (setReel_eq i (some y) s) :)
  have hrec : (setReel i (some y) s).recorder = s.recorder := (congrArg State.recorder (setReel_eq i (some y) s) :)
  refine ⟨fun hi hj hx hy => ?_, fun hi hp => ?_, fun hi hj hxy => ?_, fun hi => ?_, fun he => ?_⟩
  · rcases reelAt_setReel_some hi with ⟨rfl, rfl⟩ | ⟨hi', hi⟩ <;> rcases reelAt_setReel_some hj with ⟨hj', hyj⟩ | ⟨hj', hj⟩
    · exact hj'.symm
    · exact absurd hy ((hm _ hx).2 _ _ hj' hj)
    · exact absurd hx ((hm _ (hyj ▸ hy)).2 _ _ hi' hi)
    · exact h.single hi hj hx hy
  · rw [hrec] at hp
    rcases reelAt_setReel_some hi with ⟨-, rfl⟩ | ⟨-, hi⟩
    · exact fun hx => (hm _ hx).1 hp
    · exact h.recorder hi hp
  · rcases reelAt_setReel_some hi with ⟨rfl, rfl⟩ | ⟨hi', hi⟩ <;> rcases reelAt_setReel_some hj with ⟨hj', hyj⟩ | ⟨hj', hj⟩
    · exact hj'.symm
    · exact absurd hxy.symm (hn _ _ hj' hj)
    · exact absurd (hyj ▸ hxy) (hn _ _ hi' hi)
    · exact h.names hi hj hxy
  · rcases reelAt_setReel_some hi with ⟨-, rfl⟩ | ⟨-, hi⟩
    · exact hv
    · exact h.valid hi
  · rw [hlist] at he
    refine reelsDefined_mono (h.referred he) fun j _ r hr => ?_
    rw [reelAt_setReel]
    split
    · exact ⟨y, by simp [hr]⟩
    · exact ⟨r, hr⟩

/-- A reel that no event refers to removed (R104). -/
theorem retire (h : TableRight s) {i : Nat} (hf : referenced s i = false) : TableRight (setReel i none s) := by
  have hlist : (setReel i none s).list = s.list := (congrArg State.list (setReel_eq i none s) :)
  have hrec : (setReel i none s).recorder = s.recorder := (congrArg State.recorder (setReel_eq i none s) :)
  refine ⟨fun hi hj => ?_, fun hi hp => ?_, fun hi hj => ?_, fun hi => ?_, fun he => ?_⟩
  · exact h.single (reelAt_setReel_none.1 hi).2 (reelAt_setReel_none.1 hj).2
  · exact h.recorder (reelAt_setReel_none.1 hi).2 (hrec ▸ hp)
  · exact h.names (reelAt_setReel_none.1 hi).2 (reelAt_setReel_none.1 hj).2
  · exact h.valid (reelAt_setReel_none.1 hi).2
  · rw [hlist] at he
    have hno := List.any_eq_false.1 hf _ he
    simp only [Bool.or_eq_true, decide_eq_true_eq, Option.any_eq_true, not_or, not_exists, not_and] at hno
    refine reelsDefined_mono (h.referred he) fun j hj r hr => ⟨r, reelAt_setReel_none.2 ⟨?_, hr⟩⟩
    rintro rfl
    rcases hj with hj | ⟨f, hm, hj⟩
    · exact hno.1 hj.symm
    · exact hno.2 f hm hj.symm

/-- The mount of a reel changed (R105, R106). -/
theorem mount (h : TableRight s) (i : Nat) (q : Option Port)
    (hm : ∀ p, q = some p → s.recorder ≠ some p ∧ ∀ j x, j ≠ i → reelAt s j = some (some x) → x.mounted ≠ some p) :
    TableRight (setMount i q s) := by
  unfold setMount
  split
  · rename_i r hr
    have hv : nameValid r.name = true := h.valid hr
    exact h.put (y := { r with mounted := q }) hv (fun j x hj hx hn => hj (h.names hx hr hn)) hm
  · exact h

/-- A mount cleared. -/
theorem unmount (h : TableRight s) (i : Nat) : TableRight (setMount i none s) := h.mount i none (fun _ hp => by cases hp)

end TableRight

/-- A name is not taken when no reel but the one acted on has it (R101). -/
theorem nameTaken_eq_false {name : List Byte} {but : Nat} (h : nameTaken s name but = false) {j : Nat} {x : Reel}
    (hj : j ≠ but) (hx : reelAt s j = some (some x)) : x.name ≠ name := by
  cases j with
  | zero => cases hx
  | succ j =>
    have hlt : j < 64 := by
      rw [← reels_toList_getElem?] at hx
      obtain ⟨hl, -⟩ := List.getElem?_eq_some_iff.1 hx
      simpa using hl
    have h1 := List.any_eq_false.1 h j (List.mem_range.2 hlt)
    simpa [hj, hx] using h1

/-- The reel on a port is mounted there, and a port with no reel has none mounted (R100). -/
theorem reelOn_eq_some {p : Port} {i : Nat} (h : reelOn s p = some i) :
    ∃ x, reelAt s i = some (some x) ∧ x.mounted = some p := by
  obtain ⟨j, hj, rfl⟩ := Option.map_eq_some_iff.1 h
  obtain ⟨hlt, hj, -⟩ := List.findIdx?_eq_some_iff_getElem.1 hj
  rw [← reels_toList_getElem?, List.getElem?_eq_getElem hlt]
  split at hj
  · rename_i x hx
    exact ⟨x, by rw [hx], by simpa using hj⟩
  · cases hj

/-- A port with no reel. -/
theorem reelOn_eq_none {p : Port} (h : reelOn s p = none) {i : Nat} {x : Reel} (hx : reelAt s i = some (some x)) :
    x.mounted ≠ some p := by
  have h1 := List.findIdx?_eq_none_iff.1 (Option.map_eq_none_iff.1 h) _ (mem_reels_iff.2 ⟨i, hx⟩)
  simpa using h1

/-- The entries after a mount was cleared. -/
theorem reelAt_unmounted {k j : Nat} {x : Reel} (h : reelAt (setMount k none s) j = some (some x)) :
    (∃ y, reelAt s j = some (some y) ∧ x.name = y.name) ∧ (x.mounted = none ∨ j ≠ k ∧ reelAt s j = some (some x)) := by
  unfold setMount at h
  split at h
  · rename_i r hr
    rcases reelAt_setReel_some h with ⟨rfl, rfl⟩ | ⟨hj, hx⟩
    · exact ⟨⟨r, hr, rfl⟩, .inl rfl⟩
    · exact ⟨⟨x, hx, rfl⟩, .inr ⟨hj, hx⟩⟩
  · rename_i hn
    refine ⟨⟨x, h, rfl⟩, .inr ⟨?_, h⟩⟩
    rintro rfl
    exact hn x h

/-- A displaced reel leaves the port free for the one that moves there (R105). -/
theorem tableRight_displace (h : TableRight s) {i : Nat} {p : Port} {r : Reel} (hr : reelAt s i = some (some r)) :
    TableRight (displace (if r.mounted = some p then none else reelOn s p) s) ∧
      ∀ j x, j ≠ i → reelAt (displace (if r.mounted = some p then none else reelOn s p) s) j = some (some x) →
        x.mounted ≠ some p := by
  by_cases hp : r.mounted = some p
  · rw [if_pos hp]
    exact ⟨h, fun j x hj hx hm => hj (h.single hx hr hm hp)⟩
  · rw [if_neg hp]
    cases ho : reelOn s p with
    | none => exact ⟨h, fun j x _ hx => reelOn_eq_none ho hx⟩
    | some k =>
      obtain ⟨y, hy, hmy⟩ := reelOn_eq_some ho
      refine ⟨h.unmount k, fun j x _ hx hm => ?_⟩
      rcases (reelAt_unmounted hx).2 with hnone | ⟨hjk, hx⟩
      · cases hnone.symm.trans hm
      · exact hjk (h.single hx hy hm hmy)

/-- A displaced reel leaves the rest of the state. -/
theorem displace_eq (o : Option Nat) (s : State) : displace o s = { s with reels := (displace o s).reels } := by
  unfold displace
  split
  · exact setMount_eq _ _ _
  · rfl

/-- Every change of the reel table keeps it whole. -/
theorem TableRight.of_reelChange (h : TableRight s) (hu : ReelChange s u) : TableRight u := by
  cases hu with
  | define hv hn =>
    refine h.put hv (fun j x _ hx => ?_) (fun p hp => by cases hp)
    cases j with
    | zero => cases hx
    | succ j => exact nameTaken_eq_false hn (by omega) hx
  | rename hr hv hn =>
    refine h.put hv (fun j x hj hx => nameTaken_eq_false hn hj hx) fun p hp => ⟨fun hrec => h.recorder hr hrec hp, ?_⟩
    exact fun j x hj hx hm => hj (h.single hx hr hm hp)
  | retire hf => exact h.retire hf
  | unmount i => exact h.unmount i
  | mount hr hp =>
    obtain ⟨h1, h2⟩ := tableRight_displace h hr
    refine h1.mount _ _ fun q hq => ?_
    obtain rfl := Option.some.inj hq
    refine ⟨?_, h2⟩
    rw [displace_eq]
    exact hp

/-- A changed list refers to defined reels (R22). -/
theorem TableRight.of_listChange (h : TableRight s) {l : ListUnit} (hl : ListChange s l) : TableRight (setList l s) := by
  refine ⟨h.single, h.recorder, h.names, h.valid, fun he => ?_⟩
  rcases hl.drawnFrom _ he with ⟨f, hf, hto, hfrom, -⟩ | ⟨hd, -⟩
  · have hd := reelsDefined_iff.1 (h.referred hf)
    refine reelsDefined_iff.2 ⟨hto ▸ hd.1, fun x hx => ?_⟩
    have hm : x.reel ∈ (fromSource f).map Source.reel := hfrom ▸ Option.mem_map_of_mem _ hx
    obtain ⟨y, hy, he⟩ := Option.mem_map.1 hm
    exact he ▸ hd.2 y hy
  · exact hd

/-- SET SYSTEM makes no port a recorder that holds a reel, unless it was one (step 7 of R193). -/
theorem systemChecks_recorder {body : List Byte} {b : SystemBlock} {moved : Bool}
    (h : systemChecks body s = .ok (b, moved)) :
    b.recorder = s.recorder ∨ ∀ p, b.recorder = some p → reelOn s p = none := by
  simp only [systemChecks, need_bind_eq_ok, check_bind_eq_ok, pure_eq_ok, Prod.mk.injEq] at h
  obtain ⟨⟨n, m⟩, -, -, -, -, -, hu, rfl, -⟩ := h
  by_cases he : s.recorder = recorderOf (byteAt body 11)
  · exact .inl he.symm
  · refine .inr fun p (hp : recorderOf (byteAt body 11) = some p) => ?_
    rw [Option.all_eq_true] at hu
    have h1 := hu p hp
    rw [hp] at he
    simpa [rolesChanged, he, hp] using h1

/-- A change of the settings keeps the table whole. -/
theorem TableRight.of_settingsChange (h : TableRight s) (hu : SettingsChange s u) : TableRight u := by
  cases hu with
  | @system body b moved hc =>
    obtain ⟨hr, hl⟩ : (setSystemBlock (clampSystem b) s).reels = s.reels ∧ (setSystemBlock (clampSystem b) s).list = s.list := by
      unfold setSystemBlock
      dsimp only
      split <;> exact ⟨rfl, rfl⟩
    have hrec : (setSystemBlock (clampSystem b) s).recorder = b.recorder := rfl
    rcases systemChecks_recorder hc with he | he
    · exact h.congr hr hl (hrec.trans he)
    · have h1 : TableRight { s with live := { s.live with system := b } } :=
        ⟨h.single, fun hi hp => reelOn_eq_none (he _ hp) hi, h.names, h.valid, h.referred⟩
      exact h1.congr hr hl hrec
  | profile => exact h.congr rfl rfl rfl
  | gpi => exact h.congr rfl rfl rfl
  | store => exact h.congr rfl rfl rfl
  | stored => exact h.congr rfl rfl rfl

/-- A table without a reel and a list without an event are whole, whatever the recorder. -/
theorem tableRight_of_reset (hr : s.reels = State.reset.reels) (hl : s.list = State.reset.list) : TableRight s := by
  have hno : ∀ {i x}, reelAt s i ≠ some (some x) := by
    intro i x hx
    unfold reelAt at hx
    split at hx
    · cases hx
    · rw [hr] at hx
      simp [State.reset, Vector.getElem?_replicate] at hx
  refine ⟨fun hi => absurd hi hno, fun hi => absurd hi hno, fun hi => absurd hi hno, fun hi => absurd hi hno, fun he => ?_⟩
  rw [hl] at he
  cases he

/-- Every operation keeps the reel table whole. -/
theorem Worked.tableRight (h : Worked s t) (hs : TableRight s) : TableRight t := by
  induction h with
  | start => exact hs
  | same _ hu ih =>
    obtain ⟨hlist, hlive⟩ := list_of_bare hu
    exact ih.congr (congrArg State.reels hu :) hlist (by unfold State.recorder; rw [hlive])
  | list _ hl ih => exact ih.of_listChange hl
  | reels _ hu ih => exact ih.of_reelChange hu
  | settings _ hu ih => exact ih.of_settingsChange hu
  | mix _ _ ih => exact ih.congr rfl rfl rfl
  | held _ _ _ ih => exact ih.congr rfl rfl rfl
  | lines _ _ ih => exact ih.congr rfl rfl rfl
  | copied _ _ _ ih => exact ih.congr rfl rfl rfl
  | uncopied _ _ ih => exact ih.congr rfl rfl rfl
  | hardwareReset => exact tableRight_of_reset rfl rfl

end
end Sys2Proof.Machine

open Sys2Proof Sys2Proof.Machine

/-- Settles O12: the reel table is whole under every one of the ways a command can work (`Worked`), and the end of the settings
load finds it and the list empty. -/
theorem reelTableStaysWhole : Obligations.ReelTableStaysWhole := by
  intro s t hr h ht
  rw [reelsRight_iff] at h ⊢
  rcases step_worked ht with hw | ⟨hin, read, hb⟩
  · exact hw.tableRight h
  · have hreset := (hr hin).1
    have hreels : t.reels = s.reels := (congrArg State.reels hb :)
    have hlist : t.list = s.list := (congrArg State.list hb :)
    exact tableRight_of_reset (hreels.trans (congrArg State.reels hreset :)) (hlist.trans (congrArg State.list hreset :))

end

-- ==== Status writes ====
section
/-! STATUS_WRITE stores the final write of an edit outside a run and the sequencer ends it (R26, R27, R153, R155). -/

namespace Sys2Proof.Machine

/-- Without a ripple nothing is worked ahead (R51). -/
theorem workAhead_still {l : ListUnit} (h : l.ripple = none) (k : Nat) : workAhead k l = l := by
  unfold workAhead
  rw [h]

/-- The events of the list after a status write, with no ripple in flight. -/
theorem takeWrite_still {l : ListUnit} (h : l.ripple = none) (held : Option Nat) (w : StatusWrite) :
    takeWrite held w l = { l with events := updateKey w.key (writtenEvent held w) l.events } := by
  unfold takeWrite
  rw [workAhead_still h]
  rfl

/-- The status part of a write, by its status (R27). -/
theorem writeStatus_eq (held : Option Nat) (w : StatusWrite) (e : Event) :
    writeStatus held w e = { e with status := (match w.status with
      | some .done => if held = some w.key then .done else e.status
      | some .slipped => if held = some w.key then .slipped else e.status
      | some (.cut c) => .cut c
      | some (.failed c) => .failed c
      | some (.skipped c) => .skipped c
      | _ => e.status) } := by
  unfold writeStatus
  cases hw : w.status with
  | none => rfl
  | some st =>
    cases st with
    | done => dsimp only; split <;> rfl
    | slipped => dsimp only; split <;> rfl
    | _ => rfl

/-- The previewed part of a write (R27). -/
theorem writePreviewed_eq (held : Option Nat) (w : StatusWrite) (e : Event) :
    writePreviewed held w e = { e with previewed := e.previewed || (w.previewed && held = some w.key) } := by
  unfold writePreviewed
  cases hc : (w.previewed && decide (held = some w.key)) with
  | true =>
    rw [if_pos rfl, Bool.or_true]
  | false =>
    rw [if_neg (by simp), Bool.or_false]

/-- Ports made FREE, as one change of the claim table. -/
theorem freePorts_eq (ps : List Port) (s : State) :
    freePorts ps s = { s with holders := s.holders.mapAll (fun p h => if p ∈ ps then .free else h) } := by
  have hh : (freePorts ps s).holders = s.holders.mapAll (fun p h => if p ∈ ps then .free else h) := by
    refine PerPort.ext_get fun p => ?_
    rw [PerPort.get_mapAll]
    exact freePorts_holder ps p s
  calc freePorts ps s
      = { { freePorts ps s with holders := s.holders } with holders := (freePorts ps s).holders } := rfl
    _ = _ := by rw [freePorts_only, hh]

/-- The final step of an edit, its decks and its report known (R153). -/
theorem finalStep_eq {s : State} {d : DeckSet} {o : EditEnd} (hd : s.seq.decks = some d) (ho : s.seq.outcome = some o) :
    finalStep s = { s with
      holders := s.holders.mapAll (fun p h => if p ∈ deckPorts d then .free else h)
      seq := .idle
      notices := putNotice (.editEnd o) s.notices } := by
  unfold finalStep
  simp only [hd, ho, Option.map_some, Option.getD_some, freePorts_eq]
  rfl

/-- The final write of an edit outside a run taken: the edit ends (R153). -/
theorem takeHanded_final {s : State} {w : StatusWrite} (hh : s.seq.handed = some (.final w)) (hr : s.seq.run = none)
    (ending : Bool) : takeHanded ending s = finalStep (writeTaken w s) := by
  unfold takeHanded
  rw [hh]
  simp only [hr]

end Sys2Proof.Machine

open Sys2Proof Sys2Proof.Machine

/-- Settles O34: the write taken is the event's write, and outside a run the edit then ends. -/
theorem statusWritesAreTakenByTheirRule : Obligations.StatusWritesAreTakenByTheirRule := by
  constructor
  · intro s w o d hin _ hr hh ho hd hrun
    refine ⟨_, work_running hin, ?_⟩
    have hlist := takeWrite_still hr s.seq.heldKey w
    have hev : updateKey w.key (writtenEvent s.seq.heldKey w) s.list.events = s.list.events.map (fun e =>
        if e.key ≠ w.key then e else writtenEvent s.seq.heldKey w e) :=
      List.map_congr_left fun e _ => (ite_not _ _ _).symm
    rw [statusWriteWork, hr, takeHanded_final hh hrun, finalStep_eq (s := writeTaken w s) hd ho]
    simp only [writeTaken, hlist, hev, writtenEvent, writePreviewed_eq, writeStatus_eq]
    rfl
  · intro s hs hh
    refine work_idle hs ?_
    unfold statusWriteWork takeHanded
    rw [hh]
    exact ite_self s

end

-- ==== The changes of the list: DELETE, CLEAR LIST, RIPPLE ====
section
/-! DELETE, CLEAR LIST and RIPPLE with every test passed (R40, R41, R45, R46, R48). -/

namespace Sys2Proof.Machine

/-! ## Order and count -/

/-- Events in their order stay where they are. -/
theorem sortBy_of_pairwise {f : Event → Event} {es : List Event}
    (h : es.Pairwise (fun a b => comesBefore (f a) (f b) = true)) : sortBy f es = es := by
  induction es with
  | nil => rfl
  | cons x rest ih =>
    obtain ⟨hx, hrest⟩ := List.pairwise_cons.1 h
    have hs : sortBy f (x :: rest) = insertBy f x rest := congrArg (insertBy f x) (ih hrest)
    rw [hs]
    cases rest with
    | nil => rfl
    | cons y rest => exact if_pos (hx y List.mem_cons_self)

/-- A list in its order without a ripple is not reordered. -/
theorem reorder_of_pairwise {l : ListUnit} (hr : l.ripple = none)
    (h : l.events.Pairwise (fun a b => comesBefore a b = true)) : reorder l = l := by
  have hs : (fun e => seen l e) = id := funext (seen_eq_self hr)
  have hsort : sortBy (seen l) l.events = l.events := sortBy_of_pairwise (by rw [show seen l = id from hs]; exact h)
  unfold reorder
  rw [hsort]

/-- With different keys one event has a key in use, so one less has another. -/
theorem length_filter_key_ne {es : List Event} {k : Nat} (h : (es.map Event.key).Nodup) (hk : k ∈ es.map Event.key) :
    (es.filter (fun f => f.key ≠ k)).length = es.length - 1 := by
  have hlen : (es.filter (fun f => f.key ≠ k)).length = ((es.map Event.key).filter (fun j => j != k)).length := by
    rw [List.filter_map, List.length_map]
    exact congrArg List.length (List.filter_congr fun f _ => decide_not)
  rw [hlen, ← h.erase_eq_filter, List.length_erase_of_mem hk, List.length_map]

/-! ## The tests of a shift (R45) -/

/-- A shift is allowed when it passes steps 8 and 10 of R45. -/
theorem shiftAllowed_iff {std : FrameStd} {d : Int} {ms rest : List Event} : ShiftAllowed std d ms rest ↔
    shiftsInBounds std d ms = true ∧ shiftsClear (ms.map (shiftEvent d)) rest = true := by
  simp only [ShiftAllowed, shiftsInBounds_iff, shiftsClear, List.all_map, List.all_eq_true, Function.comp_apply, clear_iff]
  exact ⟨fun h => ⟨fun e he => ⟨(h e he).1, (h e he).2.1⟩, fun e he => (h e he).2.2⟩,
    fun ⟨h1, h2⟩ e he => ⟨(h1 e he).1, (h1 e he).2, h2 e he⟩⟩

/-- The held event is not among some. -/
theorem notHeldAmong_iff {s : State} {es : List Event} :
    notHeldAmong s es = true ↔ ∀ k ∈ s.seq.heldKey, ∀ f ∈ es, f.key ≠ k := by
  unfold notHeldAmong
  cases s.seq.heldKey with
  | none => simp
  | some k => simp

/-! ## The changes with their tests passed -/

/-- DELETE with its tests passed. -/
theorem deleteChange_ok {s : State} {key : Nat} {flag : Bool} {e : Event} {ms : List Event} (hr : s.list.ripple = none)
    (he : findKey s.list key = some e) (hheld : s.seq.heldKey ≠ some key)
    (hms : ms = if flag then s.list.events.filter (fun f => comesBefore e f) else [])
    (hnot : ∀ k ∈ s.seq.heldKey, ∀ f ∈ ms, f.key ≠ k)
    (hsa : ShiftAllowed s.std ((e.recIn : Int) - e.recOut) ms (s.list.events.filter (fun f => comesBefore f e))) :
    deleteChange key flag s = .ok { list := reorder { s.list with
                                      events := s.list.events.filter (fun f => f.key ≠ key)
                                      ripple := rippleFor ((e.recIn : Int) - e.recOut) ms }
                                    key := key, members := ms.length, moved := false } := by
  obtain ⟨hb, hc⟩ := shiftAllowed_iff.1 hsa
  simp only [deleteChange, need_bind_eq_ok, check_bind_eq_ok, pure_eq_ok, hr, Option.isNone_none, true_and]
  refine ⟨e, he, ?_⟩
  rw [← hms]
  exact ⟨by simp [hheld, notHeldAmong_iff.2 hnot], hb, hc, rfl⟩

/-- RIPPLE with its tests passed. -/
theorem rippleChange_ok {s : State} {p : Nat} {d : Int} (hr : s.list.ripple = none)
    (hp : 1 ≤ p ∧ p ≤ s.list.events.length) (hd : -2591999 ≤ d ∧ d ≤ 2591999)
    (hnot : ∀ k ∈ s.seq.heldKey, ∀ f ∈ s.list.events.drop (p - 1), f.key ≠ k)
    (hsa : ShiftAllowed s.std d (s.list.events.drop (p - 1)) (s.list.events.take (p - 1))) :
    rippleChange p d s = .ok { list := reorder { s.list with ripple := rippleFor d (s.list.events.drop (p - 1)) }
                               key := 0, members := (s.list.events.drop (p - 1)).length, moved := false } := by
  obtain ⟨hb, hc⟩ := shiftAllowed_iff.1 hsa
  simp only [rippleChange, check_bind_eq_ok, pure_eq_ok, hr, Option.isNone_none, true_and]
  exact ⟨decide_eq_true hp, notHeldAmong_iff.2 hnot, decide_eq_true hd, hb, hc, trivial⟩

/-- CLEAR LIST with its tests passed. -/
theorem clearChange_ok {s : State} (hr : s.list.ripple = none) (hi : s.seq.phase = .idle) (hh : s.seq.heldKey = none) :
    clearChange s = .ok { list := { events := [], keyCounter := 1, ripple := none }, key := 0, members := 0
                          moved := false } := by
  simp only [clearChange, check_bind_eq_ok, pure_eq_ok, hr, Option.isNone_none, true_and]
  exact ⟨decide_eq_true ⟨hi, hh⟩, trivial⟩

/-- The list after a DELETE. -/
def deletedList (l : ListUnit) (key : Nat) (d : Int) (ms : List Event) : ListUnit :=
  reorder { l with events := l.events.filter (fun f => f.key ≠ key), ripple := rippleFor d ms }

/-- It holds one event less. -/
theorem deletedList_length {l : ListUnit} {key : Nat} (h : (l.events.map Event.key).Nodup) (hk : keyUsed l key = true)
    (d : Int) (ms : List Event) : (deletedList l key d ms).events.length = l.events.length - 1 :=
  (reorder_perm _).length_eq.trans (length_filter_key_ne h (keyUsed_iff_mem.1 hk))

/-- Without members the others stay as they are. -/
theorem deletedList_nil {l : ListUnit} (hr : l.ripple = none) (h : l.events.Pairwise (fun a b => comesBefore a b = true))
    (key : Nat) (d : Int) : deletedList l key d [] = { l with events := l.events.filter (fun f => f.key ≠ key) } := by
  have hl := reorder_of_pairwise (l := { l with events := l.events.filter (fun f => f.key ≠ key), ripple := none }) rfl
    (h.sublist List.filter_sublist)
  have hr' : rippleFor d [] = none := rfl
  unfold deletedList
  rw [hr', hl, hr]

/-- An accepted DELETE puts the list and answers. -/
theorem deleteOwner_eq {body : List Byte} {s : State} {c : Change}
    (h : deleteChange (half body 0) (flagAt body 2) s = .ok c) :
    deleteOwner body s = putAnswer (say 0x08 .done
      (b2 c.key ++ b2 c.list.events.length ++ (if flagAt body 2 then b2 c.members else []))) (setList c.list s) := by
  unfold deleteOwner
  dsimp only
  rw [h]
  rfl

/-- An accepted RIPPLE puts the list and answers. -/
theorem rippleOwner_eq {body : List Byte} {s : State} {c : Change}
    (h : rippleChange (half body 0) (signedLong body 2) s = .ok c) :
    rippleOwner body s = putAnswer (say 0x0A .done
      (b2 (half body 0) ++ s4 (signedLong body 2) ++ b2 c.members ++ b2 c.list.events.length)) (setList c.list s) := by
  unfold rippleOwner
  dsimp only
  rw [h]
  rfl

/-- What a list put in its order with a new ripple record holds and shows (R44, R50). -/
theorem reorder_rippleFor {l : ListUnit} {d : Int} {ms rest : List Event} (h : l.ripple = rippleFor d ms)
    (hp : l.events.Perm (rest ++ ms)) (hk : (l.events.map Event.key).Nodup) :
    (reorder l).events.Perm l.events ∧ (reorder l).ripple = rippleOf d ms ∧
      (viewEvents (reorder l)).Perm (rest ++ ms.map (shiftEvent d)) ∧
      (viewEvents (reorder l)).Pairwise (fun a b => comesBefore a b = true) :=
  ⟨reorder_perm l, h.trans (rippleFor_eq d ms), (viewEvents_reorder_perm l).trans (viewEvents_shiftSet h hp hk),
    viewEvents_reorder_pairwise hk⟩

/-- A key in use has an event. -/
theorem exists_findKey {l : ListUnit} {k : Nat} (h : keyUsed l k = true) : ∃ e, findKey l k = some e := by
  obtain ⟨e, he, hk⟩ := keyUsed_iff.1 h
  exact Option.isSome_iff_exists.1 (List.find?_isSome.2 ⟨e, he, by simpa using hk⟩)

end Sys2Proof.Machine

open Sys2Proof Sys2Proof.Machine

/-- Settles O32: each change with its tests passed, and what a list with the new ripple record shows. -/
theorem deleteClearListAndRippleChangeTheList : Obligations.DeleteClearListAndRippleChangeTheList := by
  refine ⟨?_, ?_, ?_, ?_⟩
  · intro s body h hp hr hnd hsort hl hflag hused hheld
    obtain ⟨e, he⟩ := exists_findKey hused
    have hch : deleteChange (half body 0) (flagAt body 2) (taken body s) = .ok _ :=
      deleteChange_ok (s := taken body s) hr he hheld (ms := []) (by rw [hflag]; rfl) (by simp) (fun x hx => by cases hx)
    have hlist := deletedList_nil hr hsort (half body 0) ((e.recIn : Int) - e.recOut)
    have hlen := deletedList_length hnd hused ((e.recIn : Int) - e.recOut) []
    refine change_answers h hp hr (by simp [lengthIs, hl]) ?_
    rw [deleteOwner_eq hch, hflag, ← hlist, ← hlen]
    simp only [Bool.false_eq_true, if_false, List.append_nil]
    rfl
  · intro s h hp hr hi hh
    refine change_answers h hp hr rfl ?_
    simp only [clearListOwner, clearChange_ok (s := taken [] s) hr hi hh]
    rfl
  · rintro s body ms rest h hp hr hnd - hl hpos rfl rfl hd hnot hsa
    have hch : rippleChange (half body 0) (signedLong body 2) (taken body s) = .ok _ :=
      rippleChange_ok (s := taken body s) hr hpos hd hnot hsa
    have hperm : s.list.events.Perm (s.list.events.take (half body 0 - 1) ++ s.list.events.drop (half body 0 - 1)) := by
      rw [List.take_append_drop]
    obtain ⟨h1, h2, h3, h4⟩ := reorder_rippleFor (l := { s.list with
      ripple := rippleFor (signedLong body 2) (s.list.events.drop (half body 0 - 1)) }) rfl hperm hnd
    refine ⟨_, change_answers h hp hr (by simp [lengthIs, hl]) (rippleOwner_eq hch), rfl, h1, rfl, h2, h3, h4, ?_⟩
    have hlen := h1.length_eq
    dsimp only at hlen ⊢
    rw [← hlen]
    rfl
  · rintro s body e ms rest h hp hr hnd - hl hflag he hheld rfl rfl hnot hsa
    have hch : deleteChange (half body 0) (flagAt body 2) (taken body s) = .ok _ :=
      deleteChange_ok (s := taken body s) hr he hheld (by rw [hflag]; rfl) hnot hsa
    have hmem : e ∈ s.list.events := List.mem_of_find?_eq_some he
    have hperm := deleted_perm hnd hmem
    rw [findKey_key he] at hperm
    have hkeys : ((s.list.events.filter (fun f => f.key ≠ half body 0)).map Event.key).Nodup :=
      hnd.sublist (List.filter_sublist.map _)
    obtain ⟨h1, h2, h3, h4⟩ := reorder_rippleFor (l := { s.list with
      events := s.list.events.filter (fun f => f.key ≠ half body 0)
      ripple := rippleFor ((e.recIn : Int) - e.recOut) (s.list.events.filter (fun f => comesBefore e f)) }) rfl hperm hkeys
    have hlen := deletedList_length hnd (keyUsed_iff.2 ⟨e, hmem, findKey_key he⟩) ((e.recIn : Int) - e.recOut)
      (s.list.events.filter (fun f => comesBefore e f))
    refine ⟨_, change_answers h hp hr (by simp [lengthIs, hl]) (deleteOwner_eq hch), rfl, h1, rfl, h2, h3, h4, ?_⟩
    rw [hflag, ← hlen]
    rfl

end

-- ==== Work that neither reads nor changes the list, the reels and the link ====
section
/-! The transport controller, the claim table, the outputs and the endings of an edit neither read nor change the list, the
reel table and the console link: they do the same whatever these are. -/

namespace Sys2Proof.Machine

/-- A state with the list, the reel table and the console link of another. -/
def withFrom (y s : State) : State := { s with list := y.list, reels := y.reels, link := y.link }

section
variable (y s : State) (p : Port)

@[simp] theorem withFrom_transport : (withFrom y s).transport p = s.transport p := rfl
@[simp] theorem withFrom_recorder : (withFrom y s).recorder = s.recorder := rfl
@[simp] theorem withFrom_seq : (withFrom y s).seq = s.seq := rfl
@[simp] theorem withFrom_gpi : (withFrom y s).gpi = s.gpi := rfl

end

/-- The work is the same whatever the list, the reel table and the console link are, and leaves them alone. -/
def Blind (f : State → State) : Prop := ∀ y s, f (withFrom y s) = withFrom y (f s)

section
variable {f g : State → State}

/-- Blind work leaves the list, the reels and the link. -/
theorem Blind.keeps (h : Blind f) (s : State) :
    (f s).list = s.list ∧ (f s).reels = s.reels ∧ (f s).link = s.link := by
  have hs : f s = withFrom s (f s) := h s s
  exact ⟨(congrArg State.list hs :), (congrArg State.reels hs :), (congrArg State.link hs :)⟩

/-- Either work, by the same condition. -/
theorem withFrom_ite {c d : Prop} [Decidable c] [Decidable d] {y a b a' b' : State} (h : d ↔ c) (ha : a' = withFrom y a)
    (hb : b' = withFrom y b) : (if d then a' else b') = withFrom y (if c then a else b) := by
  by_cases hc : c
  · rw [if_pos (h.2 hc), if_pos hc, ha]
  · rw [if_neg (fun hd => hc (h.1 hd)), if_neg hc, hb]

/-- Work after work. -/
theorem Blind.comp (hf : Blind f) (hg : Blind g) : Blind (fun s => f (g s)) :=
  fun y s => (congrArg f (hg y s)).trans (hf y (g s))

/-- Work for each entry of a list. -/
theorem Blind.foldl {α : Type} {F : State → α → State} (hF : ∀ a, Blind (fun s => F s a)) (l : List α) :
    Blind (fun s => l.foldl F s) := by
  intro y s
  induction l generalizing s with
  | nil => rfl
  | cons a rest ih => exact (congrArg (rest.foldl F) (hF a y s)).trans (ih (F s a))

end

/-! ## The transport controller (R82 to R90) -/

section
variable (p : Port)

/-- A command of the transport controller. -/
theorem blind_handTransport (c : DeckCmd) : Blind (handTransport p c) := by
  intro y s
  exact withFrom_ite Iff.rfl rfl rfl

/-- A cancellation told. -/
theorem blind_tellCancelled (a o : Requester) (n : Nat) : Blind (tellCancelled a o p n) := by
  intro y s
  exact withFrom_ite Iff.rfl rfl rfl

/-- A cue removed. -/
theorem blind_dropCue (a : Requester) : Blind (dropCue a p) := by
  intro y s
  unfold dropCue
  simp only [withFrom_transport]
  split
  · rfl
  · exact blind_tellCancelled p a _ _ y (s.setTransport p { s.transport p with cue := none })

/-- A pending motion put. -/
theorem blind_putMotion (a : Requester) (m : Option PendingMotion) : Blind (putMotion a p m) := by
  intro y s
  unfold putMotion
  simp only [withFrom_transport]
  split
  · exact blind_tellCancelled p a _ _ y (s.setTransport p { s.transport p with motion := m })
  · rfl

/-- A wake begun. -/
theorem blind_beginWake (m : PendingMotion) : Blind (beginWake p m) := by
  intro y s
  unfold beginWake
  simp only [blind_handTransport p .wake y s]
  rfl

/-- An action carried out. -/
theorem blind_act (a : Requester) (x : Action) : Blind (act a p x) := by
  intro y s
  unfold act
  simp only [withFrom_transport]
  split
  · rfl
  · rfl
  · rfl
  · split
    · rfl
    · exact blind_beginWake p _ y s
  · exact blind_putMotion p a _ y s
  · rw [blind_dropCue p a y s, blind_handTransport p _ y _]
    rfl

/-- A cue started. -/
theorem blind_startCue (a : Requester) (x n : Nat) : Blind (startCue a p x n) := by
  intro y s
  unfold startCue
  simp only [blind_handTransport p _ y s]
  rfl

/-- A cue begun. -/
theorem blind_beginCue (a : Requester) (x : Nat) : Blind (beginCue a p x) := by
  intro y s
  unfold beginCue
  simp only [withFrom_transport]
  split
  · rfl
  · rfl
  · rfl
  · exact blind_beginWake p _ y s
  · exact blind_putMotion p a _ y s
  · rw [blind_dropCue p a y s]
    exact blind_startCue p a x 0 y _

/-- A cue asked by the sequencer. -/
theorem blind_seqCue (x : Nat) : Blind (seqCue p x) := by
  intro y s
  exact withFrom_ite Iff.rfl (blind_beginCue p _ x y s) rfl

/-- A PLAY or HALT asked by the sequencer. -/
theorem blind_seqAct (x : Action) : Blind (seqAct p x) := by
  intro y s
  exact withFrom_ite Iff.rfl (blind_act p _ x y s) rfl

/-- A pending RELEASE overridden. -/
theorem blind_overrideRelease : Blind (overrideRelease p) := by
  intro y s
  refine withFrom_ite Iff.rfl ?_ rfl
  simp only [blind_handTransport p .halt y s]
  rfl

/-- One port claimed. -/
theorem blind_claimPort (h : Holder) : Blind (claimPort h p) := fun y s =>
  blind_overrideRelease p y ((s.setHolder p h).setTransport p { s.transport p with standbyTimer := 0 })

end

/-- Ports claimed. -/
theorem blind_claimPorts (h : Holder) (ps : List Port) : Blind (claimPorts h ps) :=
  Blind.foldl (fun p => blind_claimPort p h) ps

/-- Ports made FREE. -/
theorem blind_freePorts (ps : List Port) : Blind (freePorts ps) := Blind.foldl (fun _ _ _ => rfl) ps

/-! ## The outputs (R181 to R184) -/

/-- A trigger fired. -/
theorem blind_fireLine (m : Mode) (l : Line) : Blind (fireLine m l) := by
  intro y s
  exact withFrom_ite Iff.rfl rfl rfl

/-- The triggers reached. -/
theorem fireReached_withFrom (m : Mode) (reached : Nat → Bool) (ts : List ArmedTrigger) (y s : State) :
    fireReached m reached ts (withFrom y s) = (withFrom y (fireReached m reached ts s).1, (fireReached m reached ts s).2) := by
  induction ts generalizing s with
  | nil => rfl
  | cons t rest ih =>
    unfold fireReached
    dsimp only
    split
    · rw [blind_fireLine m t.line y s, ih]
    · rw [ih]

/-- The armed triggers tested. -/
theorem blind_testTriggers (reached : Nat → Bool) : Blind (testTriggers reached) := by
  intro y s
  unfold testTriggers
  simp only [withFrom_gpi]
  split
  · rfl
  · simp only [fireReached_withFrom]
    rfl

/-- The GPI unit told of an end. -/
theorem blind_endGpi (completed : Bool) : Blind (endGpi completed) := by
  intro y s
  cases completed with
  | false => rfl
  | true =>
    unfold endGpi
    simp only [if_true, blind_testTriggers _ y s]
    rfl

/-- The outputs told of an end. -/
theorem blind_endOutputs (m : Mode) (completed : Bool) : Blind (endOutputs m completed) := by
  intro y s
  unfold endOutputs
  split
  · rfl
  · exact blind_endGpi completed y (stopMix s)

/-! ## The arm and the endings of an edit (R139, R153) -/

/-- A cue asked of a player, if there is one. -/
theorem blind_playerCue (o : Option Port) (x : Option Nat) : Blind (playerCue o x) := by
  intro y s
  unfold playerCue
  split
  · exact blind_seqCue _ _ y s
  · rfl

/-- The cues of an arm. -/
theorem blind_askCues (d : DeckSet) (c : CuePoints) : Blind (askCues d c) :=
  (blind_playerCue d.fromPort c.fromPos).comp ((blind_playerCue d.toPort c.toPos).comp (blind_seqCue d.recorder c.recorder))

/-- The arm. -/
theorem blind_arm (m : Mode) (e : Event) (d : DeckSet) (run : Option Run) : Blind (arm m e d run) := by
  intro y s
  unfold arm
  simp only [blind_claimPorts _ _ y s]
  exact blind_askCues d (cuePointsFor s.std d e (prerollFor s e)) y
    { claimPorts .sequencer (deckPorts d) s with seq := armedRecord m e d run s }

/-- The sequencer record changed. -/
theorem setSeq_withFrom (f : Sequencer → Sequencer) (y s : State) : setSeq f (withFrom y s) = withFrom y (setSeq f s) := rfl

/-- The DISENGAGE of an ending. -/
theorem blind_disengageIfEngaged (p : Port) : Blind (disengageIfEngaged p) := by
  intro y s
  exact withFrom_ite Iff.rfl rfl rfl

/-- The SEQUENCER chase records removed. -/
theorem blind_removeSeqChases (d : DeckSet) : Blind (removeSeqChases d) := by
  refine Blind.foldl (fun p y s => ?_) _
  exact withFrom_ite Iff.rfl rfl rfl

/-- The final step of an edit. -/
theorem blind_finalStep : Blind finalStep := by
  intro y s
  unfold finalStep
  simp only [withFrom_seq, blind_freePorts _ y s]
  split <;> rfl

/-- The end of a run. -/
theorem blind_endRun (reason : RunReason) (key : Option Nat) (run : Run) : Blind (endRun reason key run) := by
  intro y s
  unfold endRun
  rw [blind_finalStep y s]
  rfl

/-- The ending of an edit. -/
theorem blind_endEdit (x : Edit) (o : EditOutcome) (early : Option FaultClass) (completed : Bool) :
    Blind (endEdit x o early completed) := by
  intro y s
  have hhalts : Blind (fun s => (deckPorts x.decks).foldl (fun s p => seqAct p .halt s) s) :=
    Blind.foldl (fun p => blind_seqAct p .halt) _
  have hall := ((blind_endOutputs x.mode completed).comp (blind_removeSeqChases x.decks)).comp
    (hhalts.comp (blind_disengageIfEngaged x.decks.recorder)) y s
  dsimp only at hall
  unfold endEdit
  simp only [withFrom_seq, hall, setSeq_withFrom]
  split
  · rfl
  · exact blind_finalStep y _

/-- An edit ended by a fault, or cut short. -/
theorem blind_faultOrCutShort (c : FaultClass) : Blind (faultOrCutShort c) := by
  intro y s
  have hl : liveEdit (withFrom y s) = liveEdit s := rfl
  unfold faultOrCutShort
  simp only [hl, withFrom_seq]
  split
  · rfl
  · exact withFrom_ite Iff.rfl (blind_endEdit _ _ _ _ y s) (blind_endEdit _ _ _ _ y s)

/-! ## The polls and RESET (R62, R98, R192) -/

/-- The cadences looked at. -/
theorem blind_shortenPolls : Blind shortenPolls := fun _ _ => rfl

/-- A deck's part of RESET. -/
theorem blind_resetDeck (p : Port) : Blind (resetDeck p) := by
  intro y s
  unfold resetDeck
  simp only [withFrom_transport]
  split
  · rfl
  · rfl
  · rfl
  · rfl
  · rfl
  · exact congrArg (enterState p .idle) 
      (blind_handTransport p .halt y (s.setTransport p { s.transport p with cue := none, standbyTimer := 0 }))

/-- The decks' part of RESET. -/
theorem blind_resetDecks : Blind resetDecks := by
  intro y s
  have hf : Blind (fun s => allPorts.foldl (fun s p => resetDeck p (s.setHolder p .free)) s) :=
    Blind.foldl (fun p y s => blind_resetDeck p y (s.setHolder p .free)) _
  have h := hf y s
  dsimp only at h
  unfold resetDecks
  rw [h]
  rfl

/-- The sequencer's DISENGAGE of RESET. -/
theorem blind_resetDisengage : Blind resetDisengage := by
  intro y s
  unfold resetDisengage
  simp only [withFrom_recorder]
  split <;> rfl

end Sys2Proof.Machine
end

-- ==== Decks halted by RESET and by an ending ====
section
/-! What a HALT makes of the records of a deck (R82), and that an ending of an edit and RESET leave the records of each deck
as they were or halted (R98, R153, R192). -/

namespace Sys2Proof.Machine

/-- The records of one deck, with its profile. -/
structure DeckRecords where
  port : DeckPort
  transport : Transport
  tracker : Tracker
  profile : Profile

/-- The records of a port. -/
def deckRecords (s : State) (p : Port) : DeckRecords := ⟨s.port p, s.transport p, s.tracker p, s.profile p⟩

/-- The records of a deck that was handed HALT and is IDLE, its cue removed (R82). -/
def haltedRecords (r : DeckRecords) : DeckRecords :=
  { r with
    port := { r.port with
      commands := if r.port.line = .online then enqueue .halt r.port.commands else r.port.commands }
    transport := { r.transport with state := .idle, speed := 0, lastKind := some .halt, cue := none, standbyTimer := 0 }
    tracker := if changeMark r.transport .halt then { r.tracker with settle := r.profile.settle } else r.tracker }

/-- The change mark of a HALT (R82). -/
theorem changeMark_halt (t : Transport) : changeMark t .halt = true ↔ t.lastKind ≠ some .halt ∨ t.speed < 0 := by
  unfold changeMark
  rw [Bool.or_eq_true, decide_eq_true_iff]
  by_cases hs : t.speed < 0 <;> simp [cmdKind, commandSpeed, hs]

/-- A transport record put changes nothing else of the records of decks. -/
theorem deckRecords_setTransport (p q : Port) (t : Transport) (s : State) : deckRecords (s.setTransport p t) q =
    if q = p then { deckRecords s p with transport := t } else deckRecords s q := by
  unfold deckRecords
  rw [State.setTransport_transport]
  split
  · rename_i hq
    subst hq
    rfl
  · rfl

/-- HALT handed and IDLE entered, with no cue left. -/
theorem deckRecords_halt (p q : Port) {s : State} (hc : (s.transport p).cue = none) :
    deckRecords (enterState p .idle (handTransport p .halt s)) q =
      if q = p then haltedRecords (deckRecords s p) else deckRecords s q := by
  have hport : (enterState p .idle (handTransport p .halt s)).port q = (handCommand p .halt s).port q :=
    handTransport_port p q .halt s
  have htracker : (enterState p .idle (handTransport p .halt s)).tracker q = (handTransport p .halt s).tracker q := rfl
  have hprofile : (enterState p .idle (handTransport p .halt s)).profile q = s.profile q :=
    (congrArg (fun u : State => u.profile q) (handTransport_only p .halt s) :)
  unfold deckRecords
  rw [hport, htracker, hprofile, handCommand_port, enterState_transport, handTransport_transport, handTransport_transport,
    handTransport_tracker]
  by_cases hq : q = p
  · subst hq
    simp only [if_true, true_and, haltedRecords, hc, commandSpeed, cmdKind, permissionAfter, ite_self]
  · simp only [hq, if_false, false_and]

/-! ## A HALT of the sequencer -/

/-- A cue removed changes nothing else of the records of decks. -/
theorem deckRecords_dropCue (a : Requester) (p q : Port) (s : State) : deckRecords (dropCue a p s) q =
    if q = p then { deckRecords s p with transport := { s.transport p with cue := none } } else deckRecords s q := by
  have htold : ∀ (o : Requester) (n : Nat) (u : State), deckRecords (tellCancelled a o p n u) q = deckRecords u q := by
    intro o n u
    unfold tellCancelled
    split <;> rfl
  unfold dropCue
  split
  · rename_i hn
    split
    · rename_i hq
      subst hq
      unfold deckRecords
      rw [← hn]
    · rfl
  · rw [htold, deckRecords_setTransport]

/-- A HALT carried out: a deck that moves or stands is halted, a WAKING one has no pending motion, the others stand
(R82). -/
theorem deckRecords_act_halt (a : Requester) (p q : Port) (s : State) : deckRecords (act a p .halt s) q =
    if q = p then
      if movable (s.transport p).state then haltedRecords (deckRecords s p)
      else if (s.transport p).state = .waking then
        { deckRecords s p with transport := { s.transport p with motion := none } }
      else deckRecords s p
    else deckRecords s q := by
  have hmoved : deckRecords (enterState p .idle (handTransport p .halt (dropCue a p s))) q =
      if q = p then haltedRecords (deckRecords s p) else deckRecords s q := by
    have hd := deckRecords_dropCue a p
    have hcue : ((dropCue a p s).transport p).cue = none := by
      have := congrArg (fun r => r.transport.cue) (hd p s)
      simpa [deckRecords] using this
    rw [deckRecords_halt p q hcue, hd p s, hd q s, if_pos rfl]
    split <;> rfl
  have hput : deckRecords (putMotion a p none s) q =
      if q = p then { deckRecords s p with transport := { s.transport p with motion := none } } else deckRecords s q := by
    have htold : ∀ (o : Requester) (u : State), deckRecords (tellCancelled a o p 0 u) q = deckRecords u q := by
      intro o u
      unfold tellCancelled
      split <;> rfl
    unfold putMotion
    dsimp only
    split
    · rw [htold, deckRecords_setTransport]
    · exact deckRecords_setTransport _ _ _ _
  have hsame : deckRecords s q = if q = p then deckRecords s p else deckRecords s q := by
    split
    · rename_i hq
      rw [hq]
    · rfl
  unfold act
  cases hst : (s.transport p).state with
  | offline => simpa [movable, hst] using hsame
  | panel => simpa [movable, hst] using hsame
  | empty => simpa [movable, hst] using hsame
  | standby => simpa [movable, hst, actionMotion] using hsame
  | waking => simpa [movable, hst, actionMotion] using hput
  | idle => simpa [movable, hst, actionState, actionCmd] using hmoved
  | cueing => simpa [movable, hst, actionState, actionCmd] using hmoved
  | parked => simpa [movable, hst, actionState, actionCmd] using hmoved
  | rolling => simpa [movable, hst, actionState, actionCmd] using hmoved
  | winding => simpa [movable, hst, actionState, actionCmd] using hmoved

/-! ## Records as they were, or halted -/

/-- The settle count that a HALT leaves (R82, R115). -/
def haltSettle (r : DeckRecords) : Nat :=
  if r.transport.lastKind ≠ some .halt ∨ r.transport.speed < 0 then r.profile.settle else r.tracker.settle

/-- The records `u` are the records `r` but for commands, permission, cue, timer and pending motion; the deck of `u` is in
the state of `r`, or moved or stood and has been halted. -/
structure Halted (r u : DeckRecords) : Prop where
  port : u.port = { r.port with commands := u.port.commands, permission := u.port.permission }
  tracker : u.tracker = { r.tracker with settle := u.tracker.settle }
  profile : u.profile = r.profile
  condition : u.transport.condition = r.transport.condition
  wakeCount : u.transport.wakeCount = r.transport.wakeCount
  wakeTaken : u.transport.wakeTaken = r.transport.wakeTaken
  motion : r.transport.motion = none → u.transport.motion = none
  moved : u.transport.state = r.transport.state ∧ u.transport.speed = r.transport.speed
        ∧ u.transport.lastKind = r.transport.lastKind ∧ u.tracker.settle = r.tracker.settle
      ∨ movable r.transport.state = true ∧ u.transport.state = .idle ∧ u.transport.speed = 0
        ∧ u.transport.lastKind = some .halt ∧ u.tracker.settle = haltSettle r

namespace Halted

/-- As they were. -/
theorem refl (r : DeckRecords) : Halted r r :=
  ⟨rfl, rfl, rfl, rfl, rfl, rfl, id, .inl ⟨rfl, rfl, rfl, rfl⟩⟩

section
variable {r u : DeckRecords}

/-- Halted, or halted again. -/
theorem halt (h : Halted r u) (hm : movable u.transport.state = true) : Halted r (haltedRecords u) := by
  obtain ⟨hport, htracker, hprofile, h1, h2, h3, h4, hmoved⟩ := h
  have hsettle : (haltedRecords u).tracker.settle = haltSettle u := by
    unfold haltSettle haltedRecords
    simp only [← changeMark_halt]
    split <;> rfl
  refine ⟨?_, ?_, hprofile, h1, h2, h3, h4, .inr ?_⟩
  · unfold haltedRecords
    rw [hport]
  · unfold haltedRecords
    dsimp only
    split
    · rw [htracker]
    · exact htracker
  · rcases hmoved with ⟨hst, hsp, hk, hs⟩ | ⟨hr, -, hsp, hk, hs⟩
    · refine ⟨hst ▸ hm, rfl, rfl, rfl, ?_⟩
      rw [hsettle]
      simp only [haltSettle, hsp, hk, hs, hprofile]
    · refine ⟨hr, rfl, rfl, rfl, ?_⟩
      rw [hsettle, haltSettle, hsp, hk, if_neg (by simp), hs]

/-- The pending motion removed. -/
theorem still (h : Halted r u) : Halted r { u with transport := { u.transport with motion := none } } :=
  { h with motion := fun _ => rfl }

/-- Commands handed that are not of the transport controller. -/
theorem command (h : Halted r u) (cs : List DeckCmd) (b : Bool) :
    Halted r { u with port := { u.port with commands := cs, permission := b } } :=
  { h with port := by rw [h.port] }

end
end Halted

/-- Every deck of `t` has the records it has in `s`, or has been halted. -/
def AllHalted (s t : State) : Prop := ∀ p, Halted (deckRecords s p) (deckRecords t p)

namespace AllHalted

section
variable {s t u : State}

/-- No work. -/
theorem refl (s : State) : AllHalted s s := fun _ => .refl _

/-- Work that leaves the records of every deck. -/
theorem same (h : AllHalted s t) (hu : ∀ p, deckRecords u p = deckRecords t p) : AllHalted s u := fun p => hu p ▸ h p

/-- A command of the record class handed. -/
theorem handCommand (h : AllHalted s t) (p : Port) (c : DeckCmd) : AllHalted s (handCommand p c t) := by
  intro q
  have hr : deckRecords (Machine.handCommand p c t) q = if q = p then
      { deckRecords t p with port := { t.port p with
          permission := permissionAfter c (t.port p).permission
          commands := if (t.port p).line = .online then enqueue c (t.port p).commands else (t.port p).commands } }
      else deckRecords t q := by
    unfold deckRecords
    rw [handCommand_port]
    split
    · rename_i hq
      subst hq
      rfl
    · rfl
  rw [hr]
  split
  · rename_i hq
    subst hq
    exact (h q).command _ _
  · exact h q

/-- A HALT of the sequencer. -/
theorem seqAct (h : AllHalted s t) (p : Port) : AllHalted s (seqAct p .halt t) := by
  unfold Machine.seqAct
  split
  · intro q
    rw [deckRecords_act_halt]
    split
    · rename_i hq
      subst hq
      split
      · rename_i hm
        exact (h q).halt hm
      · split
        · exact (h q).still
        · exact h q
    · exact h q
  · exact h

end
end AllHalted

/-! ## The endings of an edit (R153) -/

/-- The outputs told of an end leave the decks. -/
theorem deckRecords_endOutputs (m : Mode) (completed : Bool) (s : State) (p : Port) :
    deckRecords (endOutputs m completed s) p = deckRecords s p :=
  (congrArg (fun u => deckRecords u p) (endOutputs_only m completed s) :)

/-- The SEQUENCER chase records removed leave the decks. -/
theorem deckRecords_removeSeqChases (d : DeckSet) (s : State) (p : Port) :
    deckRecords (removeSeqChases d s) p = deckRecords s p := by
  refine List.foldlRecOn (motive := fun u : State => deckRecords u p = deckRecords s p) (players d) _ rfl fun u hu q _ => ?_
  split
  · exact hu
  · exact hu

/-- What the final step makes of a state: holders, sequencer record and notices (R153). -/
theorem finalStep_form (s : State) : finalStep s = { s with
    holders := s.holders.mapAll (fun p h => if p ∈ (s.seq.decks.map deckPorts).getD [] then .free else h)
    seq := .idle
    notices := match s.seq.outcome with
      | some o => putNotice (.editEnd o) s.notices
      | none => s.notices } := by
  unfold finalStep
  cases ho : s.seq.outcome with
  | none => simp only [freePorts_eq]
  | some o =>
    simp only [freePorts_eq]
    rfl

/-- The final step leaves the decks. -/
theorem deckRecords_finalStep (s : State) (p : Port) : deckRecords (finalStep s) p = deckRecords s p := by
  rw [finalStep_form]
  rfl

/-- The ending of an edit halts decks. -/
theorem allHalted_endEdit (x : Edit) (o : EditOutcome) (early : Option FaultClass) (completed : Bool) (s : State) :
    AllHalted s (endEdit x o early completed s) := by
  have h1 : AllHalted s (disengageIfEngaged x.decks.recorder s) := by
    unfold disengageIfEngaged
    split
    · exact (AllHalted.refl s).handCommand _ _
    · exact .refl s
  have h2 := List.foldlRecOn (motive := fun u : State => AllHalted s u) (deckPorts x.decks) (fun s p => seqAct p .halt s) h1
    (fun u hu p _ => hu.seqAct p)
  have h3 := (h2.same (deckRecords_removeSeqChases x.decks _)).same (deckRecords_endOutputs x.mode completed _)
  unfold endEdit
  dsimp only
  split
  · exact h3.same (fun _ => rfl)
  · exact (h3.same (fun _ => rfl)).same (deckRecords_finalStep _)

/-- ABORT halts decks. -/
theorem allHalted_abortEdit (s : State) : AllHalted s (abortEdit s) := by
  unfold abortEdit faultOrCutShort
  split
  · exact .refl s
  · split
    · exact allHalted_endEdit _ _ _ _ s
    · exact allHalted_endEdit _ _ _ _ s

/-! ## The write taken by RESET (R169) -/

/-- The status write that stands handed. -/
def handedWrite : Handed → StatusWrite
  | .final w => w
  | .skip key _ c => skipWrite key c

/-- With RESET the write that stands handed is taken, and the edit and any run end. -/
theorem takeHanded_ending (s : State) : s.seq.handed = none ∧ takeHanded true s = s ∨
    ∃ h, s.seq.handed = some h ∧ (takeHanded true s = finalStep (writeTaken (handedWrite h) s) ∨
      ∃ n, takeHanded true s = raise (.runEnd n) (finalStep (writeTaken (handedWrite h) s))) := by
  unfold takeHanded
  split
  · rename_i hn
    exact .inl ⟨hn, rfl⟩
  · rename_i w hh
    refine .inr ⟨_, hh, ?_⟩
    dsimp only
    split
    · exact .inr ⟨_, rfl⟩
    · exact .inl rfl
  · rename_i key recIn c hh
    refine .inr ⟨_, hh, ?_⟩
    dsimp only
    split
    · exact .inr ⟨_, rfl⟩
    · exact .inl rfl

/-- What it makes of a state: the list, holders, the sequencer record and notices. -/
theorem takeHanded_ending_form (s : State) : s.seq.handed = none ∧ takeHanded true s = s ∨
    ∃ w hs ns, takeHanded true s =
      { s with list := takeWrite s.seq.heldKey w s.list, holders := hs, seq := .idle, notices := ns } := by
  rcases takeHanded_ending s with hn | ⟨h, -, ht | ⟨n, ht⟩⟩
  · exact .inl hn
  · exact .inr ⟨handedWrite h, _, _, ht.trans (finalStep_form (writeTaken (handedWrite h) s))⟩
  · exact .inr ⟨handedWrite h, _, _, ht.trans (congrArg (raise (.runEnd n)) (finalStep_form (writeTaken (handedWrite h) s)))⟩

/-- It leaves the decks. -/
theorem deckRecords_takeHanded_ending (s : State) (p : Port) : deckRecords (takeHanded true s) p = deckRecords s p := by
  rcases takeHanded_ending_form s with ⟨-, ht⟩ | ⟨w, hs, ns, ht⟩
  · rw [ht]
  · rw [ht]
    rfl

/-! ## Each deck's part of RESET (R98) -/

/-- The records of a deck after its part of RESET. -/
def resetRecords (r : DeckRecords) : DeckRecords :=
  if movable r.transport.state then haltedRecords r
  else { r with transport := { r.transport with
    cue := none, standbyTimer := 0
    motion := if r.transport.state = .waking then none else r.transport.motion } }

/-- A deck's part of RESET. -/
theorem deckRecords_resetDeck (p q : Port) (s : State) : deckRecords (resetDeck p s) q =
    if q = p then resetRecords (deckRecords s p) else deckRecords s q := by
  have hset := fun t => deckRecords_setTransport p q t s
  have hmoved : deckRecords (enterState p .idle (handTransport p .halt
      (s.setTransport p { s.transport p with cue := none, standbyTimer := 0 }))) q =
      if q = p then haltedRecords (deckRecords s p) else deckRecords s q := by
    rw [deckRecords_halt p q (by simp), hset, deckRecords_setTransport, if_pos rfl]
    split <;> rfl
  unfold resetDeck resetRecords
  cases hst : (s.transport p).state with
  | offline => simpa [movable, hst, deckRecords] using hset _
  | panel => simpa [movable, hst, deckRecords] using hset _
  | empty => simpa [movable, hst, deckRecords] using hset _
  | standby => simpa [movable, hst, deckRecords] using hset _
  | waking =>
    simp only [movable, hst, deckRecords, Bool.false_eq_true, if_false, if_true]
    refine (deckRecords_setTransport _ _ _ _).trans ?_
    rw [hset, deckRecords_setTransport, if_pos rfl, State.setTransport_self]
    split <;> rfl
  | idle => simpa [movable, hst, deckRecords] using hmoved
  | cueing => simpa [movable, hst, deckRecords] using hmoved
  | parked => simpa [movable, hst, deckRecords] using hmoved
  | rolling => simpa [movable, hst, deckRecords] using hmoved
  | winding => simpa [movable, hst, deckRecords] using hmoved

/-- Work for each port in turn that changes the records of that port alone. -/
theorem deckRecords_foldl {F : State → Port → State} {g : DeckRecords → DeckRecords}
    (hF : ∀ s p q, deckRecords (F s p) q = if q = p then g (deckRecords s p) else deckRecords s q) {ps : List Port}
    (hn : ps.Nodup) (s : State) (q : Port) :
    deckRecords (ps.foldl F s) q = if q ∈ ps then g (deckRecords s q) else deckRecords s q := by
  induction ps generalizing s with
  | nil => rfl
  | cons p rest ih =>
    obtain ⟨hp, hrest⟩ := List.nodup_cons.1 hn
    rw [List.foldl_cons, ih hrest, hF]
    by_cases hq : q = p
    · subst hq
      rw [if_neg hp, if_pos rfl, if_pos List.mem_cons_self]
    · simp [hq]

/-- The records of a deck after RESET: its part, and no permission (R74, R98). -/
theorem deckRecords_resetDecks (s : State) (p : Port) : deckRecords (resetDecks s) p =
    { resetRecords (deckRecords s p) with
      port := { (resetRecords (deckRecords s p)).port with permission := false } } := by
  have hone : ∀ u q r, deckRecords (resetDeck q (u.setHolder q .free)) r =
      if r = q then resetRecords (deckRecords u q) else deckRecords u r :=
    fun u q r => deckRecords_resetDeck q r (u.setHolder q .free)
  have hfold := deckRecords_foldl (F := fun s p => resetDeck p (s.setHolder p .free)) hone (ps := allPorts) (by decide) s p
  rw [if_pos (mem_allPorts p)] at hfold
  rw [← hfold]
  unfold resetDecks deckRecords
  dsimp only
  have hport : ∀ (v : PerPort DeckPort), (v.mapAll (fun _ d => { d with permission := false })).get p =
      { v.get p with permission := false } := fun v => PerPort.get_mapAll _ _ _
  congr 1
  exact hport _

/-- RESET frees every port and removes every chase record, and changes nothing else but the records of decks. -/
theorem resetDecks_only (s : State) : (∀ p, (resetDecks s).holder p = .free ∧ (resetDecks s).chase p = none) ∧
    { resetDecks s with
      ports := s.ports, transports := s.transports, trackers := s.trackers, holders := s.holders, chases := s.chases } = s := by
  have hone : ∀ (u : State) (q : Port), { resetDeck q u with
      ports := u.ports, transports := u.transports, trackers := u.trackers } = u := by
    intro u q
    unfold resetDeck
    dsimp only
    split
    · rfl
    · rfl
    · rfl
    · rfl
    · rfl
    · exact (congrArg (fun v : State => { v with transports := u.transports }) (handTransport_only q .halt _) :)
  have hholder : ∀ (u : State) (q r : Port), (resetDeck q u).holder r = u.holder r :=
    fun u q r => (congrArg (fun v : State => v.holder r) (hone u q) :)
  have hfold : ∀ (ps : List Port) (u : State) (q : Port),
      (ps.foldl (fun s p => resetDeck p (s.setHolder p .free)) u).holder q = if q ∈ ps then .free else u.holder q := by
    intro ps
    induction ps with
    | nil => exact fun u q => rfl
    | cons p rest ih =>
      intro u q
      rw [List.foldl_cons, ih, hholder, State.setHolder_holder]
      by_cases h1 : q ∈ rest <;> by_cases h2 : q = p <;> simp [h1, h2]
  refine ⟨fun p => ⟨?_, PerPort.get_const _ _⟩, ?_⟩
  · exact (hfold allPorts s p).trans (if_pos (mem_allPorts p))
  · have hkeep := List.foldlRecOn (motive := fun u : State => { u with
        ports := s.ports, transports := s.transports, trackers := s.trackers, holders := s.holders } = s) allPorts
      (fun s p => resetDeck p (s.setHolder p .free)) rfl (fun u hu q _ =>
        (congrArg (fun v : State => { v with
          ports := s.ports, transports := s.transports, trackers := s.trackers, holders := s.holders })
          (hone (u.setHolder q .free) q)).trans hu)
    exact (congrArg (fun v : State => { v with chases := s.chases }) hkeep :)

end Sys2Proof.Machine
end

-- ==== Console RESET ====
section
/-! RESET with no ripple in flight, and the chunk ends of a ripple that it finishes (R54, R74, R98, R158, R169, R192). -/

namespace Sys2Proof.Machine

/-! ## The records of a deck after RESET -/

/-- A deck that moves or stands has a line that is ONLINE (R75, R76). -/
theorem online_of_movable {d : DeckPort} {t : Transport} (h : TransportAgrees d t) (hm : movable t.state = true) :
    d.line = .online := by
  obtain ⟨hoff, hpanel, -, -⟩ := h
  cases hl : d.line with
  | online => rfl
  | offline =>
    rw [hoff.1 hl] at hm
    cases hm
  | panel =>
    rw [hpanel.1 hl] at hm
    cases hm

/-- A command handed is among the pending ones. -/
theorem mem_enqueue_self (c : DeckCmd) (cs : List DeckCmd) : c ∈ enqueue c cs := by
  induction cs with
  | nil => simp [enqueue]
  | cons d rest ih =>
    unfold enqueue
    split
    · exact List.mem_cons_self
    · exact List.mem_cons_of_mem _ ih

/-- A command handed leaves those of the other class. -/
theorem mem_enqueue_of_ne {c d : DeckCmd} {cs : List DeckCmd} (h : d ∈ cs) (hc : recordClass d ≠ recordClass c) :
    d ∈ enqueue c cs := by
  induction cs with
  | nil => cases h
  | cons e rest ih =>
    unfold enqueue
    rcases List.mem_cons.1 h with rfl | h
    · rw [if_neg hc]
      exact List.mem_cons_self
    · split
      · exact List.mem_cons_of_mem _ h
      · exact List.mem_cons_of_mem _ (ih h)

section
variable {r u : DeckRecords}

/-- A deck that has been halted has the settle count of its HALT. -/
theorem Halted.settle (h : Halted r u) (hk : u.transport.lastKind = some .halt) (hs : u.transport.speed = 0) :
    u.tracker.settle = haltSettle r := by
  rcases h.moved with ⟨-, hsp, hk', hset⟩ | ⟨-, -, -, -, hset⟩
  · rw [hset, haltSettle, ← hk', ← hsp, hk, hs, if_neg (by simp)]
  · exact hset

/-- A deck that neither moves nor stands has not been halted. -/
theorem Halted.unmoved (h : Halted r u) (hm : movable r.transport.state = false) :
    u.transport.state = r.transport.state ∧ u.transport.speed = r.transport.speed
      ∧ u.transport.lastKind = r.transport.lastKind ∧ u.tracker.settle = r.tracker.settle :=
  h.moved.resolve_right (fun k => by simp [hm] at k)

/-- A deck that moves or stands still does after an ending. -/
theorem Halted.movable (h : Halted r u) (hm : movable r.transport.state = true) : movable u.transport.state = true := by
  rcases h.moved with ⟨hst, -⟩ | ⟨-, hst, -⟩
  · rwa [hst]
  · rw [hst]
    rfl

/-- A deck's part of RESET leaves the records as they were, or halted. -/
theorem Halted.reset (h : Halted r u) : Halted r (resetRecords u) := by
  unfold resetRecords
  split
  · rename_i hm
    exact h.halt hm
  · refine { h with motion := fun hn => ?_ }
    dsimp only
    split
    · rfl
    · exact h.motion hn

/-- What RESET makes of a deck that moves or stands (R98). -/
theorem Halted.reset_moved (h : Halted r u) (hm : Machine.movable r.transport.state = true) :
    resetRecords u = haltedRecords u ∧ (resetRecords u).tracker.settle = haltSettle r := by
  have he : resetRecords u = haltedRecords u := if_pos (h.movable hm)
  refine ⟨he, h.reset.settle ?_ ?_⟩
  · rw [he]
    rfl
  · rw [he]
    rfl

/-- What RESET makes of any other deck (R98). -/
theorem Halted.reset_unmoved (h : Halted r u) (hm : Machine.movable r.transport.state = false) :
    (resetRecords u).transport.state = r.transport.state ∧ (resetRecords u).transport.speed = r.transport.speed
      ∧ (resetRecords u).transport.lastKind = r.transport.lastKind ∧ (resetRecords u).tracker.settle = r.tracker.settle
      ∧ (resetRecords u).port = u.port := by
  obtain ⟨hst, hsp, hk, hs⟩ := h.unmoved hm
  have he : ¬ Machine.movable u.transport.state = true := by simp [hst, hm]
  unfold resetRecords
  rw [if_neg he]
  exact ⟨hst, hsp, hk, hs, rfl⟩

/-- After RESET no cue stands, no standby timer runs, and no motion waits (R98). -/
theorem resetRecords_still (h : r.transport.motion.isSome → r.transport.state = .waking) (hu : Halted r u) :
    (resetRecords u).transport.cue = none ∧ (resetRecords u).transport.standbyTimer = 0
      ∧ (resetRecords u).transport.motion = none := by
  have hmotion : (resetRecords u).transport.motion = none := by
    cases hm : r.transport.motion with
    | none => exact hu.reset.motion hm
    | some m =>
      have hw := h (by simp [hm])
      have hn : Machine.movable r.transport.state = false := by rw [hw]; rfl
      obtain ⟨hst, -⟩ := hu.unmoved hn
      unfold resetRecords
      rw [if_neg (by simp [hst, hn])]
      simp [hst, hw]
  refine ⟨?_, ?_, hmotion⟩
  · unfold resetRecords
    split <;> rfl
  · unfold resetRecords
    split <;> rfl

/-- The state of a deck after RESET (R98). -/
theorem resetRecords_state (hu : Halted r u) : (resetRecords u).transport.state = (match r.transport.state with
    | .offline => .offline | .panel => .panel | .empty => .empty | .standby => .standby | .waking => .waking
    | _ => .idle) := by
  by_cases hm : Machine.movable r.transport.state = true
  · rw [(hu.reset_moved hm).1]
    cases hst : r.transport.state with
    | offline => simp [Machine.movable, hst] at hm
    | panel => simp [Machine.movable, hst] at hm
    | empty => simp [Machine.movable, hst] at hm
    | standby => simp [Machine.movable, hst] at hm
    | waking => simp [Machine.movable, hst] at hm
    | _ => rfl
  · rw [(hu.reset_unmoved (by simpa using hm)).1]
    cases hst : r.transport.state with
    | offline => rfl
    | panel => rfl
    | empty => rfl
    | standby => rfl
    | waking => rfl
    | _ => simp [Machine.movable, hst] at hm

/-- The tracker of a deck after RESET: at most its settle count is set (R82, R98). -/
theorem resetRecords_tracker (hu : Halted r u) : (resetRecords u).tracker = { r.tracker with
    settle := if Machine.movable r.transport.state = true
        ∧ (r.transport.lastKind ≠ some .halt ∨ r.transport.speed < 0)
      then r.profile.settle else r.tracker.settle } := by
  rw [hu.reset.tracker]
  by_cases hm : Machine.movable r.transport.state = true
  · rw [(hu.reset_moved hm).2, haltSettle]
    simp only [hm, true_and]
  · rw [(hu.reset_unmoved (by simpa using hm)).2.2.2.1, if_neg (fun k => hm k.1)]

end

/-! ## The end of the edit that RESET makes (R156, R169) -/

section
variable {s : State}

/-- Without a running edit ABORT changes nothing. -/
theorem abortEdit_none (h : liveEdit s = none) : abortEdit s = s := by
  unfold abortEdit faultOrCutShort
  rw [h]

/-- With the sequencer IDLE, or a write handed, no edit is running. -/
theorem SequencerWhole.liveEdit_none (h : SequencerWhole s) (hq : s.seq.phase = .idle ∨ s.seq.handed ≠ none) :
    liveEdit s = none := by
  obtain ⟨-, -, -, -, hclosing⟩ := h
  refine Machine.liveEdit_none (hq.elim live_idle fun hh => ?_)
  have hc := hclosing.2 (Option.isSome_iff_ne_none.2 hh)
  simp [live, hc]

/-- Without a running edit the sequencer is IDLE or has handed a write. -/
theorem SequencerWhole.idle_or_handed (h : SequencerWhole s) (hl : liveEdit s = none) :
    s.seq = .idle ∨ s.seq.handed ≠ none := by
  obtain ⟨hidle, hedit, -, -, hclosing⟩ := h
  by_cases hp : s.seq.phase = .idle
  · exact .inl (hidle hp)
  · refine .inr (Option.isSome_iff_ne_none.1 (hclosing.1 ?_))
    obtain ⟨x, hx⟩ := Option.isSome_iff_exists.1 (hedit hp)
    unfold liveEdit at hl
    split at hl
    · rw [hx] at hl
      cases hl
    · rename_i hn
      simpa [live, hp] using hn

/-- The ending of an edit leaves the sequencer IDLE, or with a write handed (R153). -/
theorem endEdit_settles (x : Edit) (o : EditOutcome) (early : Option FaultClass) (completed : Bool) (s : State) :
    (endEdit x o early completed s).seq = .idle ∨ (endEdit x o early completed s).seq.handed ≠ none := by
  unfold endEdit
  dsimp only
  split
  · exact .inr (by simp)
  · rw [finalStep_form]
    exact .inl rfl

/-- ABORT leaves the sequencer IDLE, or with a write handed. -/
theorem abortEdit_settles (h : SequencerWhole s) :
    (abortEdit s).seq = .idle ∨ (abortEdit s).seq.handed ≠ none := by
  cases hl : liveEdit s with
  | none =>
    rw [abortEdit_none hl]
    exact h.idle_or_handed hl
  | some x =>
    unfold abortEdit faultOrCutShort
    rw [hl]
    dsimp only
    split
    · exact endEdit_settles _ _ _ _ _
    · exact endEdit_settles _ _ _ _ _

/-- The state after the edit and any run were ended by RESET. -/
def ended (s : State) : State := takeHanded true (abortEdit s)

/-- The edit ended: the sequencer is IDLE. -/
theorem ended_seq (h : SequencerWhole s) : (ended s).seq = .idle := by
  rcases takeHanded_ending_form (abortEdit s) with ⟨hn, ht⟩ | ⟨w, hs, ns, ht⟩
  · unfold ended
    rw [ht]
    exact (abortEdit_settles h).resolve_right (fun k => k hn)
  · unfold ended
    rw [ht]

/-- Decks are halted at most. -/
theorem allHalted_ended (s : State) : AllHalted s (ended s) :=
  (allHalted_abortEdit s).same (deckRecords_takeHanded_ending _)

/-- With the sequencer IDLE there is nothing to end. -/
theorem ended_idle (h : SequencerWhole s) (hi : s.seq.phase = .idle) : ended s = s := by
  unfold ended
  rw [abortEdit_none (h.liveEdit_none (.inl hi))]
  rcases takeHanded_ending s with ⟨-, ht⟩ | ⟨x, hx, -⟩
  · exact ht
  · rw [h.1 hi] at hx
    cases hx

/-- ABORT leaves everything but the records of ports, the sequencer, the outputs and the notices. -/
theorem abortEdit_only (s : State) : { abortEdit s with
    ports := s.ports, transports := s.transports, trackers := s.trackers, chases := s.chases, notices := s.notices
    holders := s.holders, seq := s.seq, recorderFrame := s.recorderFrame, mix := s.mix, gpi := s.gpi } = s :=
  ((BlockWork.start s).faultOrCutShort .abort).only

/-- And so does the end of a run, but for the list. -/
theorem ended_only (s : State) : { ended s with
    ports := s.ports, transports := s.transports, trackers := s.trackers, chases := s.chases, notices := s.notices
    holders := s.holders, seq := s.seq, recorderFrame := s.recorderFrame, mix := s.mix, gpi := s.gpi
    list := s.list } = s := by
  have h := congrArg (fun u : State => { u with list := s.list }) (abortEdit_only s)
  rcases takeHanded_ending_form (abortEdit s) with ⟨-, ht⟩ | ⟨w, hs, ns, ht⟩
  · unfold ended
    rw [ht]
    exact h
  · unfold ended
    rw [ht]
    exact h

/-- The list after the edit was ended: at most a status and a previewed flag are written (R27, R55). -/
theorem ended_list (hr : s.list.ripple = none) : (ended s).list.events.map frozenFields = s.list.events.map frozenFields
    ∧ (ended s).list.keyCounter = s.list.keyCounter ∧ (ended s).list.ripple = none := by
  have hl : (abortEdit s).list = s.list := (congrArg State.list (abortEdit_only s) :)
  rcases takeHanded_ending_form (abortEdit s) with ⟨-, ht⟩ | ⟨w, hs, ns, ht⟩
  · unfold ended
    rw [ht, hl]
    exact ⟨rfl, rfl, hr⟩
  · unfold ended
    rw [ht, hl, takeWrite_still hr]
    exact ⟨map_frozenFields_updateKey _ _ _, rfl, hr⟩

/-! ## RESET (R192) -/

/-- The state of RESET after the edit was ended, every block but the answer and the polls. -/
def resetBlocks (s : State) : State :=
  { quietGpi (blackMix (resetDecks (resetDisengage (ended s)))) with notices := [] }

/-- RESET with no ripple in flight. -/
theorem resetRest_eq (s : State) : resetRest s = answer 0x27 .done [] (resetBlocks s) := rfl

/-- The DISENGAGE of RESET halts nothing. -/
theorem allHalted_resetDisengage (s : State) : AllHalted s (resetDisengage (ended s)) := by
  unfold resetDisengage
  split
  · exact (allHalted_ended s).handCommand _ _
  · exact allHalted_ended s

/-- The records of a deck after RESET. -/
theorem deckRecords_resetBlocks (s : State) (p : Port) : deckRecords (resetBlocks s) p =
    { resetRecords (deckRecords (resetDisengage (ended s)) p) with
      port := { (resetRecords (deckRecords (resetDisengage (ended s)) p)).port with permission := false } } := by
  have hquiet : ∀ u : State, deckRecords { quietGpi (blackMix u) with notices := [] } p = deckRecords u p := fun _ => rfl
  unfold resetBlocks
  rw [hquiet, deckRecords_resetDecks]

/-- The DISENGAGE of RESET changes the ports alone. -/
theorem resetDisengage_only (s : State) : { resetDisengage s with ports := s.ports } = s := by
  unfold resetDisengage
  split <;> rfl

/-- RESET taken and worked. -/
theorem exec_reset (h : Ready s) (hr : s.list.ripple = none) :
    exec (.reset []) s = .next (shortenPolls (answer 0x27 .done [] (resetBlocks (taken [] s)))) := by
  have hw := request_worked_now (code := 0x27) (owner := resetOwner) (body := []) h rfl
  have ho : resetOwner [] (taken [] s) = answer 0x27 .done [] (resetBlocks (taken [] s)) := by
    unfold resetOwner
    rw [if_neg (by simpa [taken, takeRequest, endTransfer] using hr), resetRest_eq]
  rw [ho] at hw
  exact hw

/-- The commands of a port after the DISENGAGE of RESET. -/
theorem resetDisengage_commands (s : State) (p : Port) : ((resetDisengage s).port p).commands =
    (if s.recorder = some p ∧ (s.port p).line = .online then enqueue .disengage else id) (s.port p).commands := by
  unfold resetDisengage
  cases hrec : s.recorder with
  | none => simp
  | some q =>
    dsimp only
    rw [handCommand_port]
    by_cases hq : p = q
    · subst hq
      by_cases hl : (s.port p).line = .online
      · simp [hl]
      · simp [hl]
    · simp [hq, Ne.symm hq]

end
end Sys2Proof.Machine
end

-- ==== The list as it stands and the list as it is shown ====
section
/-! During a ripple the list unit may hold what a finished list would show: the two stay in step through members worked ahead
and status writes, and so does what a chunk leaves (R49 to R51, R53). -/

namespace Sys2Proof.Machine

/-- What a ripple record holds but its worked-ahead list. -/
def rippleFrame (l : ListUnit) : Option (Int × List Nat × Nat) := l.ripple.map (fun q => (q.delta, q.members, q.frontier))

/-- A member worked ahead leaves the key counter and the frontier. -/
theorem workAhead_frame (k : Nat) (l : ListUnit) :
    (workAhead k l).keyCounter = l.keyCounter ∧ rippleFrame (workAhead k l) = rippleFrame l := by
  unfold workAhead
  split
  · rename_i r hr
    split
    · exact ⟨rfl, by simp [rippleFrame, hr]⟩
    · exact ⟨rfl, rfl⟩
  · exact ⟨rfl, rfl⟩

/-- A ripple is in flight when it has a frontier. -/
theorem ripple_isSome_eq (l : ListUnit) : l.ripple.isSome = (rippleFrame l).isSome := by simp [rippleFrame]

/-- A status write leaves the key counter and the frontier. -/
theorem takeWrite_frame (held : Option Nat) (w : StatusWrite) (l : ListUnit) :
    (takeWrite held w l).keyCounter = l.keyCounter ∧ rippleFrame (takeWrite held w l) = rippleFrame l :=
  workAhead_frame w.key l

/-- A relation of two lists that show the same, and that members worked ahead and status writes keep. -/
structure InStep (R : ListUnit → ListUnit → Prop) : Prop where
  view {l m : ListUnit} : R l m → viewEvents l = viewEvents m
  ahead {l m : ListUnit} (k : Nat) : R l m → R (workAhead k l) (workAhead k m)
  write {l m : ListUnit} (held : Option Nat) (w : StatusWrite) : R l m → R (takeWrite held w l) (takeWrite held w m)

/-- A list is in step with itself. -/
theorem inStep_eq : InStep Eq := ⟨congrArg viewEvents, fun k => congrArg (workAhead k), fun o w => congrArg (takeWrite o w)⟩

/-- The list after one chunk of a ripple and the list with the ripple finished. -/
def OneChunkOn (r : Ripple) (l shown : ListUnit) : Prop := showsOneChunkOn r l shown ∧ shown.ripple = none

/-- They are in step. -/
theorem inStep_oneChunkOn (r : Ripple) : InStep (OneChunkOn r) := by
  refine ⟨?_, ?_, ?_⟩
  · rintro l m ⟨⟨hv, -⟩, hn⟩
    exact hv.trans (viewEvents_eq_events hn).symm
  · rintro l m k ⟨⟨hv, hc, hf⟩, hn⟩
    have hm : workAhead k m = m := workAhead_still hn k
    obtain ⟨hkc, hfr⟩ := workAhead_frame k l
    rw [hm]
    exact ⟨⟨(viewEvents_workAhead k l).trans hv, hkc.trans hc, hfr.trans hf⟩, hn⟩
  · rintro l m held w ⟨⟨hv, hc, hf⟩, hn⟩
    obtain ⟨hkc, hfr⟩ := takeWrite_frame held w l
    refine ⟨⟨?_, hkc.trans (hc.trans (takeWrite_frame held w m).1.symm), hfr.trans hf⟩, ?_⟩
    · rw [viewEvents_takeWrite, hv, takeWrite_still hn]
    · rw [takeWrite_still hn]
      exact hn

/-- What a chunk leaves, and the list with the ripple finished. -/
theorem oneChunkOn_workChunk {l : ListUnit} {r : Ripple} (hr : l.ripple = some r) (hn : r.members.Nodup) :
    OneChunkOn r (workChunk l) { l with events := viewEvents l, ripple := none } := by
  refine ⟨⟨viewEvents_workChunk fun q hq => ?_, ?_, ?_⟩, rfl⟩
  · obtain rfl := Option.some.inj (hr.symm.trans hq)
    exact hn
  · rw [workChunk_eq hr]
  · rw [workChunk_eq hr]
    dsimp only
    split <;> rfl

/-! ## The end of a chunk -/

section
variable {s : State} {r : Ripple}

/-- The state with a chunk worked, RIPPLE END raised with the last, before the waiting requests are taken (R49, R53). -/
def chunkWorked (r : Ripple) (s : State) : State := { listDone r s with list := workChunk s.list }

/-- The end of a chunk: the chunk is worked, RIPPLE END raised with the last, and the waiting requests are taken. -/
theorem rippleChunkEndWork_eq (hr : s.list.ripple = some r) (first : Bool) :
    rippleChunkEndWork first s = takeBoth first (chunkWorked r s) := by
  have hsome : s.list.ripple.isSome = true := by rw [hr]; rfl
  have hw := workChunk_eq hr
  unfold rippleChunkEndWork
  rw [if_pos hsome]
  dsimp only
  congr 1
  by_cases hl : r.members.length ≤ r.frontier + 16
  · rw [if_pos hl] at hw
    have hnone : (workChunk s.list).ripple.isSome = false := by rw [hw]; rfl
    unfold chunkWorked listDone
    rw [if_neg (by rw [hnone]; simp), if_pos hl]
    rfl
  · rw [if_neg hl] at hw
    have hsome' : (workChunk s.list).ripple.isSome = true := by rw [hw]; rfl
    unfold chunkWorked listDone
    rw [if_pos hsome', if_neg hl]

/-- The last chunk leaves the list as it was seen. -/
theorem chunkWorked_last (hr : s.list.ripple = some r) (hl : r.members.length ≤ r.frontier + 16) :
    chunkWorked r s = listDone r s := by
  unfold chunkWorked
  rw [workChunk_last hr hl]
  rfl

/-- A chunk before the last leaves a ripple. -/
theorem workChunk_rippling (hr : s.list.ripple = some r) (hl : r.frontier + 16 < r.members.length) :
    (workChunk s.list).ripple.isSome = true := by
  rw [workChunk_eq hr, if_neg (by omega)]
  rfl

/-- Before the last chunk the list alone changes. -/
theorem chunkWorked_earlier (hl : r.frontier + 16 < r.members.length) :
    chunkWorked r s = { s with list := workChunk s.list } := by
  unfold chunkWorked listDone
  rw [if_neg (by omega)]

/-- Without a ripple the end of a chunk changes nothing. -/
theorem rippleChunkEndWork_none (hr : s.list.ripple = none) (first : Bool) : rippleChunkEndWork first s = s := by
  unfold rippleChunkEndWork
  rw [hr]
  rfl

/-- RIPPLE_CHUNK_END while hardware reset is over. -/
theorem exec_rippleChunkEnd (hin : s.inReset = false) (first : Bool) :
    exec (.rippleChunkEnd first) s = .next (shortenPolls (rippleChunkEndWork first s)) := work_running hin

/-- With no transfer on the link and nothing being worked a request is taken. -/
theorem ready_linkFreed (hin : s.inReset = false) : Ready { s with link := linkFreed s.link } :=
  ⟨hin, by simp [transferByte, linkByte, linkFreed, hin]⟩

end
end Sys2Proof.Machine
end

-- ==== What a taken write and an arm leave ====
section
/-! A handed write taken, an arm and the candidates of a run leave the keys, the key counter and the frontier of the list,
keep members worked, and leave everything but the records of decks, the claim table, the sequencer and the notices (R27, R51,
R139, R163, R164). -/

namespace Sys2Proof.Machine

/-! ## Work on the list -/

/-- A key that names no unworked member. -/
def KeyWorked (l : ListUnit) (k : Nat) : Prop := ∀ q ∈ l.ripple, unworked q k = false

/-- The key and the sources of an event, which neither ripples nor status writes change. -/
def origin (e : Event) : Nat × Source × Transition := (e.key, e.toSrc, e.transition)

/-- An event is seen with its own key and sources. -/
theorem viewEvents_origins (l : ListUnit) : (viewEvents l).map origin = l.events.map origin := by
  refine List.map_map.trans (List.map_congr_left fun e _ => ?_)
  rw [Function.comp_apply]
  unfold seen
  split
  · split <;> rfl
  · rfl

/-- What members worked ahead and status writes leave of a list. -/
structure ListWork (l m : ListUnit) : Prop where
  origins : m.events.map origin = l.events.map origin
  counter : m.keyCounter = l.keyCounter
  frame : rippleFrame m = rippleFrame l
  worked : ∀ k, KeyWorked l k → KeyWorked m k

namespace ListWork

/-- No work. -/
theorem refl (l : ListUnit) : ListWork l l := ⟨rfl, rfl, rfl, fun _ => id⟩

/-- Work after work. -/
theorem trans {l m n : ListUnit} (h : ListWork l m) (k : ListWork m n) : ListWork l n :=
  ⟨k.origins.trans h.origins, k.counter.trans h.counter, k.frame.trans h.frame, fun j hj => k.worked j (h.worked j hj)⟩

/-- A member worked ahead. -/
theorem ahead (k : Nat) (l : ListUnit) : ListWork l (workAhead k l) := by
  obtain ⟨hcounter, hframe⟩ := workAhead_frame k l
  refine ⟨?_, hcounter, hframe, fun j hj => ?_⟩
  · rw [← viewEvents_origins, viewEvents_workAhead, viewEvents_origins]
  · unfold workAhead
    split
    · rename_i r hr
      split
      · intro q hq
        obtain rfl := Option.some.inj hq
        have hu := hj r hr
        simp only [unworked, List.contains_cons, Bool.and_eq_false_iff, Bool.not_eq_false'] at hu ⊢
        exact hu.imp_right (fun ha => by rw [ha, Bool.or_true])
      · exact hj
    · exact hj

/-- A status write. -/
theorem write (held : Option Nat) (w : StatusWrite) (l : ListUnit) : ListWork l (takeWrite held w l) := by
  refine (ahead w.key l).trans ⟨?_, rfl, rfl, fun _ => id⟩
  refine List.map_map.trans (List.map_congr_left fun e _ => ?_)
  by_cases he : e.key = w.key
  · rw [Function.comp_apply, if_pos he]
    have hw := frozenFields_writtenEvent held w e
    unfold origin
    exact Prod.ext (congrArg Event.key hw :) (Prod.ext (congrArg Event.toSrc hw :) (congrArg Event.transition hw :))
  · rw [Function.comp_apply, if_neg he]

end ListWork

/-! ## Work on the state -/

/-- The held event is no unworked member. -/
def HoldWorked (s : State) : Prop := ∀ k ∈ s.seq.heldKey, KeyWorked s.list k

/-- No countdown is too long, or an edit has just been armed. -/
def Settled (s : State) : Prop := PollsShort s ∨ s.seq.phase ≠ .idle ∧ s.seq.handed = none

/-- `t` comes from `s` by taking writes, ending edits and arming: what is left, and what is kept of the held event. -/
structure Onward (s t : State) : Prop where
  only : { t with ports := s.ports, transports := s.transports, trackers := s.trackers, holders := s.holders, seq := s.seq
                  notices := s.notices, list := s.list } = s
  list : ListWork s.list t.list
  held : HoldWorked s → HoldWorked t

/-- Such work without an arm leaves short countdowns. -/
structure Quiet (s t : State) : Prop extends Onward s t where
  polls : PollsShort s → PollsShort t

/-- Such work with at most one arm, which comes last. -/
structure Step (s t : State) : Prop extends Onward s t where
  polls : PollsShort s → Settled t

section
variable {s t u : State}

/-- What else is left. -/
theorem Onward.left (h : Onward s t) : t.link = s.link ∧ t.reels = s.reels ∧ t.live = s.live ∧ t.ref = s.ref
    ∧ t.inReset = s.inReset ∧ t.pending = s.pending := by
  obtain ⟨hs, -, -⟩ := h
  exact ⟨(congrArg State.link hs :), (congrArg State.reels hs :), (congrArg State.live hs :), (congrArg State.ref hs :),
    (congrArg State.inReset hs :), (congrArg State.pending hs :)⟩

/-- Work after work. -/
theorem Onward.trans (h : Onward s t) (k : Onward t u) : Onward s u :=
  ⟨(congrArg (fun v : State => { v with
      ports := s.ports, transports := s.transports, trackers := s.trackers, holders := s.holders, seq := s.seq
      notices := s.notices, list := s.list }) k.only).trans h.only, h.list.trans k.list, fun hs => k.held (h.held hs)⟩

/-- No work. -/
theorem Quiet.refl (s : State) : Quiet s s := ⟨⟨rfl, .refl _, id⟩, id⟩

/-- Work after work. -/
theorem Quiet.trans (h : Quiet s t) (k : Quiet t u) : Quiet s u :=
  ⟨h.toOnward.trans k.toOnward, fun hs => k.polls (h.polls hs)⟩

/-- Work and then at most one arm. -/
theorem Quiet.step (h : Quiet s t) (k : Step t u) : Step s u :=
  ⟨h.toOnward.trans k.toOnward, fun hs => k.polls (h.polls hs)⟩

/-- Work without an arm. -/
theorem Quiet.still (h : Quiet s t) : Step s t := ⟨h.toOnward, fun hs => .inl (h.polls hs)⟩

/-- Work on the list. -/
theorem Quiet.ofList {l : ListUnit} (h : ListWork s.list l) : Quiet s { s with list := l } :=
  ⟨⟨rfl, h, fun hs k hk => h.worked k (hs k hk)⟩, id⟩

/-- A change of the sequencer record that holds a worked event, or the same. -/
theorem Quiet.setSeq {f : Sequencer → Sequencer} (h : ∀ k ∈ (f s.seq).heldKey, KeyWorked s.list k) :
    Quiet s (setSeq f s) := ⟨⟨rfl, .refl _, fun _ => (h : HoldWorked (Machine.setSeq f s))⟩, id⟩

/-- A notice. -/
theorem Quiet.raise (n : Notice) : Quiet s (raise n s) := ⟨⟨rfl, .refl _, id⟩, id⟩

/-- A port made FREE is polled no more often (R62). -/
theorem cadence_le_of_freed {p : Port} (hport : t.port p = s.port p) (htransport : t.transport p = s.transport p)
    (hchase : t.chase p = s.chase p) (hholder : t.holder p = s.holder p ∨ t.holder p = .free) :
    cadence s p ≤ cadence t p := by
  unfold cadence
  rw [hport, htransport, hchase]
  rcases hholder with hh | hh
  · rw [hh]
  · rw [hh]
    dsimp only
    split
    · exact Nat.le_refl _
    · split
      · split <;> omega
      · rename_i hbusy
        rw [if_neg (fun hb => hbusy ?_)]
        simp only [ne_eq, not_true_eq_false, decide_false, Bool.or_false] at hb
        simp only [Bool.or_eq_true] at hb ⊢
        tauto

/-- The final step of an edit: ports made FREE are polled no more often. -/
theorem Quiet.finalStep (s : State) : Quiet s (finalStep s) := by
  refine ⟨⟨?_, ?_, fun _ k hk => ?_⟩, fun hs p hp => ?_⟩
  · rw [finalStep_form]
  · rw [finalStep_form]
    exact .refl _
  · rw [finalStep_form] at hk
    cases hk
  · refine Nat.le_trans ?_ (cadence_le_of_freed (s := s) (t := Machine.finalStep s) ?_ ?_ ?_ ?_)
    · rw [finalStep_form]
      exact hs p hp
    · rw [finalStep_form]
      rfl
    · rw [finalStep_form]
      rfl
    · rw [finalStep_form]
      rfl
    · rw [finalStep_form]
      have hholder : ∀ v : PerPort Holder, (v.mapAll (fun p h =>
          if p ∈ (s.seq.decks.map deckPorts).getD [] then .free else h)).get p =
          if p ∈ (s.seq.decks.map deckPorts).getD [] then .free else v.get p := fun v => PerPort.get_mapAll _ _ _
      refine (em (p ∈ (s.seq.decks.map deckPorts).getD [])).symm.imp (fun hd => ?_) fun hd => ?_
      · exact (hholder _).trans (if_neg hd)
      · exact (hholder _).trans (if_pos hd)

/-- A handed write taken by the list unit. -/
theorem Quiet.writeTaken (w : StatusWrite) (s : State) : Quiet s (writeTaken w s) :=
  (Quiet.ofList (.write s.seq.heldKey w s.list)).trans (.setSeq (by simp))

/-- The hold lookup works the event ahead. -/
theorem Quiet.holdLookup {k : Nat} {e : Event} (h : holdLookup k s = some (e, t)) : Quiet s t ∧ KeyWorked t.list e.key := by
  obtain ⟨rfl, hf⟩ := holdLookup_eq h
  rw [findKey_key hf]
  exact ⟨.ofList (.ahead k s.list), workAhead_worked k s.list⟩

/-- An arm of a worked event. -/
theorem Step.arm {e : Event} (h : KeyWorked s.list e.key) (m : Mode) (d : DeckSet) (run : Option Run) :
    Step s (arm m e d run s) := by
  obtain ⟨hseq, -, hwork⟩ := arm_eq m e d run s
  have hlist : (Machine.arm m e d run s).list = s.list := ((blind_arm m e d run).keeps s).1
  refine ⟨⟨(congrArg (fun v : State => { v with seq := s.seq, list := s.list }) hwork.only :), hlist ▸ .refl _,
    fun _ k hk => ?_⟩,
    fun _ => .inr ?_⟩
  · rw [hseq] at hk
    obtain rfl : e.key = k := Option.some.inj hk
    rwa [hlist]
  · rw [hseq]
    exact ⟨nofun, rfl⟩

/-- The end of a run. -/
theorem Quiet.endRun (reason : RunReason) (key : Option Nat) (run : Run) (s : State) : Quiet s (endRun reason key run s) :=
  (Quiet.finalStep s).trans (.raise _)

/-- The next candidate of a run. -/
theorem Step.nextCandidate (run : Run) (s : State) : Step s (nextCandidate run s) := by
  unfold Machine.nextCandidate
  split
  · exact (Quiet.endRun _ _ _ s).still
  · rename_i e t ht
    obtain ⟨_, -, ht⟩ := Option.bind_eq_some_iff.1 ht
    obtain ⟨hquiet, hworked⟩ := Quiet.holdLookup ht
    split
    · refine (hquiet.trans (.finalStep t)).step (.arm ?_ _ _ _)
      rwa [finalStep_list]
    · refine (hquiet.trans (.setSeq fun k hk => ?_)).still
      obtain rfl : e.key = k := Option.some.inj hk
      exact hworked

/-- The passage after an edit or a skip. -/
theorem Step.passOn (response : Option RunReason) (key : Nat) (run : Run) (s : State) :
    Step s (passOn response key run s) := by
  cases response with
  | none => exact .nextCandidate run s
  | some reason => exact (Quiet.endRun reason (some key) run s).still

/-- Nothing is taken when no write stands handed. -/
theorem takeHanded_none (hh : s.seq.handed = none) (ending : Bool) : takeHanded ending s = s := by
  unfold takeHanded
  rw [hh]

/-- A handed write taken: the write, and then the end or the next candidate. -/
theorem takeHanded_written {h : Handed} (hh : s.seq.handed = some h) (ending : Bool) :
    Step (writeTaken (handedWrite h) s) (takeHanded ending s) := by
  unfold takeHanded
  rw [hh]
  cases h with
  | final w =>
    dsimp only
    split
    · exact .passOn _ _ _ _
    · exact (Quiet.finalStep _).still
  | skip key recIn c =>
    dsimp only
    split
    · exact .passOn _ _ _ _
    · exact (Quiet.finalStep _).still

/-- A handed write taken. -/
theorem Step.takeHanded (ending : Bool) (s : State) : Step s (takeHanded ending s) := by
  cases hh : s.seq.handed with
  | none =>
    rw [takeHanded_none hh]
    exact (Quiet.refl s).still
  | some h => exact (Quiet.writeTaken _ s).step (takeHanded_written hh ending)

/-- The event of a handed write is worked when it has been taken (R51). -/
theorem keyWorked_takeHanded {h : Handed} (hh : s.seq.handed = some h) (ending : Bool) :
    KeyWorked (takeHanded ending s).list (handedKey h) := by
  refine (takeHanded_written hh ending).list.worked _ ?_
  have hkey : handedKey h = (handedWrite h).key := by cases h <;> rfl
  rw [hkey]
  exact workAhead_worked (handedWrite h).key s.list

end
end Sys2Proof.Machine
end

-- ==== The same work on two lists in step ====
section
/-! Two states that differ only in a list in step, in reels no event refers to and in the console link do the same work: a
handed write, an edit request and RUN read the list as it is seen (R27, R50, R51, R138, R162). -/

namespace Sys2Proof.Machine

/-- The reels of an event are mounted on the same ports. -/
def SameMounts (e : Event) (s u : State) : Prop :=
  mountedPort u e.toSrc.reel = mountedPort s e.toSrc.reel ∧ ∀ f ∈ fromSource e, mountedPort u f.reel = mountedPort s f.reel

/-- Two states that differ in lists in step, in reels that no event refers to, and in the link. -/
structure Alike (R : ListUnit → ListUnit → Prop) (s u : State) : Prop where
  rest : withFrom u s = u
  lists : R s.list u.list
  mounts : ∀ e ∈ viewEvents s.list, SameMounts e s u

/-! ## The event that the hold lookup answers -/

/-- The hold lookup answers the event as it is seen (R50, R51). -/
theorem findKey_workAhead (k : Nat) (l : ListUnit) :
    findKey (workAhead k l) k = (viewEvents l).find? (fun e => e.key = k) := by
  have hkey : (fun e : Event => decide (e.key = k)) ∘ seen (workAhead k l) = fun e => decide (e.key = k) :=
    funext fun e => by rw [Function.comp_apply, seen_key]
  rw [← viewEvents_workAhead k l]
  unfold viewEvents findKey
  rw [List.find?_map, hkey]
  cases hf : (workAhead k l).events.find? (fun e => decide (e.key = k)) with
  | none => rfl
  | some e =>
    have he : e.key = k := by simpa using List.find?_some hf
    exact (congrArg some (seen_worked (he ▸ workAhead_worked k l))).symm

/-- The hold lookup, by what is seen of the list. -/
theorem holdLookup_seen (k : Nat) (s : State) : holdLookup k s =
    ((viewEvents s.list).find? (fun e => e.key = k)).map (fun e => (e, { s with list := workAhead k s.list })) := by
  rw [← findKey_workAhead]
  unfold holdLookup
  dsimp only
  cases findKey (workAhead k s.list) k <;> rfl

/-! ## Work that keeps two states alike -/

namespace Alike

section
variable {R : ListUnit → ListUnit → Prop} {s u : State}

/-- Work that neither reads nor changes lists, reels and link. -/
theorem blind (h : Alike R s u) {f : State → State} (hf : Blind f) : Alike R (f s) (f u) := by
  obtain ⟨hlist, hreels, -⟩ := hf.keeps s
  obtain ⟨hlist', hreels', hlink'⟩ := hf.keeps u
  refine ⟨?_, ?_, fun e he => ?_⟩
  · have hu : f u = withFrom u (f s) := (congrArg f h.rest).symm.trans (hf u s)
    refine Eq.trans ?_ hu.symm
    unfold withFrom
    rw [hlist', hreels', hlink']
  · rw [hlist, hlist']
    exact h.lists
  · rw [hlist] at he
    unfold SameMounts mountedPort
    rw [hreels, hreels']
    exact h.mounts e he

/-- Lists changed in step, with events of the same reels. -/
theorem list (h : Alike R s u) {l m : ListUnit} (hl : R l m)
    (hv : ∀ e ∈ viewEvents l, ∃ f ∈ viewEvents s.list, e.toSrc = f.toSrc ∧ e.transition = f.transition) :
    Alike R { s with list := l } { u with list := m } := by
  refine ⟨?_, hl, fun e he => ?_⟩
  · exact (congrArg (fun v : State => { v with list := m }) h.rest :)
  · obtain ⟨f, hf, hto, htr⟩ := hv e he
    obtain ⟨h1, h2⟩ := h.mounts f hf
    unfold SameMounts fromSource
    rw [hto, htr]
    exact ⟨h1, h2⟩

/-- A status write taken in both lists. -/
theorem takeWrite (hR : InStep R) (h : Alike R s u) (held : Option Nat) (w : StatusWrite) :
    Alike R { s with list := takeWrite held w s.list } { u with list := takeWrite held w u.list } := by
  refine h.list (hR.write held w h.lists) fun e he => ?_
  rw [viewEvents_takeWrite] at he
  obtain ⟨f, hf, rfl⟩ := List.mem_map.1 he
  have hw := frozenFields_writtenEvent held w f
  refine ⟨f, hf, ?_⟩
  split
  · exact ⟨(congrArg Event.toSrc hw :), (congrArg Event.transition hw :)⟩
  · exact ⟨rfl, rfl⟩

/-- A handed write taken by the list unit. -/
theorem writeTaken (hR : InStep R) (h : Alike R s u) (w : StatusWrite) :
    Alike R (writeTaken w s) (writeTaken w u) := by
  have hheld : u.seq.heldKey = s.seq.heldKey := (congrArg (fun v : State => v.seq.heldKey) h.rest :).symm
  unfold Machine.writeTaken
  rw [hheld]
  exact (h.takeWrite hR s.seq.heldKey w).blind (fun _ _ => rfl)

/-- The same tests before an arm. -/
theorem armChecks (h : Alike R s u) {e : Event} (he : e ∈ viewEvents s.list) (m : Mode) (ours : List Port) :
    armChecks m e ours u = armChecks m e ours s := by
  obtain ⟨hto, hfrom⟩ := h.mounts e he
  have hdecks : ∀ p, deckSetFor m e p u = deckSetFor m e p s := by
    intro p
    unfold deckSetFor
    cases m with
    | review => rfl
    | _ =>
      dsimp only
      rw [hto]
      cases hf : fromSource e with
      | none => rfl
      | some f => simp only [hfrom f hf]
  have hdecks' : ∀ p, deckSetFor m e p (withFrom u s) = deckSetFor m e p s := fun p => by rw [h.rest, hdecks]
  rw [← h.rest]
  unfold Machine.armChecks
  simp only [hdecks']
  rfl

/-- The hold lookup answers the same event, and leaves two states alike. -/
theorem holdLookup (hR : InStep R) (h : Alike R s u) (k : Nat) :
    holdLookup k s = none ∧ holdLookup k u = none ∨ ∃ e s' u', holdLookup k s = some (e, s') ∧ holdLookup k u = some (e, u')
      ∧ Alike R s' u' ∧ ∀ m ours, Machine.armChecks m e ours u' = Machine.armChecks m e ours s' := by
  have hahead : Alike R { s with list := workAhead k s.list } { u with list := workAhead k u.list } :=
    h.list (hR.ahead k h.lists) fun e he => ⟨e, viewEvents_workAhead k s.list ▸ he, rfl, rfl⟩
  rw [holdLookup_seen, holdLookup_seen, ← hR.view h.lists]
  cases hf : (viewEvents s.list).find? (fun e => e.key = k) with
  | none => exact .inl ⟨rfl, rfl⟩
  | some e =>
    refine .inr ⟨e, _, _, rfl, rfl, hahead, hahead.armChecks ?_⟩
    rw [viewEvents_workAhead]
    exact List.mem_of_find?_eq_some hf

/-- The candidate of a run is the same. -/
theorem candidate (hR : InStep R) (h : Alike R s u) (run : Run) :
    (nextEvent run s.list).bind (fun e => Machine.holdLookup e.key s) = none
        ∧ (nextEvent run u.list).bind (fun e => Machine.holdLookup e.key u) = none
      ∨ ∃ e s' u', (nextEvent run s.list).bind (fun e => Machine.holdLookup e.key s) = some (e, s')
        ∧ (nextEvent run u.list).bind (fun e => Machine.holdLookup e.key u) = some (e, u')
        ∧ Alike R s' u' ∧ ∀ m ours, Machine.armChecks m e ours u' = Machine.armChecks m e ours s' := by
  have hnext : nextEvent run u.list = nextEvent run s.list := by
    unfold nextEvent
    rw [hR.view h.lists]
  rw [hnext]
  cases nextEvent run s.list with
  | none => exact .inl ⟨rfl, rfl⟩
  | some e => exact h.holdLookup hR e.key

/-! ## A handed write taken -/

/-- The next candidate of a run. -/
theorem nextCandidate (hR : InStep R) (h : Alike R s u) (run : Run) :
    Alike R (nextCandidate run s) (nextCandidate run u) := by
  have hdecks : u.seq.decks = s.seq.decks := (congrArg (fun v : State => v.seq.decks) h.rest :).symm
  unfold Machine.nextCandidate
  rw [hdecks]
  rcases h.candidate hR run with ⟨hs, hu⟩ | ⟨e, s', u', hs, hu, h', hc⟩
  · rw [hs, hu]
    exact h.blind (blind_endRun .complete none run)
  · rw [hs, hu]
    dsimp only
    rw [hc]
    cases Machine.armChecks .run e ((s.seq.decks.map deckPorts).getD []) s' with
    | error r => exact h'.blind (f := setSeq _) (fun _ _ => rfl)
    | ok d => exact (h'.blind blind_finalStep).blind (blind_arm .run e d (some run))

/-- The passage after an edit or a skip. -/
theorem passOn (hR : InStep R) (h : Alike R s u) (response : Option RunReason) (key : Nat) (run : Run) :
    Alike R (passOn response key run s) (passOn response key run u) := by
  cases response with
  | none => exact h.nextCandidate hR run
  | some reason => exact h.blind (blind_endRun reason (some key) run)

/-- A handed write taken. -/
theorem takeHanded (hR : InStep R) (h : Alike R s u) (ending : Bool) :
    Alike R (takeHanded ending s) (takeHanded ending u) := by
  have hseq : u.seq = s.seq := (congrArg State.seq h.rest :).symm
  unfold Machine.takeHanded
  rw [hseq]
  cases s.seq.handed with
  | none => exact h
  | some x =>
    cases x with
    | final w =>
      dsimp only
      split
      · exact (h.writeTaken hR w).passOn hR _ _ _
      · exact (h.writeTaken hR w).blind blind_finalStep
    | skip key recIn c =>
      dsimp only
      split
      · exact (h.writeTaken hR (skipWrite key c)).passOn hR _ _ _
      · exact (h.writeTaken hR (skipWrite key c)).blind blind_finalStep

end
end Alike
end Sys2Proof.Machine
end

-- ==== Work that the console link has no part in ====
section
/-! The taking of a handed write and what RESET does to the blocks are the same whatever the console link holds, and leave
it alone (R187 to R189). -/

namespace Sys2Proof.Machine

/-- A state with another console link. -/
def withLink (l : Link) (s : State) : State := { s with link := l }

/-- The work is the same whatever the console link holds, and leaves it alone. -/
def LinkFree (f : State → State) : Prop := ∀ l s, f (withLink l s) = withLink l (f s)

section
variable {f g : State → State}

/-- Work that neither reads nor changes the list, the reels and the link. -/
theorem Blind.linkFree (h : Blind f) : LinkFree f := by
  intro l s
  obtain ⟨hlist, hreels, -⟩ := h.keeps s
  have hf : f (withLink l s) = withFrom (withLink l s) (f s) := h (withLink l s) s
  rw [hf]
  unfold withFrom withLink
  rw [← hlist, ← hreels]

/-- Work after work. -/
theorem LinkFree.comp (hf : LinkFree f) (hg : LinkFree g) : LinkFree (fun s => f (g s)) :=
  fun l s => (congrArg f (hg l s)).trans (hf l (g s))

/-- Such work leaves the link. -/
theorem LinkFree.link (h : LinkFree f) (s : State) : (f s).link = s.link := (congrArg State.link (h s.link s) :)

end

/-- A handed write taken. -/
theorem linkFree_takeHanded (ending : Bool) : LinkFree (takeHanded ending) := by
  intro l s
  have h : Alike Eq s (withLink l s) := ⟨rfl, rfl, fun _ _ => ⟨rfl, fun _ _ => rfl⟩⟩
  obtain ⟨hrest, hlist, -⟩ := h.takeHanded inStep_eq ending
  obtain ⟨-, hreels, -⟩ := (Step.takeHanded ending s).left
  obtain ⟨hlink', hreels', -⟩ := (Step.takeHanded ending (withLink l s)).left
  refine hrest.symm.trans ?_
  unfold withFrom
  rw [← hlist, hlink', hreels']
  exact congrArg (fun r => { takeHanded ending s with reels := r, link := l }) hreels.symm

/-- The edit that RESET ends. -/
theorem linkFree_ended : LinkFree ended :=
  (linkFree_takeHanded true).comp (f := takeHanded true) (g := abortEdit) (blind_faultOrCutShort .abort).linkFree

/-- What RESET does to the blocks. -/
theorem linkFree_resetBlocks : LinkFree resetBlocks := by
  intro l s
  have hd := (blind_resetDecks.linkFree.comp (blind_resetDisengage.linkFree.comp linkFree_ended)) l s
  dsimp only at hd
  unfold resetBlocks
  rw [hd]
  rfl

/-! ## A handed write, with or without a run -/

section
variable {s : State} {h : Handed}

/-- Outside a run a handed write taken ends the edit (R153). -/
theorem takeHanded_runless (hh : s.seq.handed = some h) (hr : s.seq.run = none) (ending : Bool) :
    takeHanded ending s = finalStep (writeTaken (handedWrite h) s) := by
  unfold takeHanded
  rw [hh]
  cases h with
  | final w => simp only [hr]; rfl
  | skip key recIn c => simp only [hr]; rfl

/-- A handed write taken by RESET in a run ends the edit and the run (R169). -/
theorem takeHanded_abortedRun {run : Run} {n : RunEnd} (hr : s.seq.run = some run)
    (hn : some n = (match s.seq.handed, s.seq.outcome, s.seq.copy with
      | some (.final _), some o, some e =>
        some (runReport (.fault .abort) (some e.key) (finishEvent o.written e.recIn e.key run))
      | some (.skip k recIn c), _, _ =>
        some (runReport (.fault .abort) (some k) (finishEvent (some (.skipped c)) recIn k run))
      | _, _, _ => none)) :
    ∃ h, s.seq.handed = some h ∧ takeHanded true s = raise (.runEnd n) (finalStep (writeTaken (handedWrite h) s)) := by
  unfold takeHanded
  cases hh : s.seq.handed with
  | none => simp [hh] at hn
  | some h =>
    refine ⟨h, rfl, ?_⟩
    cases h with
    | skip key recIn c =>
      simp only [hh, Option.some.injEq] at hn
      simp only [hr, hn]
      rfl
    | final w =>
      cases ho : s.seq.outcome with
      | none => simp [hh, ho] at hn
      | some o =>
        cases he : s.seq.copy with
        | none => simp [hh, ho, he] at hn
        | some e =>
          simp only [hh, ho, he, Option.some.injEq] at hn
          simp only [hr, hn]
          rfl

end
end Sys2Proof.Machine
end

-- ==== Console RESET settled ====
section
/-! RESET does each block's part, and finishes a ripple first. -/

namespace Sys2Proof.Machine

section
variable {s : State}

/-! ## What RESET leaves and changes -/

/-- RESET leaves the timebase, the reels, the settings, the link and the queue; its list and its sequencer record are those
of the ended edit; no notice is pending. -/
theorem resetBlocks_only (s : State) : { resetBlocks s with
      ports := s.ports, transports := s.transports, trackers := s.trackers, holders := s.holders, chases := s.chases
      notices := s.notices, seq := s.seq, recorderFrame := s.recorderFrame, mix := s.mix, gpi := s.gpi, list := s.list } = s
    ∧ (resetBlocks s).list = (ended s).list ∧ (resetBlocks s).seq = (ended s).seq := by
  have h1 := ended_only s
  have h2 := resetDisengage_only (ended s)
  obtain ⟨-, h3⟩ := resetDecks_only (resetDisengage (ended s))
  unfold resetBlocks
  generalize resetDecks (resetDisengage (ended s)) = w at *
  generalize resetDisengage (ended s) = v at *
  generalize ended s = u at *
  have hw : w = { v with
      ports := w.ports, transports := w.transports, trackers := w.trackers, holders := w.holders, chases := w.chases } := by
    conv_rhs => rw [← h3]
  have hv : v = { u with ports := v.ports } := by
    conv_rhs => rw [← h2]
  rw [hw, hv]
  exact ⟨h1, rfl, rfl⟩

/-- The outputs after RESET: black, no line active, and no notice pending (R178, R185, R191). -/
theorem resetBlocks_outputs (s : State) :
    (resetBlocks s).mix.out = .black ∧ (resetBlocks s).mix.staged = none ∧ (resetBlocks s).mix.ramp = none
      ∧ (resetBlocks s).gpi = { lines := .const none, armed := none } ∧ (resetBlocks s).notices = [] := by
  unfold resetBlocks
  generalize resetDecks (resetDisengage (ended s)) = u
  exact ⟨rfl, rfl, rfl, rfl, rfl⟩

/-- Every port is FREE and has no chase record after RESET (R98, R133). -/
theorem resetBlocks_free (s : State) (p : Port) : (resetBlocks s).holder p = .free ∧ (resetBlocks s).chase p = none := by
  have h := (resetDecks_only (resetDisengage (ended s))).1 p
  unfold resetBlocks
  generalize resetDecks (resetDisengage (ended s)) = u at *
  exact h

/-- A port is handed DISENGAGE by RESET when it has the role RECORDER and is ONLINE (R158). -/
theorem disengage_mem_reset {p : Port} (hrec : s.recorder = some p) (hl : (s.port p).line = .online) :
    DeckCmd.disengage ∈ ((resetDisengage (ended s)).port p).commands := by
  have hport : ((ended s).port p).line = (s.port p).line := (congrArg DeckPort.line (allHalted_ended s p).port :)
  have hrecorder : (ended s).recorder = s.recorder := (congrArg State.recorder (ended_only s) :)
  rw [resetDisengage_commands, if_pos ⟨hrecorder.trans hrec, hport.trans hl⟩]
  exact mem_enqueue_self _ _

/-- The commands after a deck's part of RESET: a deck that moves or stands is handed HALT (R98). -/
theorem resetRecords_commands {r u : DeckRecords} (hu : Halted r u) (ha : TransportAgrees r.port r.transport) :
    (resetRecords u).port.commands = (if movable r.transport.state then enqueue .halt else id) u.port.commands := by
  by_cases hm : movable r.transport.state = true
  · have hline : u.port.line = .online := by
      rw [hu.port]
      exact online_of_movable ha hm
    rw [(hu.reset_moved hm).1, if_pos hm]
    exact if_pos hline
  · rw [(hu.reset_unmoved (by simpa using hm)).2.2.2.2, if_neg hm]
    rfl

/-- A DISENGAGE handed before is still pending (R158). -/
theorem disengage_mem_halted {b : Bool} {cs : List DeckCmd} (h : DeckCmd.disengage ∈ cs) :
    DeckCmd.disengage ∈ (if b then enqueue .halt else id) cs := by
  cases b with
  | false => exact h
  | true => exact mem_enqueue_of_ne h (by decide)

/-- The records of a deck when RESET is done. -/
theorem reset_deck (s : State) (p : Port) :
    (resetBlocks s).transport p = (resetRecords (deckRecords (resetDisengage (ended s)) p)).transport
      ∧ (resetBlocks s).tracker p = (resetRecords (deckRecords (resetDisengage (ended s)) p)).tracker
      ∧ (resetBlocks s).port p =
        { (resetRecords (deckRecords (resetDisengage (ended s)) p)).port with permission := false } := by
  have h := deckRecords_resetBlocks s p
  exact ⟨congrArg DeckRecords.transport h, congrArg DeckRecords.tracker h, congrArg DeckRecords.port h⟩

/-! ## RESET with a ripple in flight (R54) -/

/-- With a ripple in flight RESET ends an edit as ABORT does, and waits. -/
theorem exec_reset_rippling (h : Ready s) (hr : s.list.ripple ≠ none) :
    ∃ u, exec (.abort []) s = .next u ∧ exec (.reset []) s = .next { u with link := leftWaiting s 0x27 [] } := by
  have hsome : (taken [] s).list.ripple.isSome = true := Option.isSome_iff_ne_none.2 hr
  have habort : exec (.abort []) s = .next (shortenPolls (abortOwner [] (taken [] s))) :=
    request_worked_now (code := 0x21) (owner := abortOwner) (body := []) h rfl
  have hreset : exec (.reset []) s = .next (shortenPolls (resetOwner [] (taken [] s))) :=
    request_worked_now (code := 0x27) (owner := resetOwner) (body := []) h rfl
  have hlink : (abortEdit (taken [] s)).link = (taken [] s).link := ((blind_faultOrCutShort .abort).keeps (taken [] s)).2.2
  have howner : ∃ a, abortOwner [] (taken [] s) = putAnswer a (abortEdit (taken [] s)) := by
    unfold abortOwner
    split
    · rename_i hi
      exact ⟨_, congrArg (refuse 0x21 .state) (abortEdit_none (liveEdit_none (live_idle hi))).symm⟩
    · split
      · rename_i hc
        exact ⟨_, congrArg (answer 0x21 .done []) (abortEdit_none (liveEdit_none (by simp [live, hc]))).symm⟩
      · exact ⟨_, rfl⟩
  obtain ⟨a, ha⟩ := howner
  refine ⟨_, habort, ?_⟩
  have howner : resetOwner [] (taken [] s) = leaveWaiting 0x27 [] (abortEdit (taken [] s)) := if_pos hsome
  rw [hreset, howner, ha]
  generalize abortEdit (taken [] s) = u at *
  unfold leaveWaiting
  rw [hlink]
  rfl

/-! ## The chunk ends that RESET waits for (R54) -/

section
variable {r : Ripple}

/-- The end of a chunk while RESET waits: a handed write is taken, and after the last chunk the reset is made. -/
theorem rippleChunkEndWork_resetting (hr : s.list.ripple = some r) {body : List Byte}
    (hw : s.link.waiting = some { code := 0x27, body := body }) (first : Bool) :
    rippleChunkEndWork first s = (if (workChunk s.list).ripple.isSome then takeHanded true (chunkWorked r s)
      else resetRest (takeHanded true (chunkWorked r s))) := by
  obtain ⟨hlink, -⟩ := (Step.takeHanded true (chunkWorked r s)).left
  have hwait : (takeHanded true (chunkWorked r s)).link.waiting = some { code := 0x27, body := body } :=
    (congrArg Link.waiting hlink).trans hw
  have hresetting : resetting (chunkWorked r s) = true := by
    have hw' : (chunkWorked r s).link.waiting = _ := hw
    unfold resetting
    rw [hw']
    rfl
  have hframe : (takeHanded true (chunkWorked r s)).list.ripple.isSome = (workChunk s.list).ripple.isSome := by
    rw [ripple_isSome_eq, ripple_isSome_eq, (Step.takeHanded true (chunkWorked r s)).list.frame]
    rfl
  rw [rippleChunkEndWork_eq hr, ← hframe]
  unfold takeBoth takeWaiting
  rw [hresetting, Bool.or_true, if_pos rfl, hwait]
  rfl

/-- The write that stands handed is taken before RESET, or by RESET itself: the same. -/
theorem ended_takeHanded (h : SequencerWhole s) : ended (takeHanded true s) = ended s := by
  cases hh : s.seq.handed with
  | none => rw [takeHanded_none hh]
  | some x =>
    have hq : abortEdit s = s := abortEdit_none (h.liveEdit_none (.inr (by simp [hh])))
    have he : ended s = takeHanded true s := congrArg (takeHanded true) hq
    have hidle : (takeHanded true s).seq = .idle := he ▸ ended_seq h
    rw [he]
    unfold ended
    rw [abortEdit_none (liveEdit_none (live_idle (by rw [hidle]; rfl))), takeHanded_none (by rw [hidle]; rfl)]

/-- A chunk before the last with RESET waiting in a run: the handed write is taken as outside a run, and the run ends. -/
theorem exec_rippleChunkEnd_abortedRun {run : Run} {n : RunEnd} {first : Bool} (hin : s.inReset = false)
    (hr : s.list.ripple = some r) (hnodup : r.members.Nodup) (hw : s.link.waiting = some { code := 0x27, body := [] })
    (hrun : s.seq.run = some run)
    (hn : some n = (match s.seq.handed, s.seq.outcome, s.seq.copy with
      | some (.final _), some o, some e =>
        some (runReport (.fault .abort) (some e.key) (finishEvent o.written e.recIn e.key run))
      | some (.skip k recIn c), _, _ =>
        some (runReport (.fault .abort) (some k) (finishEvent (some (.skipped c)) recIn k run))
      | _, _, _ => none)) (hl : r.frontier + 16 < r.members.length) :
    ∃ u, exec .statusWrite { s with
          list := { s.list with events := viewEvents s.list, ripple := none }
          seq := { s.seq with run := none } } = .next u ∧
      ∃ t, exec (.rippleChunkEnd first) s = .next t ∧ { t with list := u.list } =
        { u with notices := putNotice (.runEnd n) u.notices } ∧
      t.seq = Sequencer.idle ∧ showsOneChunkOn r t.list u.list := by
  have hseq : (chunkWorked r s).seq = s.seq := rfl
  obtain ⟨h, hh, ht⟩ := takeHanded_abortedRun (s := chunkWorked r s) hrun (by rw [hseq]; exact hn)
  have hu := takeHanded_runless (s := { s with
    list := { s.list with events := viewEvents s.list, ripple := none }, seq := { s.seq with run := none } }) hh rfl false
  have hshows := (inStep_oneChunkOn r).write s.seq.heldKey (handedWrite h) (oneChunkOn_workChunk hr hnodup)
  refine ⟨_, work_running hin, _, exec_rippleChunkEnd hin first, ?_⟩
  rw [rippleChunkEndWork_resetting hr hw, if_pos (workChunk_rippling hr hl), ht, statusWriteWork, if_neg (by simp), hu,
    chunkWorked_earlier hl, finalStep_form, finalStep_form]
  exact ⟨rfl, rfl, hshows.1⟩

/-- The last chunk with RESET waiting: the reset is made of the finished list. -/
theorem exec_rippleChunkEnd_reset {first : Bool} (hin : s.inReset = false) (hs : SequencerWhole s)
    (hr : s.list.ripple = some r) (hw : s.link.waiting = some { code := 0x27, body := [] })
    (hl : r.members.length ≤ r.frontier + 16) :
    ∃ u, exec (.reset []) { listDone r s with link := linkFreed s.link } = .next u ∧
      exec (.rippleChunkEnd first) s = .next { u with link := waitEnded s.link (some (say 0x27 .done [])) } := by
  have hready : Ready { listDone r s with link := linkFreed s.link } := ready_linkFreed (s := listDone r s) hin
  have hnone : (workChunk s.list).ripple.isSome = false := by
    rw [workChunk_last hr hl]
    rfl
  have hwhole : SequencerWhole (listDone r s) := hs
  have hblocks : resetBlocks (takeHanded true (listDone r s)) = resetBlocks (listDone r s) := by
    unfold resetBlocks
    rw [ended_takeHanded hwhole]
  have hlink : (resetBlocks (listDone r s)).link = s.link := linkFree_resetBlocks.link (listDone r s)
  refine ⟨_, exec_reset hready rfl, ?_⟩
  have htaken : resetBlocks (taken [] { listDone r s with link := linkFreed s.link }) = withLink _ (resetBlocks (listDone r s)) :=
    linkFree_resetBlocks _ (listDone r s)
  rw [exec_rippleChunkEnd hin, rippleChunkEndWork_resetting hr hw, hnone, chunkWorked_last hr hl, htaken, if_neg (by simp),
    resetRest_eq, hblocks]
  generalize resetBlocks (listDone r s) = b at *
  unfold waitEnded
  rw [← hlink]
  rfl

end

end
end Sys2Proof.Machine

open Sys2Proof Sys2Proof.Machine

/-- Settles O24: an ending and RESET leave each deck's records or halt them, and a chunk end takes the handed write and
then makes the reset. -/
theorem consoleResetDoesEachBlocksPart : Obligations.ConsoleResetDoesEachBlocksPart := by
  refine ⟨?_, ?_, ?_, ?_, ?_, ?_⟩
  · intro s h hs ha hr
    have hdeck := reset_deck (taken [] s)
    have hfree := resetBlocks_free (taken [] s)
    have hhalted : AllHalted s (resetDisengage (ended (taken [] s))) := allHalted_resetDisengage (taken [] s)
    have hdis := fun p => disengage_mem_reset (s := taken [] s) (p := p)
    obtain ⟨honly, hlist, hseq⟩ := resetBlocks_only (taken [] s)
    obtain ⟨hout, hstaged, hramp, hgpi, hnotices⟩ := resetBlocks_outputs (taken [] s)
    have hsw : SequencerWhole (taken [] s) := hs
    have hidle := ended_seq hsw
    obtain ⟨hev, hcount, hrip⟩ := ended_list (s := taken [] s) hr
    have hstill := ended_idle hsw
    refine ⟨_, exec_reset h hr, ?_⟩
    generalize resetBlocks (taken [] s) = b at *
    generalize resetDisengage (ended (taken [] s)) = v at *
    generalize ended (taken [] s) = u at *
    refine ⟨hseq.trans hidle, hnotices, hout, hstaged, hramp, fun l _ => ?_, (congrArg Gpi.armed hgpi :), fun p hp => ?_,
      hlist ▸ hev, hlist ▸ hcount, hlist ▸ hrip, fun hi => hlist.trans ((congrArg State.list (hstill hi) :)),
      (congrArg State.reels honly :), (congrArg State.ref honly :), (congrArg State.frame honly :),
      (congrArg State.live honly :), (congrArg State.snapshot honly :), (congrArg State.stored honly :),
      (congrArg State.inReset honly :), ?_⟩
    · have hlines : b.gpi.lines = .const none := (congrArg Gpi.lines hgpi :)
      exact (congrArg (fun x : PerLine (Option Fired) => x.get l) hlines).trans (PerLine.get_const _ _)
    · obtain ⟨ht, hk, hd⟩ := hdeck p
      obtain ⟨hta, -⟩ := ha p hp
      have hu := hhalted p
      obtain ⟨hcue, htimer, hmotion⟩ := resetRecords_still hta.2.2.2 hu
      have hcommands : (resetRecords (deckRecords v p)).port.commands =
          (if movable (s.transport p).state then enqueue .halt else id) (v.port p).commands := resetRecords_commands hu hta
      have hport : (shortenPolls (answer 0x27 .done [] b)).port p = { s.port p with
          commands := (resetRecords (deckRecords v p)).port.commands, permission := false
          countdown := min (s.port p).countdown (cadence (shortenPolls (answer 0x27 .done [] b)) p) } := by
        have hb : (answer 0x27 .done [] b).port p = b.port p := rfl
        rw [shortenPolls_port, cadence_shortenPolls, hb, hd, hu.reset.port]
        rfl
      have htransport : (shortenPolls (answer 0x27 .done [] b)).transport p = _ := ht
      have htracker : (shortenPolls (answer 0x27 .done [] b)).tracker p = _ := hk.trans (resetRecords_tracker hu)
      rw [hport, htransport, htracker]
      refine ⟨(hfree p).1, (hfree p).2, rfl, hcue, hmotion, htimer, hu.reset.condition, hu.reset.wakeCount, hu.reset.wakeTaken,
        rfl, rfl, rfl, rfl, rfl, rfl, rfl, resetRecords_state hu, fun hm => ?_, fun hm => ?_,
        fun hrec hl => ?_⟩
      · have hhalt : DeckCmd.halt ∈ (resetRecords (deckRecords v p)).port.commands := by
          rw [hcommands, if_pos hm]
          exact mem_enqueue_self _ _
        rw [(hu.reset_moved hm).1] at hhalt ⊢
        exact ⟨rfl, rfl, hhalt⟩
      · obtain ⟨-, hsp, hkind, -⟩ := hu.reset_unmoved hm
        exact ⟨hsp, hkind⟩
      · dsimp only
        rw [hcommands]
        exact disengage_mem_halted (hdis p hrec hl)
    · have hlink : b.link = (taken [] s).link := (congrArg State.link honly :)
      exact congrArg (fun k : Link => { k with working := false, waiting := none, answer := some (say 0x27 .done []) }) hlink
  · intro s h hs ha hr hi
    have hdeck := reset_deck (taken [] s)
    have hhalted : AllHalted s (resetDisengage (ended (taken [] s))) := allHalted_resetDisengage (taken [] s)
    have hcommands := resetDisengage_commands (taken [] s)
    have hstill : ended (taken [] s) = taken [] s := ended_idle hs hi
    refine ⟨_, exec_reset h hr, fun p hp => ?_⟩
    rw [hstill] at hdeck hhalted
    generalize resetBlocks (taken [] s) = b at *
    have hb : (shortenPolls (answer 0x27 .done [] b)).port p = { b.port p with
        countdown := min (b.port p).countdown (cadence (answer 0x27 .done [] b) p) } := shortenPolls_port _ p
    rw [hb, (hdeck p).2.2]
    exact (resetRecords_commands (hhalted p) (ha p hp).1).trans (congrArg _ (hcommands p))
  · intro s h hr
    exact exec_reset_rippling h hr
  · intro s r first hin hp hr hw hh hl
    rw [exec_rippleChunkEnd hin, rippleChunkEndWork_resetting hr hw, if_pos (workChunk_rippling hr hl),
      takeHanded_none (s := chunkWorked r s) hh, chunkWorked_earlier hl]
    have hp' : PollsShort { s with list := workChunk s.list } := hp
    rw [shortenPolls_eq hp']
  · intro s r first run n hin _ hr hnodup _ hw hrun hn hl
    exact exec_rippleChunkEnd_abortedRun hin hr hnodup hw hrun hn hl
  · intro s r first hin _ hs hr hw hl
    exact exec_rippleChunkEnd_reset hin hs hr hw hl

end

-- ==== The requests that wait for a chunk ====
section
/-! The lookups, the edit requests and RUN that wait for the end of a chunk are answered by what is seen of the list
(R50 to R52, R138, R160). -/

namespace Sys2Proof.Machine

/-! ## The codes of the requests that wait (R49, R197) -/

/-- The lookups. -/
def lookupCodes : List Byte := [0x01, 0x02, 0x03, 0x18, 0x19]

/-- The lookups, the edit requests and RUN. -/
def waitedCodes : List Byte := [0x01, 0x02, 0x03, 0x18, 0x19, 0x1E, 0x1F, 0x20, 0x23]

/-- The requests to the list unit. -/
def listCodes : List Byte := [0x01, 0x02, 0x03, 0x04, 0x05, 0x06, 0x07, 0x08, 0x09, 0x0A]

/-- The changes of the list, and LIST STATUS. -/
def busyCodes : List Byte := [0x04, 0x05, 0x06, 0x07, 0x08, 0x09, 0x0A]

/-! ## The lookups (R29 to R31, R109) -/

/-- Whether an event refers to a reel, by what is seen of the list. -/
theorem referenced_seen (s : State) (i : Nat) : referenced s i =
    (viewEvents s.list).any (fun e => e.toSrc.reel = i || (fromSource e).any (fun f => f.reel = i)) := by
  have hsame : ∀ e, (seen s.list e).toSrc = e.toSrc ∧ fromSource (seen s.list e) = fromSource e := by
    intro e
    unfold seen
    split
    · split
      · exact ⟨rfl, rfl⟩
      · exact ⟨rfl, rfl⟩
    · exact ⟨rfl, rfl⟩
  unfold referenced viewEvents
  rw [List.any_map]
  refine congrArg s.list.events.any (funext fun e => ?_)
  obtain ⟨hto, hfrom⟩ := hsame e
  rw [Function.comp_apply, hto, hfrom]

section
variable {s u : State}

/-- A lookup that waited leaves the state, and answers by the list as seen, the standard and the reels. -/
theorem lookup_same {w : Waiting} (hw : w.code ∈ lookupCodes)
    (hview : viewEvents u.list = viewEvents s.list) (hstd : u.std = s.std) (hreels : u.reels = s.reels) :
    ∃ a, takeUp w s = putAnswer a s ∧ takeUp w u = putAnswer a u := by
  obtain ⟨code, body⟩ := w
  have hlen : u.list.events.length = s.list.events.length := by simpa [viewEvents] using congrArg List.length hview
  have hpos : ∀ k, positionOf u.list k = positionOf s.list k := fun k => by unfold positionOf; rw [hview]
  have hat : ∀ i, reelAt u i = reelAt s i := fun i => by unfold reelAt; rw [hreels]
  have href : ∀ i, referenced u i = referenced s i := fun i => by rw [referenced_seen, referenced_seen, hview]
  simp only [lookupCodes, List.mem_cons, List.not_mem_nil, or_false] at hw
  rcases hw with rfl | rfl | rfl | rfl | rfl
  · change ∃ a, readByPositionOwner body s = _ ∧ readByPositionOwner body u = _
    unfold readByPositionOwner
    rw [hview, hlen, hstd]
    dsimp only
    split
    · exact ⟨_, rfl, rfl⟩
    · exact ⟨_, rfl, rfl⟩
  · change ∃ a, readByKeyOwner body s = _ ∧ readByKeyOwner body u = _
    unfold readByKeyOwner
    rw [hview, hlen, hstd]
    dsimp only
    simp only [hpos]
    split
    · exact ⟨_, rfl, rfl⟩
    · exact ⟨_, rfl, rfl⟩
  · have hfind : findEvent body u = findEvent body s := by
      unfold findEvent
      rw [hview, hstd]
    change ∃ a, findOwner body s = _ ∧ findOwner body u = _
    unfold findOwner
    rw [hfind, hstd]
    simp only [hpos]
    split
    · exact ⟨_, rfl, rfl⟩
    · exact ⟨_, rfl, rfl⟩
  · change ∃ a, readReelOwner body s = _ ∧ readReelOwner body u = _
    unfold readReelOwner
    dsimp only
    rw [hat, href]
    split
    · exact ⟨_, rfl, rfl⟩
    · exact ⟨_, rfl, rfl⟩
    · exact ⟨_, rfl, rfl⟩
  · have hnamed : reelNamed u (nameAt body 0) = reelNamed s (nameAt body 0) := by
      unfold reelNamed
      rw [hreels]
    have hmount : ∀ i, mountedPort u i = mountedPort s i := fun i => by unfold mountedPort; rw [hreels]
    change ∃ a, findReelOwner body s = _ ∧ findReelOwner body u = _
    unfold findReelOwner
    dsimp only
    rw [hnamed]
    simp only [hmount, href]
    split
    · exact ⟨_, rfl, rfl⟩
    · split
      · exact ⟨_, rfl, rfl⟩
      · exact ⟨_, rfl, rfl⟩

/-! ## Edit requests and RUN -/

/-- `t` and `v` come from `s` and `u` by the same answer after the same work. -/
def AnsweredAlike (R : ListUnit → ListUnit → Prop) (s u t v : State) : Prop :=
  ∃ a s' u', t = putAnswer a s' ∧ v = putAnswer a u' ∧ Alike R s' u' ∧ Step s s' ∧ Step u u'

section
variable {R : ListUnit → ListUnit → Prop} {s' u' t v : State}

/-- An answer alone. -/
theorem AnsweredAlike.answer (h : Alike R s u) (a : Answer) : AnsweredAlike R s u (putAnswer a s) (putAnswer a u) :=
  ⟨a, s, u, rfl, rfl, h, (Quiet.refl s).still, (Quiet.refl u).still⟩

/-- After work without an arm. -/
theorem AnsweredAlike.after (h : AnsweredAlike R s' u' t v) (hs : Quiet s s') (hu : Quiet u u') :
    AnsweredAlike R s u t v := by
  obtain ⟨a, x, y, ht, hv, hxy, hx, hy⟩ := h
  exact ⟨a, x, y, ht, hv, hxy, hs.step hx, hu.step hy⟩

/-- An arm answered. -/
theorem AnsweredAlike.arm (h : Alike R s u) {e : Event} (hs : KeyWorked s.list e.key) (hu : KeyWorked u.list e.key)
    (m : Mode) (d : DeckSet) (run : Option Run) (a : Answer) :
    AnsweredAlike R s u (putAnswer a (arm m e d run s)) (putAnswer a (arm m e d run u)) :=
  ⟨a, _, _, rfl, rfl, h.blind (blind_arm m e d run), .arm hs m d run, .arm hu m d run⟩

/-- The preroll of an edit is the same. -/
theorem Alike.preroll (h : Alike R s u) (e : Event) :
    prerollFor u e = prerollFor s e ∧ prerollShort u e = prerollShort s e := by
  rw [← h.rest]
  exact ⟨rfl, rfl⟩

/-- A single edit request. -/
theorem Alike.editOwner (hR : InStep R) (h : Alike R s u) (m : Mode) (body : List Byte) :
    AnsweredAlike R s u (editOwner m body s) (editOwner m body u) := by
  have hphase : u.seq.phase = s.seq.phase := (congrArg (fun v : State => v.seq.phase) h.rest :).symm
  unfold Machine.editOwner
  rw [hphase]
  split
  · exact .answer h _
  · unfold armStep
    rcases h.holdLookup hR (half body 0) with ⟨hs, hu⟩ | ⟨e, s', u', hs, hu, h', hc⟩
    · rw [hs, hu]
      exact .answer h _
    · obtain ⟨hqs, hws⟩ := Quiet.holdLookup hs
      obtain ⟨hqu, hwu⟩ := Quiet.holdLookup hu
      obtain ⟨hfor, hshort⟩ := h'.preroll e
      rw [hs, hu]
      dsimp only
      rw [hc, hfor, hshort]
      refine AnsweredAlike.after ?_ hqs hqu
      cases Machine.armChecks m e [] s' with
      | error r => exact .answer h' _
      | ok d => exact .arm h' hws hwu m d none _

/-- A run that ended before any event was armed. -/
theorem Alike.runEndedAtOnce (h : Alike R s u) (reason : RunReason) (key : Option Nat) (moved : Bool) (run : Run) :
    AnsweredAlike R s u (runEndedAtOnce reason key moved run s) (runEndedAtOnce reason key moved run u) := by
  have hstd : u.std = s.std := (congrArg State.std h.rest :).symm
  unfold Machine.runEndedAtOnce
  rw [hstd]
  exact .after (.answer (h.blind (f := raise (.runEnd (runReport reason key run))) (fun _ _ => rfl)) _) (.raise _) (.raise _)

/-- The candidates of RUN. -/
theorem Alike.runCandidates (hR : InStep R) (moved : Bool) (used : List Byte) (fuel : Nat) {s u : State}
    (h : Alike R s u) (run : Run) :
    AnsweredAlike R s u (runCandidates moved used fuel run s) (runCandidates moved used fuel run u) := by
  induction fuel generalizing s u run with
  | zero => exact h.runEndedAtOnce _ _ _ _
  | succ fuel ih =>
    unfold Machine.runCandidates
    rcases h.candidate hR run with ⟨hs, hu⟩ | ⟨e, s', u', hs, hu, h', hc⟩
    · rw [hs, hu]
      dsimp only
      split
      · exact .answer h _
      · exact h.runEndedAtOnce _ _ _ _
    · rw [hs, hu]
      obtain ⟨_, -, hs⟩ := Option.bind_eq_some_iff.1 hs
      obtain ⟨_, -, hu⟩ := Option.bind_eq_some_iff.1 hu
      obtain ⟨hqs, hws⟩ := Quiet.holdLookup hs
      obtain ⟨hqu, hwu⟩ := Quiet.holdLookup hu
      obtain ⟨hfor, hshort⟩ := h'.preroll e
      dsimp only
      rw [hc, hfor, hshort]
      refine AnsweredAlike.after ?_ hqs hqu
      cases Machine.armChecks .run e [] s' with
      | ok d => exact .arm h' hws hwu .run d (some run) _
      | error r =>
        have hw := h'.takeWrite hR (some e.key) (skipWrite e.key (skipClass r))
        refine AnsweredAlike.after ?_ (.ofList (.write (some e.key) (skipWrite e.key (skipClass r)) s'.list))
          (.ofList (.write (some e.key) (skipWrite e.key (skipClass r)) u'.list))
        dsimp only
        split
        · exact hw.runEndedAtOnce _ _ _ _
        · exact ih hw _

/-- RUN from its sixth step on. -/
theorem Alike.runStep (hR : InStep R) (h : Alike R s u) (body : List Byte) :
    AnsweredAlike R s u (runStep body s) (runStep body u) := by
  have hfields : runFields body u = runFields body s := by
    rw [← h.rest]
    rfl
  have hstd : u.std = s.std := (congrArg State.std h.rest :).symm
  have hphase : u.seq.phase = s.seq.phase := (congrArg (fun v : State => v.seq.phase) h.rest :).symm
  have hlen : u.list.events.length = s.list.events.length := by
    simpa [viewEvents] using (congrArg List.length (hR.view h.lists)).symm
  unfold Machine.runStep
  rw [hfields, hphase, hstd, hlen]
  cases runFields body s with
  | error r => exact .answer h _
  | ok x =>
    dsimp only
    split
    · exact .answer h _
    · exact h.runCandidates hR _ _ _ _

/-- A lookup, an edit request or RUN that waited. -/
theorem Alike.takeUp (hR : InStep R) (h : Alike R s u) (hreels : u.reels = s.reels) {w : Waiting}
    (hw : w.code ∈ waitedCodes) :
    AnsweredAlike R s u (takeUp w s) (takeUp w u) := by
  by_cases hlookup : w.code ∈ lookupCodes
  · have hstd : u.std = s.std := (congrArg State.std h.rest :).symm
    obtain ⟨a, hs, hu⟩ := lookup_same hlookup (hR.view h.lists).symm hstd hreels
    rw [hs, hu]
    exact .answer h a
  · obtain ⟨code, body⟩ := w
    simp only [waitedCodes, lookupCodes, List.mem_cons, List.not_mem_nil, or_false, not_or] at hw hlookup
    obtain ⟨h1, h2, h3, h4, h5⟩ := hlookup
    rcases hw with k | k | k | k | k | rfl | rfl | rfl | rfl
    · exact absurd k h1
    · exact absurd k h2
    · exact absurd k h3
    · exact absurd k h4
    · exact absurd k h5
    · exact h.editOwner hR .perform body
    · exact h.editOwner hR .preview body
    · exact h.editOwner hR .review body
    · exact h.runStep hR body

end
end
end Sys2Proof.Machine
end

-- ==== Requests that waited, taken as transfers ====
section
/-! A request that waited acts as its transfer does with no ripple in flight, and the poll countdowns may be looked at between
the two that a chunk end takes (R49, R52, R62). -/

namespace Sys2Proof.Machine

section
variable {s : State} {w : Waiting} {c : Instr}

/-! ## The polls between two takings -/

/-- The cadences looked at twice. -/
theorem shortenPolls_idem (s : State) : shortenPolls (shortenPolls s) = shortenPolls s :=
  shortenPolls_eq (pollsShort_shortenPolls s)

/-- The cadences may be looked at before a handed write is taken. -/
theorem shortenPolls_takeHanded (h : Settled s) :
    shortenPolls (takeHanded false (shortenPolls s)) = shortenPolls (takeHanded false s) := by
  rcases h with hp | ⟨-, hh⟩
  · rw [shortenPolls_eq hp]
  · have hh' : (shortenPolls s).seq.handed = none := hh
    rw [takeHanded_none hh, takeHanded_none hh', shortenPolls_idem]

/-- While an edit is in progress a lookup answers and an edit request or RUN is refused: the state is left. -/
theorem takeUp_busy (hp : s.seq.phase ≠ .idle)
    (hw : w.code ∈ waitedCodes) :
    ∃ a, takeUp w s = putAnswer a s ∧ takeUp w (shortenPolls s) = putAnswer a (shortenPolls s) := by
  by_cases hlookup : w.code ∈ lookupCodes
  · exact lookup_same hlookup rfl rfl rfl
  · have hedit : ∀ m body, ∃ a, editOwner m body s = putAnswer a s
        ∧ editOwner m body (shortenPolls s) = putAnswer a (shortenPolls s) :=
      fun m body => ⟨_, if_pos hp, if_pos hp⟩
    obtain ⟨code, body⟩ := w
    simp only [waitedCodes, lookupCodes, List.mem_cons, List.not_mem_nil, or_false, not_or] at hw hlookup
    obtain ⟨h1, h2, h3, h4, h5⟩ := hlookup
    rcases hw with k | k | k | k | k | rfl | rfl | rfl | rfl
    · exact absurd k h1
    · exact absurd k h2
    · exact absurd k h3
    · exact absurd k h4
    · exact absurd k h5
    · exact hedit .perform body
    · exact hedit .preview body
    · exact hedit .review body
    · change ∃ a, runStep body s = _ ∧ runStep body (shortenPolls s) = _
      have hfields : runFields body (shortenPolls s) = runFields body s := rfl
      unfold runStep
      rw [hfields]
      cases runFields body s with
      | error r => exact ⟨_, rfl, rfl⟩
      | ok x => exact ⟨_, if_pos hp, if_pos hp⟩

/-- The cadences may be looked at before a lookup, an edit request or RUN is taken. -/
theorem shortenPolls_takeUp (h : Settled s)
    (hw : w.code ∈ waitedCodes) :
    shortenPolls (takeUp w (shortenPolls s)) = shortenPolls (takeUp w s) := by
  rcases h with hp | ⟨hi, -⟩
  · rw [shortenPolls_eq hp]
  · obtain ⟨a, hs, hu⟩ := takeUp_busy hi hw
    have ha : ∀ u, shortenPolls (putAnswer a u) = putAnswer a (shortenPolls u) := fun _ => rfl
    rw [hs, hu, ha, ha, shortenPolls_idem]

/-! ## The transfers (R52, R188) -/

/-- RUN with the reference and a recorder makes no test that is not made when it has waited (log entry 34). -/
theorem runOwner_eq_runStep (body : List Byte) (hp : s.ref.state = .present) (hrec : s.recorder.isSome) :
    runOwner body s = runStep body s := by
  unfold runOwner
  cases hf : runFields body s with
  | error r =>
    have hc : runChecks body s = .error r := by
      unfold runChecks
      rw [hf]
      rfl
    unfold runStep
    rw [hc, hf]
  | ok x =>
    by_cases hi : s.seq.phase = .idle
    · rw [runChecks_ok hf hi hp hrec]
    · have hc : runChecks body s = .error .state := by
        unfold runChecks check
        rw [hf]
        simp only [hi, decide_false]
        rfl
      unfold runStep
      rw [hc, hf]
      exact (if_pos hi).symm

/-- A request that waits for nothing is worked. -/
theorem request_taken {code : Nat} {fits : List Byte → Bool} {waits : List Byte → State → Bool}
    {owner : List Byte → State → State} {body : List Byte} {u : State} (h : Ready s) (hr : s.list.ripple = none)
    (hf : fits body = true) (hw : waits body (taken body s) = true → waitsForList body (taken body s) = true)
    (ho : owner body (taken body s) = u) :
    request code fits waits owner body s = .next (shortenPolls u) := by
  rw [request_worked h hf (Bool.eq_false_iff.2 fun k => ?_), ho]
  rw [waitsForList_free hr] at hw
  exact Bool.noConfusion (hw k)

/-- A lookup, an edit request or RUN that waited is worked as its transfer is with no ripple in flight. -/
theorem exec_waited (h : Ready s) (hr : s.list.ripple = none) (hc : requestCode c = some w.code)
    (hb : requestBody c = w.body) (hwf : c.wf = true)
    (hw : w.code ∈ waitedCodes)
    (hf : bodyLength c = some w.body.length ∨ (w.code = 0x19 ∧ nameFits w.body 0 = true))
    (hrun : w.code = 0x23 → s.ref.state = .present ∧ s.recorder.isSome) :
    exec c s = .next (shortenPolls (takeUp w (taken w.body s))) := by
  obtain ⟨code, body⟩ := w
  dsimp only at *
  have hfits : ∀ n, code ≠ 0x19 → bodyLength c = some n → lengthIs n body = true := by
    intro n hn hl
    rcases hf with hf | ⟨hf, -⟩
    · exact decide_eq_true (Option.some.inj (hf.symm.trans hl))
    · exact absurd hf hn
  cases c with
  | readByPosition b | readByKey b | find b =>
    obtain rfl := Option.some.inj hc
    obtain rfl : b = body := hb
    exact request_taken h hr (hfits _ (by decide) rfl) id rfl
  | readReel b =>
    obtain rfl := Option.some.inj hc
    obtain rfl : b = body := hb
    exact request_taken h hr (hfits _ (by decide) rfl) (fun k => (Bool.and_eq_true_iff.1 k).1) rfl
  | findReel b =>
    obtain rfl := Option.some.inj hc
    obtain rfl : b = body := hb
    have hname : nameFits b 0 = true := (hf.resolve_left (by simp [bodyLength])).2
    have hwaits : findReelWaits b (taken b s) = true → waitsForList b (taken b s) = true :=
      fun k => (Bool.and_eq_true_iff.1 (Bool.and_eq_true_iff.1 k).1).1
    exact request_taken (fits := (nameFits · 0)) h hr hname hwaits rfl
  | perform b | preview b | review b =>
    obtain rfl := Option.some.inj hc
    obtain rfl : b = body := hb
    exact request_taken h hr (hfits _ (by decide) rfl) (fun k => (Bool.and_eq_true_iff.1 k).1) rfl
  | run b =>
    obtain rfl := Option.some.inj hc
    obtain rfl : b = body := hb
    obtain ⟨hp, hrec⟩ := hrun rfl
    exact request_taken h hr (hfits _ (by decide) rfl) (fun k => (Bool.and_eq_true_iff.1 k).1)
      (runOwner_eq_runStep b hp hrec)
  | unknownRequest k b =>
    obtain rfl := Option.some.inj hc
    simp only [waitedCodes, List.mem_cons, List.not_mem_nil, or_false] at hw
    rcases hw with rfl | rfl | rfl | rfl | rfl | rfl | rfl | rfl | rfl <;> cases hwf
  | _ => simp [requestCode] at hc <;> subst hc <;> simp [waitedCodes] at hw

/-- A request to the list unit that waited is worked as its transfer is with no ripple in flight. -/
theorem exec_listRequest (h : Ready s) (hr : s.list.ripple = none) (hc : requestCode c = some w.code)
    (hb : requestBody c = w.body) (hf : listRequestFits c = true) :
    exec c s = .next (shortenPolls (takeUp w (taken w.body s)))
      ∧ w.code ∈ listCodes := by
  obtain ⟨code, body⟩ := w
  dsimp only at *
  cases c with
  | insert b | replace b | readByPosition b | readByKey b | find b | listStatus b | trim b | delete b | clearList b
  | ripple b =>
    obtain rfl := Option.some.inj hc
    obtain rfl : b = body := hb
    exact ⟨request_taken h hr hf id rfl, by decide⟩
  | _ => simp [listRequestFits, requestCode, bodyLength] at hf

end
end Sys2Proof.Machine
end

-- ==== The end of a chunk, request by request ====
section
/-! What the end of a ripple chunk does with a handed write and with the request that waits (R27, R49 to R53, R104). -/

namespace Sys2Proof.Machine

section
variable {R : ListUnit → ListUnit → Prop} {s u : State} {r : Ripple} {w : Waiting}

/-! ## Two states alike, put back together -/

/-- The links of two states that are alike may be replaced. -/
theorem Alike.relink (h : Alike R s u) (l k : Link) : Alike R (withLink l s) (withLink k u) :=
  ⟨(congrArg (withLink k) h.rest :), h.lists, h.mounts⟩

/-- The same reels are mounted alike. -/
theorem Alike.of_reels (hrest : withFrom u s = u) (hl : R s.list u.list) (hr : u.reels = s.reels) : Alike R s u := by
  refine ⟨hrest, hl, fun e _ => ?_⟩
  unfold SameMounts mountedPort
  rw [hr]
  exact ⟨rfl, fun _ _ => rfl⟩

/-- Two states that are alike differ in the list, the reels and the link alone. -/
theorem Alike.shortened (h : Alike R s u) (hr : u.reels = s.reels) :
    { shortenPolls s with list := u.list, link := u.link } = shortenPolls u := by
  have hs : shortenPolls u = withFrom u (shortenPolls s) :=
    (congrArg shortenPolls h.rest).symm.trans (blind_shortenPolls u s)
  rw [hs]
  unfold withFrom
  rw [hr]
  rfl

/-- What the end of a chunk leaves, and the list with the ripple finished. -/
theorem alike_chunkWorked (hr : s.list.ripple = some r) (hn : r.members.Nodup) :
    Alike (OneChunkOn r) (chunkWorked r s) (listDone r s) :=
  .of_reels rfl (oneChunkOn_workChunk hr hn) rfl

/-! ## The requests taken -/

/-- The end of a chunk without a request but RESET waiting. -/
theorem takeBoth_unwaited (hw : s.link.waiting = none) (first : Bool) : takeBoth first s = takeHanded false s := by
  obtain ⟨hlink, -⟩ := (Step.takeHanded false s).left
  have hr : resetting s = false := by
    unfold resetting
    rw [hw]
    rfl
  unfold takeBoth takeWaiting
  rw [hr, hlink, hw]
  exact ite_self _

/-- The end of a chunk with a request waiting: it and the handed write are taken, in either order (R49). -/
theorem takeBoth_waited (hw : s.link.waiting = some w) (hc : w.code ≠ 0x27) (first : Bool) :
    takeBoth first s = if first then takeUp w (takeHanded false s) else takeHanded false (takeUp w s) := by
  obtain ⟨hlink, -⟩ := (Step.takeHanded false s).left
  have hr : resetting s = false := by
    unfold resetting
    rw [hw]
    exact decide_eq_false hc
  unfold takeBoth takeWaiting
  rw [hr, hlink, hw, Bool.or_false]

/-- With nothing handed the request that waits is taken alone. -/
theorem takeBoth_unhanded (hw : s.link.waiting = some w) (hc : w.code ≠ 0x27) (hh : s.seq.handed = none)
    (hu : (takeUp w s).seq = s.seq) (first : Bool) : takeBoth first s = takeUp w s := by
  have hh' : (takeUp w s).seq.handed = none := hu ▸ hh
  rw [takeBoth_waited hw hc, takeHanded_none hh, takeHanded_none hh']
  exact ite_self _

/-- STATUS_WRITE with no ripple in flight, or with nothing handed. -/
theorem exec_statusWrite_taken (hin : s.inReset = false) (h : s.list.ripple = none ∨ s.seq.handed = none) :
    exec .statusWrite s = .next (shortenPolls (takeHanded false s)) := by
  refine (work_running hin).trans ?_
  unfold statusWriteWork
  rcases h with hr | hh
  · rw [hr]
    rfl
  · rw [takeHanded_none hh, ite_self]

/-- STATUS_WRITE with no ripple in flight. -/
theorem exec_statusWrite (hin : s.inReset = false) (hr : s.list.ripple = none) :
    exec .statusWrite s = .next (shortenPolls (takeHanded false s)) := exec_statusWrite_taken hin (.inl hr)

/-- Work on a list without a ripple record starts none. -/
theorem ListWork.unrippled {l m : ListUnit} (h : ListWork l m) (hl : l.ripple = none) : m.ripple = none := by
  have hf := h.frame
  unfold rippleFrame at hf
  rw [hl] at hf
  exact Option.map_eq_none_iff.1 hf

/-! ## A handed write (R27, R49, R51) -/

/-- A handed write taken at the end of a chunk is taken as on the list as seen, and its event is worked. -/
theorem chunk_written {first : Bool} {h : Handed} (hin : s.inReset = false) (hr : s.list.ripple = some r)
    (hn : r.members.Nodup) (hh : s.seq.handed = some h)
    (hw : rippleChunkEndWork first s = takeHanded false (chunkWorked r s)) :
    ∃ u, exec .statusWrite (listDone r s) = .next u ∧
      ∃ t, exec (.rippleChunkEnd first) s = .next t ∧ { t with list := u.list } = u ∧
      showsOneChunkOn r t.list u.list ∧
      (∀ q ∈ t.list.ripple, handedKey h ∈ q.members.drop q.frontier → handedKey h ∈ q.ahead) := by
  have ha := (alike_chunkWorked hr hn).takeHanded (inStep_oneChunkOn r) false
  obtain ⟨hlink, hreels, -⟩ := (Step.takeHanded false (chunkWorked r s)).left
  obtain ⟨hlink', hreels', -⟩ := (Step.takeHanded false (listDone r s)).left
  have hworked := keyWorked_takeHanded (s := chunkWorked r s) hh false
  refine ⟨_, exec_statusWrite hin rfl, _, exec_rippleChunkEnd hin first, ?_⟩
  rw [hw]
  refine ⟨?_, ha.lists.1, fun q hq hm => ?_⟩
  · refine Eq.trans ?_ (ha.shortened (hreels'.trans hreels.symm))
    have hl : (takeHanded false (listDone r s)).link = (takeHanded false (chunkWorked r s)).link := hlink'.trans hlink.symm
    rw [hl]
    rfl
  · by_contra ha
    have hu := hworked q hq
    rw [unworked_iff.2 ⟨hm, ha⟩] at hu
    cases hu

/-! ## A lookup, an edit request or RUN (R52, R138, R160) -/

/-- What taking a request and a handed write leaves, next to the same on the list as seen. -/
structure TakenAlike (R : ListUnit → ListUnit → Prop) (s t u : State) : Prop where
  alike : Alike R t u
  reels : u.reels = t.reels
  link : t.link = waitEnded s.link u.link.answer
  held : HoldWorked s → HoldWorked t

/-- A request is taken when no transfer is on the link and nothing is being worked. -/
theorem ready_of_linkFreed {k : Link} (hin : s.inReset = false) (hl : s.link = linkFreed k) : Ready s :=
  ⟨hin, by simp [transferByte, linkByte, hl, linkFreed, hin]⟩

/-- A state that took a request differs in the link alone. -/
theorem Alike.taken (h : Alike R s u) (body : List Byte) : Alike R s (taken body u) := h.relink s.link _

/-- A handed write and then a request, taken as STATUS_WRITE and the request's transfer. -/
theorem exec_requestSecond (hR : InStep R) {c : Instr} {k : Link} (h : Alike R s u) (hin : u.inReset = false)
    (hl : u.link = linkFreed k) (hreels : u.reels = s.reels) (hp : PollsShort u) (hripple : u.list.ripple = none)
    (hw : w.code ∈ waitedCodes)
    (hexec : ∀ v, Ready v → v.list.ripple = none → v.ref = u.ref → v.live = u.live →
      exec c v = .next (shortenPolls (takeUp w (Machine.taken w.body v)))) :
    ∃ v, exec .statusWrite u = .next v ∧
      ∃ x, exec c v = .next (shortenPolls x) ∧ TakenAlike R s (takeUp w (takeHanded false s)) x := by
  have hs := Step.takeHanded false s
  have hu := Step.takeHanded false u
  have ha := h.takeHanded hR false
  obtain ⟨hslink, hsreels, -⟩ := hs.left
  obtain ⟨hulink, hureels, hulive, huref, huin, -⟩ := hu.left
  have hsettled : Settled (Machine.taken w.body (takeHanded false u)) := hu.polls hp
  have hready : Ready (shortenPolls (takeHanded false u)) := ready_of_linkFreed (huin.trans hin) (hulink.trans hl)
  have hpolls : shortenPolls (takeUp w (Machine.taken w.body (shortenPolls (takeHanded false u)))) =
      shortenPolls (takeUp w (Machine.taken w.body (takeHanded false u))) := shortenPolls_takeUp hsettled hw
  refine ⟨_, exec_statusWrite hin hripple, _,
    (hexec _ hready (hu.list.unrippled hripple) huref hulive).trans (congrArg _ hpolls), ?_⟩
  obtain ⟨a, s', u', hs', hu', ha', hst, hut⟩ := (ha.taken w.body).takeUp hR (hureels.trans (hreels.trans hsreels.symm)) hw
  obtain ⟨hlink', hreels', -⟩ := hst.left
  obtain ⟨-, hreels'', -⟩ := hut.left
  rw [hs', hu']
  refine ⟨ha'.relink _ _, ?_, ?_, fun hh => hst.held (hs.held hh)⟩
  · exact hreels''.trans (hureels.trans (hreels.trans (hsreels.symm.trans hreels'.symm)))
  · exact congrArg (fun l => waitEnded l (some a)) (hlink'.trans hslink)

/-- A request and then a handed write, taken as the request's transfer and STATUS_WRITE. -/
theorem exec_requestFirst (hR : InStep R) {c : Instr} {k : Link} (h : Alike R s u) (hin : u.inReset = false)
    (hl : u.link = linkFreed k) (hreels : u.reels = s.reels) (hp : PollsShort u) (hripple : u.list.ripple = none)
    (hw : w.code ∈ waitedCodes)
    (hexec : ∀ v, Ready v → v.list.ripple = none → v.ref = u.ref → v.live = u.live →
      exec c v = .next (shortenPolls (takeUp w (Machine.taken w.body v)))) :
    ∃ v, exec c u = .next v ∧
      ∃ x, exec .statusWrite v = .next (shortenPolls x) ∧ TakenAlike R s (takeHanded false (takeUp w s)) x := by
  obtain ⟨a, s', u', hs', hu', ha', hst, hut⟩ := (h.taken w.body).takeUp hR hreels hw
  obtain ⟨hlink', hreels', -⟩ := hst.left
  obtain ⟨-, hreels'', -, -, hin', -⟩ := hut.left
  have hsettled : Settled (putAnswer a u') := hut.polls hp
  have hripple' : (shortenPolls (putAnswer a u')).list.ripple = none := hut.list.unrippled hripple
  refine ⟨_, hexec u (ready_of_linkFreed hin hl) hripple rfl rfl, ?_⟩
  rw [hs', hu']
  have hwrite := exec_statusWrite (s := shortenPolls (putAnswer a u')) (hin'.trans hin) hripple'
  refine ⟨_, hwrite.trans (congrArg _ (shortenPolls_takeHanded hsettled)), ?_⟩
  have hs := Step.takeHanded false (putAnswer a s')
  obtain ⟨hslink, hsreels, -⟩ := hs.left
  obtain ⟨hulink, hureels, -⟩ := (Step.takeHanded false (putAnswer a u')).left
  have hreel : u'.reels = s'.reels := hreels''.trans (hreels.trans hreels'.symm)
  have ha : Alike R (putAnswer a s') (putAnswer a u') := ha'.relink _ _
  refine ⟨ha.takeHanded hR false, hureels.trans (hreel.trans hsreels.symm), ?_, fun hh => hs.held (hst.held hh)⟩
  rw [hslink, hulink]
  exact congrArg (fun l => waitEnded l (some a)) hlink'

/-- A waiting lookup, edit request or RUN and a handed write, taken at the end of a chunk in either order. -/
theorem chunk_waited {c : Instr} {first : Bool} (hin : s.inReset = false) (hp : PollsShort s)
    (hr : s.list.ripple = some r) (hn : r.members.Nodup) (hwait : s.link.waiting = some w)
    (hc : requestCode c = some w.code) (hb : requestBody c = w.body) (hwf : c.wf = true)
    (hw : w.code ∈ waitedCodes)
    (hf : bodyLength c = some w.body.length ∨ (w.code = 0x19 ∧ nameFits w.body 0 = true))
    (hrun : w.code = 0x23 → s.ref.state = .present ∧ s.recorder.isSome) :
    ∃ v, exec (if first then .statusWrite else c) { listDone r s with link := linkFreed s.link } = .next v ∧
      ∃ x, exec (if first then c else .statusWrite) v = .next (shortenPolls x) ∧
        rippleChunkEndWork first s = takeBoth first (chunkWorked r s) ∧
        TakenAlike (OneChunkOn r) (chunkWorked r s) (takeBoth first (chunkWorked r s)) x := by
  have hne : w.code ≠ 0x27 := ne_of_mem_of_not_mem hw (by decide)
  have ha : Alike (OneChunkOn r) (chunkWorked r s) { listDone r s with link := linkFreed s.link } :=
    (alike_chunkWorked hr hn).relink s.link (linkFreed s.link)
  have hexec : ∀ v, Ready v → v.list.ripple = none → v.ref = s.ref → v.live = s.live →
      exec c v = .next (shortenPolls (takeUp w (taken w.body v))) := by
    intro v hready hripple href hlive
    refine exec_waited hready hripple hc hb hwf hw hf fun k => ?_
    unfold State.recorder
    rw [href, hlive]
    exact hrun k
  rw [rippleChunkEndWork_eq hr, takeBoth_waited (s := chunkWorked r s) hwait hne]
  cases first with
  | true =>
    obtain ⟨v, hv, x, hx, ht⟩ := exec_requestSecond (inStep_oneChunkOn r) ha hin rfl rfl hp rfl hw hexec
    exact ⟨v, hv, x, hx, rfl, ht⟩
  | false =>
    obtain ⟨v, hv, x, hx, ht⟩ := exec_requestFirst (inStep_oneChunkOn r) ha hin rfl rfl hp rfl hw hexec
    exact ⟨v, hv, x, hx, rfl, ht⟩

end
end Sys2Proof.Machine
end

-- ==== List requests and RETIRE at the end of a chunk ====
section
/-! The requests to the list unit and RETIRE that wait for the end of a chunk (R49, R52, R104). -/

namespace Sys2Proof.Machine

section
variable {s u : State} {w : Waiting} {r : Ripple}

/-! ## A request to the list unit changes the list at most -/

/-- A request to the list unit answers and changes the list at most, whatever the ports and the link are. -/
def ListAnswer (w : Waiting) (s : State) : Prop :=
  ∃ a l, ∀ v k, takeUp w { s with ports := v, link := k } = putAnswer a { s with list := l, ports := v, link := k }

/-- A change that is refused or taken. -/
theorem listAnswer_of_plan {plan : State → Except Reason Change} (hplan : ∀ v k, plan { s with ports := v, link := k } = plan s)
    {bad : Reason → Answer} (hbad : ∀ u x, plan u = .error x → takeUp w u = putAnswer (bad x) u)
    {good : Change → FrameStd → Answer}
    (hgood : ∀ u c, plan u = .ok c → takeUp w u = putAnswer (good c u.std) (setList c.list u)) :
    ListAnswer w s := by
  cases hp : plan s with
  | error x => exact ⟨bad x, s.list, fun v k => hbad _ x ((hplan v k).trans hp)⟩
  | ok c => exact ⟨good c s.std, c.list, fun v k => hgood _ c ((hplan v k).trans hp)⟩

/-- A lookup of the list. -/
theorem listAnswer_lookup (hw : w.code ∈ lookupCodes) : ListAnswer w s := by
  obtain ⟨a, ha, -⟩ := lookup_same (s := s) (u := s) hw rfl rfl rfl
  refine ⟨a, s.list, fun v k => ?_⟩
  obtain ⟨b, hb, hu⟩ := lookup_same (s := s) (u := { s with ports := v, link := k }) hw rfl rfl rfl
  have hab : some a = some b := (congrArg (fun t : State => t.link.answer) (ha.symm.trans hb) :)
  obtain rfl := Option.some.inj hab
  exact hu

/-- Every request to the list unit. -/
theorem listAnswer (hw : w.code ∈ listCodes) :
    ListAnswer w s := by
  obtain ⟨code, body⟩ := w
  simp only [listCodes, List.mem_cons, List.not_mem_nil, or_false] at hw
  rcases hw with rfl | rfl | rfl | rfl | rfl | rfl | rfl | rfl | rfl | rfl
  · exact listAnswer_lookup (by simp [lookupCodes])
  · exact listAnswer_lookup (by simp [lookupCodes])
  · exact listAnswer_lookup (by simp [lookupCodes])
  · exact ⟨say 0x04 .done (b2 s.list.events.length ++ b2 (nextKey s.list) ++ bFlag s.list.ripple.isSome), s.list,
      fun _ _ => rfl⟩
  · refine listAnswer_of_plan (plan := insertChange (rawEventAt body 0) (flagAt body (eventLength body 0)))
      (bad := deny 0x05) (good := fun c std => say 0x05 (doneOr c.moved) (b2 c.key ++ b2 (positionOf c.list c.key)
        ++ (if c.members = 0 then [] else b2 c.members) ++ bUsedLabels std (rawEventAt body 0).labels))
      (fun _ _ => rfl) (fun u x h => ?_) (fun u c h => ?_)
    · change insertOwner body u = _
      simp only [insertOwner, h]
      rfl
    · change insertOwner body u = _
      simp only [insertOwner, h]
      rfl
  · refine listAnswer_of_plan (plan := replaceChange (half body 0) (rawEventAt body 2))
      (bad := deny 0x06) (good := fun c std => say 0x06 (doneOr c.moved)
        (b2 c.key ++ b2 (positionOf c.list c.key) ++ bUsedLabels std (rawEventAt body 2).labels))
      (fun _ _ => rfl) (fun u x h => ?_) (fun u c h => ?_)
    · change replaceOwner body u = _
      simp only [replaceOwner, h]
      rfl
    · change replaceOwner body u = _
      simp only [replaceOwner, h]
      rfl
  · refine listAnswer_of_plan (plan := trimChange (half body 0) (byteAt body 2) (signedLong body 3))
      (bad := deny 0x07) (good := fun c std => say 0x07 .done
        (((findKey c.list c.key).map (bEvent std)).getD [] ++ b2 (positionOf c.list c.key)))
      (fun _ _ => rfl) (fun u x h => ?_) (fun u c h => ?_)
    · change trimOwner body u = _
      simp only [trimOwner, h]
      rfl
    · change trimOwner body u = _
      simp only [trimOwner, h]
      cases findKey c.list c.key <;> rfl
  · refine listAnswer_of_plan (plan := deleteChange (half body 0) (flagAt body 2))
      (bad := deny 0x08) (good := fun c _ => say 0x08 .done
        (b2 c.key ++ b2 c.list.events.length ++ (if flagAt body 2 then b2 c.members else [])))
      (fun _ _ => rfl) (fun u x h => ?_) (fun u c h => ?_)
    · change deleteOwner body u = _
      simp only [deleteOwner, h]
      rfl
    · change deleteOwner body u = _
      simp only [deleteOwner, h]
      rfl
  · refine listAnswer_of_plan (plan := clearChange) (bad := deny 0x09) (good := fun _ _ => say 0x09 .done [])
      (fun _ _ => rfl) (fun u x h => ?_) (fun u c h => ?_)
    · change clearListOwner body u = _
      simp only [clearListOwner, h]
      rfl
    · change clearListOwner body u = _
      simp only [clearListOwner, h]
      rfl
  · refine listAnswer_of_plan (plan := rippleChange (half body 0) (signedLong body 2))
      (bad := deny 0x0A) (good := fun c _ => say 0x0A .done
        (b2 (half body 0) ++ s4 (signedLong body 2) ++ b2 c.members ++ b2 c.list.events.length))
      (fun _ _ => rfl) (fun u x h => ?_) (fun u c h => ?_)
    · change rippleOwner body u = _
      simp only [rippleOwner, h]
      rfl
    · change rippleOwner body u = _
      simp only [rippleOwner, h]
      rfl

/-! ## The last chunk (R49, R53) -/

/-- A handed write and then a request to the list unit, taken as STATUS_WRITE and the request's transfer. -/
theorem exec_listSecond {c : Instr} {k : Link} (hin : s.inReset = false) (hripple : s.list.ripple = none)
    (hw : w.code ∈ listCodes)
    (hexec : ∀ v, Ready v → v.list.ripple = none → exec c v = .next (shortenPolls (takeUp w (taken w.body v)))) :
    ∃ v, exec .statusWrite (withLink (linkFreed k) s) = .next v ∧ ∃ u, exec c v = .next u ∧
      shortenPolls (takeUp w (takeHanded false s)) = { u with link := waitEnded s.link u.link.answer } := by
  have hstep := Step.takeHanded false s
  obtain ⟨hlink, -, -, -, hin', -⟩ := hstep.left
  have hripple' := hstep.list.unrippled hripple
  refine ⟨_, exec_statusWrite hin hripple, ?_⟩
  rw [linkFree_takeHanded false (linkFreed k) s]
  generalize takeHanded false s = y at *
  obtain ⟨a, l, ha⟩ := listAnswer (s := y) hw
  refine ⟨_, hexec _ (ready_of_linkFreed (hin'.trans hin) rfl) hripple', ?_⟩
  have hy : takeUp w y = putAnswer a (withLink y.link { y with list := l }) := ha y.ports y.link
  have hu : takeUp w (taken w.body (shortenPolls (withLink (linkFreed k) y))) =
      putAnswer a (withLink _ (shortenPolls { y with list := l })) := ha _ _
  have hshort : ∀ i v, shortenPolls (putAnswer a (withLink i v)) = putAnswer a (withLink i (shortenPolls v)) :=
    fun _ _ => rfl
  rw [hy, hu, hshort, hshort, shortenPolls_idem, hlink]
  rfl

/-- A request to the list unit and then a handed write, taken as the request's transfer and STATUS_WRITE. -/
theorem exec_listFirst {c : Instr} {k : Link} (hin : s.inReset = false) (hripple : s.list.ripple = none)
    (hp : PollsShort s)
    (hw : w.code ∈ listCodes)
    (hexec : ∀ v, Ready v → v.list.ripple = none → exec c v = .next (shortenPolls (takeUp w (taken w.body v)))) :
    ∃ v, exec c (withLink (linkFreed k) s) = .next v ∧ (v.list.ripple = none ∨ s.seq.handed = none →
      ∃ u, exec .statusWrite v = .next u ∧
        shortenPolls (takeHanded false (takeUp w s)) = { u with link := waitEnded s.link u.link.answer }) := by
  obtain ⟨a, l, ha⟩ := listAnswer (s := s) hw
  have hs : takeUp w s = putAnswer a (withLink s.link { s with list := l }) := ha s.ports s.link
  have hu : takeUp w (taken w.body (withLink (linkFreed k) s)) = putAnswer a (withLink _ { s with list := l }) := ha _ _
  have hp' : ∀ i, PollsShort (putAnswer a (withLink i { s with list := l })) := fun _ => hp
  refine ⟨_, hexec _ (ready_of_linkFreed hin rfl) hripple, fun hor => ?_⟩
  rw [hu, shortenPolls_eq (hp' _)] at hor ⊢
  rw [hs]
  have hput : ∀ i v, putAnswer a (withLink i v) = withLink (waitEnded i (some a)) v := fun _ _ => rfl
  have htake := linkFree_takeHanded false
  rw [hput] at hor ⊢
  rw [hput]
  refine ⟨_, exec_statusWrite_taken (s := withLink _ { s with list := l }) hin hor, ?_⟩
  rw [htake, htake]
  rfl

/-- At the end of the last chunk a request to the list unit and a handed write are taken as their commands are. -/
theorem lastChunk_listRequest {c : Instr} {first : Bool} (hin : s.inReset = false) (hp : PollsShort s)
    (hr : s.list.ripple = some r) (hwait : s.link.waiting = some w) (hc : requestCode c = some w.code)
    (hb : requestBody c = w.body) (hf : listRequestFits c = true) (hl : r.members.length ≤ r.frontier + 16) :
    ∃ v, exec (if first then .statusWrite else c) { listDone r s with link := linkFreed s.link } = .next v ∧
      (v.list.ripple = none ∨ s.seq.handed = none →
      ∃ u, exec (if first then c else .statusWrite) v = .next u ∧
      exec (.rippleChunkEnd first) s = .next { u with link := waitEnded s.link u.link.answer }) := by
  have hexec : ∀ v, Ready v → v.list.ripple = none → exec c v = .next (shortenPolls (takeUp w (taken w.body v))) :=
    fun v h k => (exec_listRequest h k hc hb hf).1
  have hcode := (exec_listRequest (ready_linkFreed (s := listDone r s) hin) rfl hc hb hf).2
  have hne : w.code ≠ 0x27 := ne_of_mem_of_not_mem hcode (by decide)
  rw [exec_rippleChunkEnd hin, rippleChunkEndWork_eq hr, chunkWorked_last hr hl,
    takeBoth_waited (s := listDone r s) hwait hne]
  cases first with
  | true =>
    obtain ⟨v, hv, u, hu, ht⟩ := exec_listSecond (s := listDone r s) (k := s.link) hin rfl hcode hexec
    exact ⟨v, hv, fun _ => ⟨u, hu, congrArg _ ht⟩⟩
  | false =>
    obtain ⟨v, hv, hor⟩ := exec_listFirst (s := listDone r s) (k := s.link) hin rfl hp hcode hexec
    refine ⟨v, hv, fun h => ?_⟩
    obtain ⟨u, hu, ht⟩ := hor h
    exact ⟨u, hu, congrArg _ ht⟩

end
end Sys2Proof.Machine
end

-- ==== The end of a ripple chunk settled ====
section
/-! Changes and LIST STATUS at an earlier chunk, RETIRE, and the chunk itself (R49, R53, R104). -/

namespace Sys2Proof.Machine

section
variable {s : State} {w : Waiting} {r : Ripple}

/-! ## The chunk -/

/-- A chunk leaves the keys and the sources of the events. -/
theorem workChunk_origins (l : ListUnit) : (workChunk l).events.map origin = l.events.map origin := by
  unfold workChunk
  split
  · rfl
  · refine List.map_map.trans (List.map_congr_left fun e _ => ?_)
    rw [Function.comp_apply]
    split <;> rfl

/-- What a chunk and a handed write leave of the list. -/
theorem chunkTaken_origins (hr : s.list.ripple = some r) : 
    (takeHanded false (chunkWorked r s)).list.events.map origin = s.list.events.map origin
      ∧ (takeHanded false (chunkWorked r s)).list.keyCounter = s.list.keyCounter := by
  have hwork := (Step.takeHanded false (chunkWorked r s)).list
  have hcounter : (workChunk s.list).keyCounter = s.list.keyCounter := by rw [workChunk_eq hr]
  exact ⟨hwork.origins.trans (workChunk_origins s.list), hwork.counter.trans hcounter⟩

/-- The end of a chunk without a request waiting. -/
theorem exec_rippleChunkEnd_unwaited (hin : s.inReset = false) (hr : s.list.ripple = some r) {l : Link}
    (hl : l.waiting = none) (first : Bool) : exec (.rippleChunkEnd first) { s with link := l } =
      .next (withLink l (shortenPolls (takeHanded false (chunkWorked r s)))) := by
  have hfree : takeHanded false (chunkWorked r { s with link := l }) = withLink l (takeHanded false (chunkWorked r s)) :=
    linkFree_takeHanded false l (chunkWorked r s)
  rw [exec_rippleChunkEnd (s := { s with link := l }) hin, rippleChunkEndWork_eq (s := { s with link := l }) hr,
    takeBoth_unwaited (s := chunkWorked r { s with link := l }) hl, hfree]
  rfl

/-- A handed write taken after an answer, or before it. -/
theorem takeHanded_putAnswer (a : Answer) (s : State) : takeHanded false (putAnswer a s) = putAnswer a (takeHanded false s) := by
  obtain ⟨hlink, -⟩ := (Step.takeHanded false s).left
  refine (linkFree_takeHanded false (waitEnded s.link (some a)) s).trans ?_
  rw [← hlink]
  rfl

/-- An answer at the end of a chunk, next to the end of the chunk without the request. -/
theorem exec_rippleChunkEnd_answered (hin : s.inReset = false) {l : Link} {a : Answer} {first : Bool}
    (h : rippleChunkEndWork first s = putAnswer a (takeHanded false (chunkWorked r s))) :
    exec (.rippleChunkEnd first) s =
      .next { withLink l (shortenPolls (takeHanded false (chunkWorked r s))) with link := waitEnded s.link (some a) } := by
  obtain ⟨hlink, -⟩ := (Step.takeHanded false (chunkWorked r s)).left
  have hlink' : (takeHanded false (chunkWorked r s)).link = s.link := hlink
  rw [exec_rippleChunkEnd hin, h, ← hlink']
  rfl

/-! ## List requests at an earlier chunk (R52) -/

/-- The next key depends on the keys in use and the counter. -/
theorem nextKey_congr {l m : ListUnit} (hk : l.events.map Event.key = m.events.map Event.key)
    (hc : l.keyCounter = m.keyCounter) : nextKey l = nextKey m := by
  have hused : ∀ k, keyUsed l k = keyUsed m k := fun k => by rw [Bool.eq_iff_iff, keyUsed_iff_mem, keyUsed_iff_mem, hk]
  have hfree : ∀ fuel k, firstFree l fuel k = firstFree m fuel k := by
    intro fuel
    induction fuel with
    | zero => exact fun _ => rfl
    | succ fuel ih =>
      intro k
      unfold firstFree
      rw [hused, ih]
  unfold nextKey
  rw [hfree, hc]

/-- What a change or LIST STATUS is answered while a ripple is in flight (R52). -/
def busyAnswer (w : Waiting) (std : FrameStd) (l : ListUnit) : Answer :=
  if w.code = 0x04 then say 0x04 .done (b2 l.events.length ++ b2 (nextKey l) ++ b1 1)
  else if w.code = 0x05 ∧ readTimes std (rawEventAt w.body 0) = none then deny 0x05 .badTime
  else if w.code = 0x06 ∧ readTimes std (rawEventAt w.body 2) = none then deny 0x06 .badTime
  else deny w.code .busy

/-- That answer depends on the keys and the counter alone. -/
theorem busyAnswer_congr {l m : ListUnit} (h : l.events.map origin = m.events.map origin) (hc : l.keyCounter = m.keyCounter)
    (w : Waiting) (std : FrameStd) : busyAnswer w std l = busyAnswer w std m := by
  have hlen : l.events.length = m.events.length := by simpa using congrArg List.length h
  have hkeys : l.events.map Event.key = m.events.map Event.key := by
    have hfst : ∀ es : List Event, (es.map origin).map Prod.fst = es.map Event.key := fun es => List.map_map
    rw [← hfst, h, hfst]
  unfold busyAnswer
  rw [hlen, nextKey_congr hkeys hc]

/-- While a ripple is in flight a change is refused, and LIST STATUS says so. -/
theorem takeUp_rippling (hr : s.list.ripple.isSome = true)
    (hw : w.code ∈ busyCodes) :
    takeUp w s = putAnswer (busyAnswer w s.std s.list) s := by
  have hnone : s.list.ripple.isNone = false := by
    rw [← Option.not_isSome, hr]
    rfl
  obtain ⟨code, body⟩ := w
  simp only [busyCodes, List.mem_cons, List.not_mem_nil, or_false] at hw
  rcases hw with rfl | rfl | rfl | rfl | rfl | rfl | rfl
  · change listStatusOwner body s = _
    unfold listStatusOwner
    rw [hr]
    rfl
  · change insertOwner body s = _
    cases ht : readTimes s.std (rawEventAt body 0) with
    | none =>
      have hc : insertChange (rawEventAt body 0) (flagAt body (eventLength body 0)) s = .error .badTime := by
        simp only [insertChange, ht]
        rfl
      simp only [insertOwner, hc, busyAnswer, ht]
      rfl
    | some x =>
      have hc : insertChange (rawEventAt body 0) (flagAt body (eventLength body 0)) s = .error .busy := by
        simp only [insertChange, ht, hnone]
        rfl
      simp only [insertOwner, hc, busyAnswer, ht]
      rfl
  · change replaceOwner body s = _
    cases ht : readTimes s.std (rawEventAt body 2) with
    | none =>
      have hc : replaceChange (half body 0) (rawEventAt body 2) s = .error .badTime := by
        simp only [replaceChange, ht]
        rfl
      simp only [replaceOwner, hc, busyAnswer, ht]
      rfl
    | some x =>
      have hc : replaceChange (half body 0) (rawEventAt body 2) s = .error .busy := by
        simp only [replaceChange, ht, hnone]
        rfl
      simp only [replaceOwner, hc, busyAnswer, ht]
      rfl
  · have hc : trimChange (half body 0) (byteAt body 2) (signedLong body 3) s = .error .busy := by
      simp only [trimChange, hnone]
      rfl
    change trimOwner body s = _
    simp only [trimOwner, hc]
    rfl
  · have hc : deleteChange (half body 0) (flagAt body 2) s = .error .busy := by
      simp only [deleteChange, hnone]
      rfl
    change deleteOwner body s = _
    simp only [deleteOwner, hc]
    rfl
  · have hc : clearChange s = .error .busy := by
      simp only [clearChange, hnone]
      rfl
    change clearListOwner body s = _
    simp only [clearListOwner, hc]
    rfl
  · have hc : rippleChange (half body 0) (signedLong body 2) s = .error .busy := by
      simp only [rippleChange, hnone]
      rfl
    change rippleOwner body s = _
    simp only [rippleOwner, hc]
    rfl

/-- A change or LIST STATUS that waits for a chunk before the last. -/
theorem earlierChunk_listRequest {first : Bool} (hin : s.inReset = false) (hr : s.list.ripple = some r)
    (hwait : s.link.waiting = some w) (hw : w.code ∈ busyCodes)
    (hl : r.frontier + 16 < r.members.length) :
    ∃ u, exec (.rippleChunkEnd first) { s with link := { s.link with waiting := none } } = .next u ∧
      exec (.rippleChunkEnd first) s = .next { u with link := waitEnded s.link (some (busyAnswer w s.std s.list)) } := by
  have hne : w.code ≠ 0x27 := ne_of_mem_of_not_mem hw (by decide)
  have hstep := Step.takeHanded false (chunkWorked r s)
  obtain ⟨hlink, -, hlive, -⟩ := hstep.left
  have hstd : (takeHanded false (chunkWorked r s)).std = s.std := congrArg (fun v => v.system.std) hlive
  have hsome : (takeHanded false (chunkWorked r s)).list.ripple.isSome = true := by
    rw [ripple_isSome_eq, hstep.list.frame, ← ripple_isSome_eq]
    exact workChunk_rippling hr hl
  obtain ⟨horigins, hcounter⟩ := chunkTaken_origins hr
  refine ⟨_, exec_rippleChunkEnd_unwaited hin hr rfl first, exec_rippleChunkEnd_answered hin ?_⟩
  rw [rippleChunkEndWork_eq hr, takeBoth_waited (s := chunkWorked r s) hwait hne]
  cases first with
  | true =>
    refine (takeUp_rippling hsome hw).trans ?_
    rw [hstd, busyAnswer_congr horigins hcounter]
  | false =>
    have hbusy : takeUp w (chunkWorked r s) = putAnswer (busyAnswer w s.std (workChunk s.list)) (chunkWorked r s) :=
      takeUp_rippling (s := chunkWorked r s) (workChunk_rippling hr hl) hw
    have hcounter' : (workChunk s.list).keyCounter = s.list.keyCounter := by rw [workChunk_eq hr]
    refine (congrArg (takeHanded false) hbusy).trans ((takeHanded_putAnswer _ _).trans ?_)
    rw [busyAnswer_congr (workChunk_origins s.list) hcounter']

/-! ## RETIRE (R104) -/

/-- Events with the same sources refer to the same reels. -/
theorem any_congr_origin {es fs : List Event} (h : es.map origin = fs.map origin) {p : Event → Bool}
    (hp : ∀ e f, origin e = origin f → p e = p f) : es.any p = fs.any p := by
  induction es generalizing fs with
  | nil =>
    cases fs with
    | nil => rfl
    | cons f fs => cases h
  | cons e es ih =>
    cases fs with
    | nil => cases h
    | cons f fs =>
      obtain ⟨he, hes⟩ := List.cons.inj h
      rw [List.any_cons, List.any_cons, hp e f he, ih hes]

/-- Whether a reel is referred to depends on the sources of the events alone. -/
theorem referenced_congr {s u : State} (h : s.list.events.map origin = u.list.events.map origin) (i : Nat) :
    referenced s i = referenced u i := by
  refine any_congr_origin h fun e f hef => ?_
  obtain ⟨-, hrest⟩ := Prod.mk.inj hef
  obtain ⟨hto, htr⟩ := Prod.mk.inj hrest
  unfold fromSource
  rw [hto, htr]

/-- The port of a reel, by its entry. -/
theorem mountedPort_eq (s : State) (n : Nat) : mountedPort s n = (reelAt s n).join.bind Reel.mounted := by
  unfold mountedPort reelAt
  by_cases hn : n = 0
  · subst hn
    rw [if_pos rfl]
    split <;> rfl
  · rw [if_neg hn]
    cases s.reels[n - 1]? with
    | none => rfl
    | some o =>
      cases o with
      | none => rfl
      | some r => exact if_neg hn

/-- A reel that is not referred to is mounted on no port an event needs. -/
theorem alike_setReel {i : Nat} (h : referenced s i = false) (x : Option Reel) : Alike Eq s (setReel i x s) := by
  rw [setReel_eq]
  refine ⟨rfl, rfl, fun e he => ?_⟩
  have hne : e.toSrc.reel ≠ i ∧ ∀ f ∈ fromSource e, f.reel ≠ i := by
    rw [referenced_seen, List.any_eq_false] at h
    simpa [Option.any_eq_false] using h e he
  have hmount : ∀ n, n ≠ i → mountedPort { s with reels := (setReel i x s).reels } n = mountedPort s n := by
    intro n hn
    have hat := reelAt_setReel i n x s
    rw [if_neg hn] at hat
    rw [mountedPort_eq, mountedPort_eq, ← hat, setReel_eq]
  exact ⟨hmount _ hne.1, fun f hf => hmount _ (hne.2 f hf)⟩

/-- Two states alike with the same list differ in the reels and the link alone. -/
theorem Alike.eq_setReel {s u : State} (h : Alike Eq s u) : u = { s with reels := u.reels, link := u.link } := by
  have hl := h.lists
  refine h.rest.symm.trans ?_
  unfold withFrom
  rw [← hl]

/-- The last step of RETIRE for a defined reel. -/
theorem retireStep_eq {s : State} {i : Nat} {x : Reel} (hi : i < 64) (hx : s.reels[i]? = some (some x)) :
    retireStep (b1 (i + 1)) s = if referenced s (i + 1) then putAnswer (deny 0x15 .inUse) s
      else putAnswer (say 0x15 .done (b1 (i + 1) ++ bOpt 1 bPort x.mounted)) (setReel (i + 1) none s) := by
  have hbyte : byteAt (b1 (i + 1)) 0 = i + 1 := by
    simp only [byteAt, b1, List.getD_cons_zero, BitVec.toNat_ofNat]
    exact Nat.mod_eq_of_lt (by omega)
  have hat : reelAt s (i + 1) = some (some x) := by
    unfold reelAt
    rw [if_neg (by omega), Nat.add_sub_cancel]
    exact hx
  unfold retireStep
  rw [hbyte]
  dsimp only
  rw [hat]
  rfl

/-- Whether an event of the list refers to a reel. -/
theorem referenced_iff {s : State} {i : Nat} :
    referenced s i = true ↔ ∃ e ∈ s.list.events, e.toSrc.reel = i ∨ ∃ f ∈ fromSource e, f.reel = i := by
  simp [referenced, List.any_eq_true, Option.any_eq_true]

/-- A handed write is taken the same with a reel retired that no event refers to. -/
theorem takeHanded_setReel {s : State} {i : Nat} (h : referenced s i = false) :
    takeHanded false (setReel i none s) = setReel i none (takeHanded false s) := by
  obtain ⟨hlink, hreels, -⟩ := (Step.takeHanded false s).left
  obtain ⟨hlink', hreels', -⟩ := (Step.takeHanded false (setReel i none s)).left
  rw [((alike_setReel h none).takeHanded inStep_eq false).eq_setReel, hlink', hreels']
  unfold setReel
  by_cases hi : i = 0
  · rw [if_pos hi, if_pos hi, ← hlink, ← hreels]
  · rw [if_neg hi, if_neg hi, hreels, ← hlink]

/-- RETIRE that waits for the end of a chunk. -/
theorem chunk_retire {first : Bool} {i : Nat} {x : Reel} (hin : s.inReset = false) (hr : s.list.ripple = some r)
    (hwait : s.link.waiting = some { code := 0x15, body := b1 (i + 1) }) (hi : i < 64)
    (hx : s.reels[i]? = some (some x)) :
    ∃ u, exec (.rippleChunkEnd first) { s with link := { s.link with waiting := none } } = .next u ∧
      exec (.rippleChunkEnd first) s = .next (
        if ∃ e ∈ s.list.events, e.toSrc.reel = i + 1 ∨ ∃ f ∈ fromSource e, f.reel = i + 1 then
          { u with link := waitEnded s.link (some (deny 0x15 .inUse)) }
        else { u with
          reels := s.reels.setIfInBounds i none
          link := waitEnded s.link (some (say 0x15 .done (b1 (i + 1) ++ bOpt 1 bPort x.mounted))) }) := by
  have href : referenced (chunkWorked r s) (i + 1) = referenced s (i + 1) :=
    referenced_congr (s := chunkWorked r s) (workChunk_origins s.list) _
  have href' : referenced (takeHanded false (chunkWorked r s)) (i + 1) = referenced s (i + 1) :=
    referenced_congr (chunkTaken_origins hr).1 _
  obtain ⟨hlink, hreels, -⟩ := (Step.takeHanded false (chunkWorked r s)).left
  have hx' : (takeHanded false (chunkWorked r s)).reels[i]? = some (some x) := by
    rw [hreels]
    exact hx
  have hstep : ∀ y : State, takeUp { code := 0x15, body := b1 (i + 1) } y = retireStep (b1 (i + 1)) y := fun _ => rfl
  have hboth : rippleChunkEndWork first s = if referenced s (i + 1) then
      putAnswer (deny 0x15 .inUse) (takeHanded false (chunkWorked r s))
      else putAnswer (say 0x15 .done (b1 (i + 1) ++ bOpt 1 bPort x.mounted))
        (setReel (i + 1) none (takeHanded false (chunkWorked r s))) := by
    rw [rippleChunkEndWork_eq hr, takeBoth_waited (s := chunkWorked r s) hwait (by simp), hstep, hstep, retireStep_eq hi hx',
      retireStep_eq (s := chunkWorked r s) hi hx, href, href']
    cases first with
    | true => rfl
    | false =>
      cases hf : referenced s (i + 1) with
      | true => exact takeHanded_putAnswer _ _
      | false =>
        refine (takeHanded_putAnswer _ _).trans (congrArg _ ?_)
        exact takeHanded_setReel (href.trans hf)
  refine ⟨_, exec_rippleChunkEnd_unwaited hin hr rfl first, ?_⟩
  by_cases hf : ∃ e ∈ s.list.events, e.toSrc.reel = i + 1 ∨ ∃ f ∈ fromSource e, f.reel = i + 1
  · rw [if_pos hf]
    rw [if_pos (referenced_iff.2 hf)] at hboth
    exact exec_rippleChunkEnd_answered hin hboth
  · rw [if_neg hf]
    rw [if_neg (fun k => hf (referenced_iff.1 k))] at hboth
    have hlink' : (takeHanded false (chunkWorked r s)).link = s.link := hlink
    have hreels' : (takeHanded false (chunkWorked r s)).reels = s.reels := hreels
    rw [exec_rippleChunkEnd hin, hboth, ← hlink', ← hreels']
    rfl

/-! ## The chunk alone, and READ BY POSITION -/

/-- The end of a chunk with nothing waiting and nothing handed. -/
theorem rippleChunkEndWork_alone (hr : s.list.ripple = some r) (hw : s.link.waiting = none) (hh : s.seq.handed = none)
    (first : Bool) : rippleChunkEndWork first s = chunkWorked r s := by
  rw [rippleChunkEndWork_eq hr, takeBoth_unwaited (s := chunkWorked r s) hw, takeHanded_none (s := chunkWorked r s) hh]

/-- READ BY POSITION that waits for the end of a chunk answers by the list as seen. -/
theorem chunk_readByPosition {first : Bool} {body : List Byte} {e : Event} (hr : s.list.ripple = some r)
    (hw : s.link.waiting = some { code := 0x01, body := body }) (hh : s.seq.handed = none) (hn : r.members.Nodup)
    (hp : 1 ≤ half body 0) (he : (viewEvents s.list)[half body 0 - 1]? = some e) :
    rippleChunkEndWork first s =
      putAnswer (say 0x01 .done (bEvent s.std e ++ b2 (half body 0) ++ b2 s.list.events.length)) (chunkWorked r s) := by
  have hview : viewEvents (workChunk s.list) = viewEvents s.list :=
    viewEvents_workChunk fun q hq => by rwa [← Option.some.inj (hr.symm.trans hq)]
  have hlen : (workChunk s.list).events.length = s.list.events.length := by
    simpa [viewEvents] using congrArg List.length hview
  have hread : takeUp { code := 0x01, body := body } (chunkWorked r s) =
      putAnswer (say 0x01 .done (bEvent s.std e ++ b2 (half body 0) ++ b2 s.list.events.length)) (chunkWorked r s) := by
    change readByPositionOwner body (chunkWorked r s) = _
    have hlist : (chunkWorked r s).list = workChunk s.list := rfl
    unfold readByPositionOwner
    rw [hlist, hview, hlen]
    dsimp only
    rw [if_neg (by omega), he]
    rfl
  rw [rippleChunkEndWork_eq hr, takeBoth_unhanded (s := chunkWorked r s) hw (by simp) hh (by rw [hread]; rfl), hread]

/-- With RESET waiting outside a run, a chunk before the last takes the handed write as STATUS_WRITE does. -/
theorem rippleChunkEndWork_handed {h : Handed} {first : Bool} (hr : s.list.ripple = some r) (hh : s.seq.handed = some h)
    (hw : s.link.waiting = none ∨
      ((∃ w ∈ s.link.waiting, w.code = 0x27) ∧ s.seq.run = none ∧ r.frontier + 16 < r.members.length)) :
    rippleChunkEndWork first s = takeHanded false (chunkWorked r s) := by
  rcases hw with hw | ⟨⟨⟨code, body⟩, hw, hcode⟩, hrun, hl⟩
  · rw [rippleChunkEndWork_eq hr, takeBoth_unwaited (s := chunkWorked r s) hw]
  · dsimp only at hcode
    subst hcode
    rw [rippleChunkEndWork_resetting hr hw, if_pos (workChunk_rippling hr hl),
      takeHanded_runless (s := chunkWorked r s) hh hrun, takeHanded_runless (s := chunkWorked r s) hh hrun]

end
end Sys2Proof.Machine

open Sys2Proof Sys2Proof.Machine

/-- Settles O33: a chunk leaves what is seen of the list, and what it takes does the same on the list as seen. -/
theorem rippleChunkEndWorksSixteenMembers : Obligations.RippleChunkEndWorksSixteenMembers := by
  refine ⟨?_, ?_, ?_, ?_, ?_, ?_, ?_, ?_, ?_⟩
  · rintro s r first chunk hin hp hr hw hh rfl
    have hp' : PollsShort (chunkWorked r s) := hp
    rw [exec_rippleChunkEnd hin, rippleChunkEndWork_alone hr hw hh, shortenPolls_eq hp']
    unfold chunkWorked
    rw [workChunk_eq hr]
    rfl
  · intro s r first hin hr hw hh hn
    refine ⟨_, exec_rippleChunkEnd hin first, ?_⟩
    rw [rippleChunkEndWork_alone hr hw hh]
    exact viewEvents_workChunk fun q hq => by rwa [← Option.some.inj (hr.symm.trans hq)]
  · intro s r first body e hin hr hw hh hn hp he
    refine ⟨_, exec_rippleChunkEnd hin first, ?_⟩
    rw [chunk_readByPosition hr hw hh hn hp he]
    rfl
  · intro s r first w hin _ hr hw hcode hl
    obtain ⟨u, hu, ht⟩ := earlierChunk_listRequest (first := first) hin hr hw hcode hl
    refine ⟨u, hu, ht.trans ?_⟩
    simp only [busyAnswer, apply_ite some]
  · intro s r first h hin _ hr hn _ hh hw
    exact chunk_written hin hr hn hh (rippleChunkEndWork_handed hr hh hw)
  · intro s r first w c hin hp hr hn _ hw hc hb hwf hcode hf hrun
    obtain ⟨v, hv, x, hx, he, ht⟩ := chunk_waited (first := first) hin hp hr hn hw hc hb hwf hcode hf hrun
    refine ⟨v, hv, _, hx, _, exec_rippleChunkEnd hin first, ?_⟩
    rw [he]
    refine ⟨ht.alike.shortened ht.reels, ht.link, ht.alike.lists.1, fun hk => ht.held fun k hmem => ?_⟩
    have hk' : (chunkWorked r s).seq.heldKey = none := hk
    rw [hk'] at hmem
    cases hmem
  · intro s r first w c hin hp hr hw hc hb hf hl
    exact lastChunk_listRequest hin hp hr hw hc hb hf hl
  · rintro s r first w i x hin hr hw rfl hi hx
    exact chunk_retire hin hr hw hi hx
  · intro s first hp hr
    exact work_idle hp (rippleChunkEndWork_none hr first)

end

-- ==== The held event through the changes of the list ====
section
/-! What the list unit makes of an event that is no unworked member of a ripple: a member worked ahead, a status write and a
chunk leave it worked with its frozen fields, and so does every change of the list for the held event (R27, R34, R45, R49,
R51, R55). -/

namespace Sys2Proof.Machine

/-- An event that is no unworked member of `l` is none of `m`, and stands in `m` with its frozen fields. -/
structure KeepsFrozen (l m : ListUnit) (k : Nat) : Prop where
  worked : KeyWorked l k → KeyWorked m k
  frozen : KeyWorked l k → ∀ e ∈ l.events, e.key = k → ∃ f ∈ m.events, frozenFields f = frozenFields e

/-- A key of the list that names no unworked member: what `HeldWorked` asks of the held key. -/
def Stands (l : ListUnit) (k : Nat) : Prop := keyUsed l k = true ∧ KeyWorked l k

/-- The keys of events with the same frozen fields. -/
theorem key_of_frozenFields {e f : Event} (h : frozenFields f = frozenFields e) : f.key = e.key := (congrArg Event.key h :)

/-- The event that a key finds, the keys being different. -/
theorem findKey_of_mem {l : ListUnit} (h : (l.events.map Event.key).Nodup) {e : Event} (he : e ∈ l.events) :
    findKey l e.key = some e := by
  obtain ⟨n, hn⟩ := List.mem_iff_getElem?.1 he
  exact find?_key h hn

section
variable {l m n : ListUnit} {k : Nat}

namespace KeepsFrozen

/-- Nothing changed. -/
theorem refl (l : ListUnit) (k : Nat) : KeepsFrozen l l k := ⟨id, fun _ e he _ => ⟨e, he, rfl⟩⟩

/-- One change after another. -/
theorem trans (h : KeepsFrozen l m k) (h' : KeepsFrozen m n k) : KeepsFrozen l n k := by
  refine ⟨fun hw => h'.worked (h.worked hw), fun hw e he hk => ?_⟩
  obtain ⟨f, hf, hfe⟩ := h.frozen hw e he hk
  obtain ⟨g, hg, hgf⟩ := h'.frozen (h.worked hw) f hf ((key_of_frozenFields hfe).trans hk)
  exact ⟨g, hg, hgf.trans hfe⟩

/-- The events changed one by one, those with the key in no frozen field. -/
theorem of_map {g : Event → Event} (hw : KeyWorked l k → KeyWorked m k) (hm : m.events = l.events.map g)
    (hg : KeyWorked l k → ∀ e, e.key = k → frozenFields (g e) = frozenFields e) : KeepsFrozen l m k :=
  ⟨hw, fun h e he hk => ⟨g e, hm ▸ List.mem_map_of_mem he, hg h e hk⟩⟩

/-- The events with the key left, and the key in no new ripple. -/
theorem of_mem (hw : KeyWorked m k) (hm : ∀ e ∈ l.events, e.key = k → e ∈ m.events) : KeepsFrozen l m k :=
  ⟨fun _ => hw, fun _ e he hk => ⟨e, hm e he hk, rfl⟩⟩

/-- The key stays in use by a worked event. -/
theorem stands (h : KeepsFrozen l m k) (hs : Stands l k) : Stands m k := by
  obtain ⟨hu, hw⟩ := hs
  obtain ⟨e, he, hk⟩ := keyUsed_iff.1 hu
  obtain ⟨f, hf, hfe⟩ := h.frozen hw e he hk
  exact ⟨keyUsed_iff.2 ⟨f, hf, (key_of_frozenFields hfe).trans hk⟩, h.worked hw⟩

/-- The key finds an event with the same frozen fields. -/
theorem findKey_eq (h : KeepsFrozen l m k) (hs : Stands l k) (hm : (m.events.map Event.key).Nodup) :
    (findKey m k).map frozenFields = (findKey l k).map frozenFields := by
  obtain ⟨hu, hw⟩ := hs
  obtain ⟨e, he⟩ := exists_findKey hu
  obtain rfl := findKey_key he
  obtain ⟨f, hf, hfe⟩ := h.frozen hw e (List.mem_of_find?_eq_some he) rfl
  have hfind := findKey_of_mem hm hf
  rw [key_of_frozenFields hfe] at hfind
  rw [he, hfind, Option.map_some, Option.map_some, hfe]

/-! ## Members worked ahead, status writes and chunks (R27, R49, R51) -/

/-- A member worked ahead. -/
theorem ahead (j : Nat) (l : ListUnit) (k : Nat) : KeepsFrozen l (workAhead j l) k := by
  have hw := (ListWork.ahead j l).worked k
  unfold workAhead at hw ⊢
  split
  · rename_i r hr
    split
    · rename_i hu
      rw [hr] at hw
      dsimp only at hw
      rw [if_pos hu] at hw
      refine .of_map hw rfl fun hk e he => ?_
      rw [if_neg]
      rintro rfl
      rw [he, hk r hr] at hu
      cases hu
    · exact .refl l k
  · exact .refl l k

/-- A status write. -/
theorem write (held : Option Nat) (w : StatusWrite) (l : ListUnit) (k : Nat) : KeepsFrozen l (takeWrite held w l) k := by
  refine (ahead w.key l k).trans (.of_map id rfl fun _ e _ => ?_)
  split
  · exact frozenFields_writtenEvent held w e
  · rfl

/-- A chunk of a ripple without duplicates. -/
theorem chunk (h : ∀ r ∈ l.ripple, r.members.Nodup) (k : Nat) : KeepsFrozen l (workChunk l) k := by
  cases hr : l.ripple with
  | none =>
    have hl : workChunk l = l := by
      unfold workChunk
      rw [hr]
    rw [hl]
    exact .refl l k
  | some r =>
    have hahead : KeyWorked l k → k ∈ r.members.drop r.frontier → k ∈ r.ahead := fun hw hk => by
      have hn := hw r hr
      by_contra ha
      rw [unworked_iff.2 ⟨hk, ha⟩] at hn
      cases hn
    rw [workChunk_eq hr]
    refine .of_map (fun hw q hq => ?_) rfl fun hw e he => ?_
    · split at hq
      · cases hq
      · rename_i hl
        obtain rfl := Option.some.inj hq
        rw [← Bool.not_eq_true, unworked_iff]
        rintro ⟨hk, hout⟩
        rw [← chunkMembers_length hl] at hk
        have hnot : k ∉ chunkMembers r := fun hc => not_mem_after_chunk (h r hr) hc hk
        exact hout (List.mem_filter.2 ⟨hahead hw (mem_drop_frontier.2 (.inr hk)), by simpa using hnot⟩)
    · subst he
      rw [if_neg fun hc => hc.2 (hahead hw (mem_drop_frontier.2 (.inl hc.1)))]

end KeepsFrozen

/-! ## The changes of the list (R34 to R41, R45 to R48) -/

/-- The events put in their order. -/
theorem mem_reorder {e : Event} : e ∈ (reorder l).events ↔ e ∈ l.events := (reorder_perm l).mem_iff

/-- A key of none of the members is worked in a new ripple. -/
theorem keyWorked_rippleFor {d : Int} {ms : List Event} (h : m.ripple = rippleFor d ms) (hk : ∀ f ∈ ms, f.key ≠ k) :
    KeyWorked m k := by
  intro r hr
  rw [h, rippleFor_eq] at hr
  unfold rippleOf at hr
  split at hr
  · cases hr
  · obtain rfl := Option.some.inj hr
    rw [← Bool.not_eq_true, unworked_iff]
    rintro ⟨hm, -⟩
    obtain ⟨f, hf, hfk⟩ := List.mem_map.1 hm
    exact hk f hf hfk

/-- Without a ripple every key is worked. -/
theorem keyWorked_still (h : l.ripple = none) (k : Nat) : KeyWorked l k := by
  intro r hr
  rw [h] at hr
  cases hr

end

section
variable {s : State} {c : Change} {k : Nat}

/-- INSERT. -/
theorem insertChange_keeps {raw : RawEvent} {flag : Bool} (hk : k ∈ s.seq.heldKey) (hc : insertChange raw flag s = .ok c) :
    KeepsFrozen s.list c.list k := by
  simp only [insertChange, need_bind_eq_ok, check_bind_eq_ok, pure_eq_ok] at hc
  obtain ⟨_, -, -, hms, -, _, -, -, -, -, -, rfl⟩ := hc
  exact .of_mem (keyWorked_rippleFor rfl (notHeldAmong_iff.1 hms k hk))
    fun e he _ => mem_reorder.2 (List.mem_cons_of_mem _ he)

/-- An event put in the place of another one than that of the key. -/
theorem replacedList_keeps {l : ListUnit} {key : Nat} (hr : l.ripple = none) (hne : key ≠ k) (e : Event) :
    KeepsFrozen l (replacedList l key e) k :=
  .of_mem (keyWorked_still hr k) fun f hf hfk =>
    mem_reorder.2 (List.mem_cons_of_mem _ (List.mem_filter.2 ⟨hf, by simpa [hfk] using hne.symm⟩))

/-- REPLACE. -/
theorem replaceChange_keeps {key : Nat} {raw : RawEvent} (hk : k ∈ s.seq.heldKey)
    (hc : replaceChange key raw s = .ok c) : KeepsFrozen s.list c.list k := by
  simp only [replaceChange, need_bind_eq_ok, check_bind_eq_ok, pure_eq_ok, Option.isNone_iff_eq_none,
    decide_eq_true_eq] at hc
  obtain ⟨_, -, hr, -, hheld, e, -, -, -, -, -, rfl⟩ := hc
  exact replacedList_keeps hr (fun h : key = k => hheld (h ▸ hk)) _

/-- TRIM. -/
theorem trimChange_keeps {key point : Nat} {d : Int} (hk : k ∈ s.seq.heldKey) (hc : trimChange key point d s = .ok c) :
    KeepsFrozen s.list c.list k := by
  simp only [trimChange, need_bind_eq_ok, check_bind_eq_ok, pure_eq_ok, Option.isNone_iff_eq_none,
    decide_eq_true_eq] at hc
  obtain ⟨hr, e, -, hheld, -, -, -, -, rfl⟩ := hc
  exact replacedList_keeps hr (fun h : key = k => hheld (h ▸ hk)) _

/-- DELETE. -/
theorem deleteChange_keeps {key : Nat} {flag : Bool} (hk : k ∈ s.seq.heldKey) (hc : deleteChange key flag s = .ok c) :
    KeepsFrozen s.list c.list k := by
  simp only [deleteChange, need_bind_eq_ok, check_bind_eq_ok, pure_eq_ok, Bool.and_eq_true, decide_eq_true_eq] at hc
  obtain ⟨-, e, -, ⟨hheld, hms⟩, -, -, rfl⟩ := hc
  refine .of_mem (keyWorked_rippleFor rfl (notHeldAmong_iff.1 hms k hk)) fun f hf hfk => ?_
  have hne : k ≠ key := fun h => hheld (h ▸ hk)
  exact mem_reorder.2 (List.mem_filter.2 ⟨hf, by simpa [hfk] using hne⟩)

/-- RIPPLE. -/
theorem rippleChange_keeps {p : Nat} {d : Int} (hk : k ∈ s.seq.heldKey) (hc : rippleChange p d s = .ok c) :
    KeepsFrozen s.list c.list k := by
  simp only [rippleChange, check_bind_eq_ok, pure_eq_ok] at hc
  obtain ⟨-, -, hms, -, -, -, rfl⟩ := hc
  exact .of_mem (keyWorked_rippleFor rfl (notHeldAmong_iff.1 hms k hk)) fun f hf _ => mem_reorder.2 hf

/-- CLEAR LIST finds no held event. -/
theorem clearChange_unheld (hc : clearChange s = .ok c) : s.seq.heldKey = none := by
  simp only [clearChange, check_bind_eq_ok, decide_eq_true_eq] at hc
  exact hc.2.1.2

end
end Sys2Proof.Machine
end

-- ==== The held key through the work of the blocks ====
section
/-! Work that leaves the event of every worked key and holds no key but that of a worked event (R51, R55, R138, R164).
`Worked` says which changes of the list a command can make but forgets the held key, on which the claim turns: `Holds`
keeps the two together, and every operation of the blocks leaves both or is one of the few that free or hold a key. -/

namespace Sys2Proof.Machine

/-- `t` comes from `s` by work that keeps the frozen fields of the events of the keys `ks`, and after which a key is held
only if it was before or its event stands worked. -/
structure Carried (ks : Nat → Prop) (s t : State) : Prop where
  kept : ∀ k, ks k → KeepsFrozen s.list t.list k
  held : ∀ k ∈ t.seq.heldKey, k ∈ s.seq.heldKey ∨ Stands t.list k

/-- Such work that keeps the frozen fields of every worked event. -/
abbrev Holds (s t : State) : Prop := Carried (fun _ => True) s t

/-- Work after work, when the second keeps the keys held before and after it. -/
theorem Carried.comp {s t u : State} {ks ls ms : Nat → Prop} (h : Carried ks s t) (h' : Carried ls t u)
    (hl : ∀ k ∈ t.seq.heldKey, k ∈ u.seq.heldKey → ls k) (hm : ∀ k, ms k → ks k ∧ ls k) : Carried ms s u :=
  ⟨fun k hk => (h.kept k (hm k hk).1).trans (h'.kept k (hm k hk).2), fun k hk => (h'.held k hk).elim
    (fun ht => (h.held k ht).imp_right (h'.kept k (hl k ht hk)).stands) .inr⟩

/-- The list and the held key. -/
def holding (s : State) : ListUnit × Option Nat := (s.list, s.seq.heldKey)

namespace Holds

section
variable {s0 s t : State}

/-! ## Composition -/

/-- No work. -/
theorem start : Holds s s := ⟨fun k _ => .refl s.list k, fun _ => .inl⟩

/-- Work after work. -/
theorem trans (h : Holds s0 s) (h' : Holds s t) : Holds s0 t :=
  h.comp h' (fun _ _ _ => trivial) fun _ _ => ⟨trivial, trivial⟩

/-- Work that leaves the list and the held key. -/
theorem same (h : Holds s0 s) (ht : holding t = holding s) : Holds s0 t := by
  obtain ⟨hl, hk⟩ := Prod.mk.inj ht
  exact ⟨hl ▸ h.kept, hl ▸ hk ▸ h.held⟩

/-- Work of either branch. -/
theorem ite {c : Prop} [Decidable c] (ht : Holds s0 s) (hu : Holds s0 t) : Holds s0 (if c then s else t) := by
  split
  · exact ht
  · exact hu

/-- Work done for each entry of a list. -/
theorem foldl {α : Type} {f : State → α → State} (h : Holds s0 s) (hf : ∀ s a, Holds s0 s → Holds s0 (f s a))
    (l : List α) : Holds s0 (l.foldl f s) :=
  List.foldlRecOn l f h (fun s hs a _ => hf s a hs)

/-- Work for one port by the transport controller or the chase servo. -/
theorem port {p : Port} (h : Holds s0 s) (k : PortWork none p s s → PortWork none p s t) : Holds s0 t :=
  h.same (congrArg holding (k (PortWork.start p s)).only :)

/-- The sequencer record changed with its held key standing. -/
theorem setSeq (h : Holds s0 s) {f : Sequencer → Sequencer} (hf : (f s.seq).heldKey = s.seq.heldKey) :
    Holds s0 (setSeq f s) :=
  h.same (congrArg (Prod.mk s.list) hf)

/-- A command handed. -/
theorem handCommand (h : Holds s0 s) (p : Port) (c : DeckCmd) : Holds s0 (handCommand p c s) := h.same rfl

/-- The list changed. -/
theorem list (h : Holds s0 s) {l : ListUnit} (hl : ∀ k, KeepsFrozen s.list l k) : Holds s0 { s with list := l } :=
  h.trans ⟨fun k _ => hl k, fun _ => .inl⟩

/-- No key held any longer. -/
theorem freed (h : Holds s0 s) (hl : t.list = s.list) (hk : t.seq.heldKey = none) : Holds s0 t :=
  ⟨hl ▸ h.kept, by simp [hk]⟩

/-- The key of a worked event held. -/
theorem hold (h : Holds s0 s) {k : Nat} (hk : Stands s.list k) (hl : t.list = s.list) (ht : t.seq.heldKey = some k) :
    Holds s0 t := by
  refine ⟨hl ▸ h.kept, fun j hj => .inr ?_⟩
  rw [ht] at hj
  rwa [hl, ← Option.some.inj hj]

/-! ## The outputs (R171 to R185) -/

/-- The armed triggers tested. -/
theorem testTriggers (h : Holds s0 s) (reached : Nat → Bool) : Holds s0 (testTriggers reached s) :=
  h.same (congrArg holding (testTriggers_only reached s) :)

/-- The triggers of an event handed. -/
theorem armTriggers (h : Holds s0 s) (m : Mode) (e : Event) (pos : Nat) : Holds s0 (armTriggers m e pos s) :=
  Holds.testTriggers (s := { s with gpi := { s.gpi with armed := some { mode := m, recIn := e.recIn, triggers := _ } } })
    (h.same rfl) _

/-- The outputs told of an end. -/
theorem endOutputs (h : Holds s0 s) (m : Mode) (completed : Bool) : Holds s0 (endOutputs m completed s) :=
  h.same (congrArg holding (endOutputs_only m completed s) :)

/-- The transition of an event started. -/
theorem startTransition (h : Holds s0 s) (e : Event) : Holds s0 (startTransition e s) := by
  unfold Machine.startTransition
  split
  · exact h.same rfl
  · exact h

/-! ## The endings of an edit (R153 to R155) -/

/-- The final step of an edit. -/
theorem finalStep (h : Holds s0 s) : Holds s0 (finalStep s) := by
  rw [finalStep_form]
  exact h.freed rfl rfl

/-- The ending of an edit: the held key stands for the write handed, or is cleared at once. -/
theorem endEdit (h : Holds s0 s) (x : Edit) (o : EditOutcome) (early : Option FaultClass) (completed : Bool) :
    Holds s0 (endEdit x o early completed s) := by
  have h1 : Holds s0 (disengageIfEngaged x.decks.recorder s) := .ite (h.same rfl) h
  have h2 := h1.foldl (f := fun s p => seqAct p .halt s) (fun s p hs => hs.port (fun k => k.seqAct .halt))
    (deckPorts x.decks)
  have h3 := h2.same (t := removeSeqChases x.decks _) (congrArg holding (quietWork_removeSeqChases x.decks _).only :)
  have h4 := h3.endOutputs x.mode completed
  unfold Machine.endEdit
  dsimp only
  split
  · exact h4.same rfl
  · exact Holds.finalStep (h4.freed rfl rfl)

/-- A fault of the running edit. -/
theorem faultEdit (h : Holds s0 s) (c : FaultClass) : Holds s0 (faultEdit c s) := by
  unfold Machine.faultEdit
  split
  · exact h
  · exact .ite h (h.endEdit _ _ _ _)

/-- A fault that in POSTROLL cuts the edit short. -/
theorem faultOrCutShort (h : Holds s0 s) (c : FaultClass) : Holds s0 (faultOrCutShort c s) := by
  unfold Machine.faultOrCutShort
  split
  · exact h
  · exact .ite (h.endEdit _ _ _ _) (h.endEdit _ _ _ _)

/-! ## The reports (R140, R145, R146, R150 to R152) -/

/-- A deck of the edit lost. -/
theorem deckFault (h : Holds s0 s) (p : Port) : Holds s0 (deckFault p s) := by
  unfold Machine.deckFault
  split
  · exact h
  · exact .ite (h.faultOrCutShort _) h

/-- A cue success reported. -/
theorem seqCued (h : Holds s0 s) (p : Port) : Holds s0 (seqCued p s) := .ite (h.setSeq rfl) h

/-- A cue failure reported. -/
theorem seqCueFailed (h : Holds s0 s) (p : Port) (why : CueReason) : Holds s0 (seqCueFailed p why s) := by
  refine .ite ?_ h
  split
  · exact h.faultEdit _
  · exact h.faultEdit _
  · exact h

/-- A change of the recording tracks reported. -/
theorem confirmTracks (h : Holds s0 s) (x : Edit) (k : TrackSet) : Holds s0 (confirmTracks x k s) :=
  .ite h (.ite (.ite (h.setSeq rfl) h) (.ite (h.faultEdit _) h))

/-- A change of condition reported. -/
theorem seqCondition (h : Holds s0 s) (p : Port) (old new : Condition) : Holds s0 (seqCondition p old new s) := by
  have running : ∀ (c : Edit → Prop) [DecidablePred c] (f : Edit → State → State),
      (∀ x u, Holds s0 u → Holds s0 (f x u)) → ∀ u, Holds s0 u → Holds s0 (match liveEdit u with
        | some x => if c x then f x u else u
        | none => u) := by
    intro c _ f hf u hu
    split
    · exact .ite (hf _ u hu) hu
    · exact hu
  have threaded : Holds s0 (if old.threaded ∧ !new.threaded ∧ (s.transport p).state ≠ .standby ∧
      (s.transport p).state ≠ .waking then Machine.deckFault p s else s) := .ite (h.deckFault p) h
  exact running _ _ (fun x u hu => hu.confirmTracks x _) _
    (running _ _ (fun x u hu => .ite (hu.faultOrCutShort _) hu) _ threaded)

/-- A report of the chase servo. -/
theorem seqChaseReport (h : Holds s0 s) (r : ChaseReport) : Holds s0 (seqChaseReport r s) := by
  refine .ite h ?_
  split
  · exact h.setSeq rfl
  · exact h.faultEdit _
  · exact h.faultEdit _
  · exact h

/-- The loss of the reference reported. -/
theorem seqReferenceLost (h : Holds s0 s) : Holds s0 (seqReferenceLost s) := by
  unfold Machine.seqReferenceLost
  split
  · exact .ite (h.faultEdit _) h
  · exact h

/-- A cue failure reported to its requester. -/
theorem reportCueFailed (h : Holds s0 s) (f : CueFailure) : Holds s0 (reportCueFailed f s) := by
  unfold Machine.reportCueFailed
  split
  · exact h
  · exact h.seqCueFailed _ _
  · exact h.port (p := f.port) (fun k => k.chaseCueFailed f.reason)

/-! ## The roll and the moments (R140 to R148) -/

/-- The roll of an edit. -/
theorem roll (h : Holds s0 s) (x : Edit) : Holds s0 (roll x s) := by
  have play : ∀ (n : Nat) (u : State) (p : Port), Holds s0 u → Holds s0 (seqAct p (.play n) u) :=
    fun n u p hu => hu.port (fun k => k.seqAct (.play n))
  have plays : ∀ u, Holds s0 u → Holds s0 (askPlays x u) := fun u hu =>
    ((play 1024 _ _ hu).foldl (play _) _).foldl (play 1024) _
  have h1 := h.setSeq (f := fun q => { q with rollFrame := some s.frame }) rfl
  unfold Machine.roll
  dsimp only
  split
  · exact Holds.setSeq (plays _ h1) rfl
  · obtain ⟨hb, hs⟩ := Worked.bare_setSeqChases x (Machine.setSeq (fun q => { q with rollFrame := some s.frame }) s)
    have h2 := plays _ (h1.same (Prod.ext (congrArg State.list hb :) (congrArg Sequencer.heldKey hs)))
    refine Holds.setSeq (Holds.armTriggers ?_ _ _ _) rfl
    exact h2.same rfl

/-- The engage moment. -/
theorem engageMoment (h : Holds s0 s) (x : Edit) : Holds s0 (engageMoment x s) := by
  have engaged : Holds s0 (engage x s) := by
    unfold engage
    exact Holds.setSeq (.ite (h.handCommand _ _) h) rfl
  exact .ite (.ite (h.faultEdit _) (.ite (h.faultEdit _) engaged)) h

/-- The record-in moment. -/
theorem recordInMoment (h : Holds s0 s) (x : Edit) : Holds s0 (recordInMoment x s) :=
  .ite (.ite (h.setSeq rfl) (Holds.startTransition (h.setSeq rfl) _)) h

/-- The confirmation deadline. -/
theorem deadlineMoment (h : Holds s0 s) (x : Edit) : Holds s0 (deadlineMoment x s) := by
  have h1 := h.setSeq (f := fun q => { q with deadlineTaken := true }) rfl
  exact .ite (.ite h1 (h1.faultEdit _)) h

/-- The release moment. -/
theorem releaseMoment (h : Holds s0 s) (x : Edit) : Holds s0 (releaseMoment x s) := by
  have released : Holds s0 (release x s) := by
    unfold release
    exact Holds.setSeq (.ite (h.handCommand _ _) h) rfl
  exact .ite (.ite (h.faultEdit _) released) h

/-- The bound on the engage moment. -/
theorem engageTimeout (h : Holds s0 s) : Holds s0 (engageTimeout s) := .ite (h.faultEdit _) h

/-- The bound on the release moment. -/
theorem releaseTimeout (h : Holds s0 s) (x : Edit) : Holds s0 (releaseTimeout x s) := .ite (h.faultEdit _) h

/-- The completion of an edit. -/
theorem postrollEndWork (h : Holds s0 s) (x : Edit) : Holds s0 (postrollEndWork x s) := .ite (h.endEdit _ _ _ _) h

/-- The moments of one frame, in their order. -/
theorem moments (h : Holds s0 s) (x : Edit) : Holds s0 (moments x s) := by
  have gpi : ∀ u, Holds s0 u → Holds s0 (gpiMoment x u) := fun u hu => .ite (hu.testTriggers _) hu
  exact gpi _ (((((((h.engageMoment x).recordInMoment x).deadlineMoment x).releaseMoment x).engageTimeout).releaseTimeout
    x).postrollEndWork x)

/-- The sequencer's work for a frame. -/
theorem seqFrame (h : Holds s0 s) : Holds s0 (seqFrame s) := by
  unfold Machine.seqFrame
  split
  · exact h
  · rename_i x _
    have h1 : Holds s0 { s with recorderFrame := recorderPos x s / 64 } := h.same rfl
    exact .ite (.ite (h1.roll x) h1) (h1.moments x)

/-! ## Field events (R12 to R17) -/

/-- Failures reported one after another. -/
theorem reportCues {r : State × List CueFailure} (h : Holds s0 r.1) : Holds s0 (reportCues r) :=
  h.foldl (fun _ _ hs => hs.reportCueFailed _) _

/-- The work of every block for a frame event. -/
theorem frameWork (h : Holds s0 s) : Holds s0 (frameWork s) := by
  have h1 : Holds s0 (frameBegun s) := h.same rfl
  have ports : ∀ {β : Type} (f : Port → State → State × List β), (∀ p u, PortWork none p u (f p u).1) →
      ∀ u, Holds s0 u → Holds s0 (allPorts.foldl (fun r p => ((f p r.1).1, r.2 ++ (f p r.1).2)) (u, [])).1 :=
    fun f hf u hu => List.foldlRecOn (motive := fun r : State × List _ => Holds s0 r.1) allPorts _ hu
      (fun r hr p _ => hr.port (fun _ => hf p r.1))
  have h2 : Holds s0 (transportFrame (frameBegun s)) :=
    Holds.reportCues (ports transportPort (fun p u => (PortWork.start p u).transportPort) _ h1)
  have h3 : Holds s0 (chaseFrame (transportFrame (frameBegun s))).1 :=
    ports chasePort (fun p u => (PortWork.start p u).chasePort) _ h2
  exact (h3.foldl (fun _ _ hs => hs.seqChaseReport _) _).seqFrame

/-- A field event. -/
theorem fieldEvent (h : Holds s0 s) (y : Parity) (stopFirst : Bool) : Holds s0 (fieldEvent y stopFirst s) := by
  have h1 : Holds s0 (indexField { s with ref := { s.ref with parity := y } }) := .ite (h.same rfl) (h.same rfl)
  have h2 : Holds s0 (gpiField (mixField (indexField { s with ref := { s.ref with parity := y } }))) := h1.same rfl
  have stopped : ∀ a b u, Holds s0 u → Holds s0 (stopBeforeField a b u) := fun _ _ _ hu => .ite (hu.same rfl) hu
  unfold Machine.fieldEvent
  dsimp only
  split
  · exact h2
  · exact .ite (stopped _ _ _ h2.frameWork) h2.frameWork

/-- The loss of the reference. -/
theorem loseReference (h : Holds s0 s) (m : Nat) (lossFirst stopFirst : Bool) :
    Holds s0 (loseReference m lossFirst stopFirst s) := by
  have h1 : Holds s0 (referenceGone m s) := h.same rfl
  cases lossFirst with
  | true =>
    rw [loseReference_first]
    exact (h1.seqReferenceLost.fieldEvent _ _).same rfl
  | false =>
    rw [loseReference_after]
    exact Holds.seqReferenceLost ((h1.fieldEvent _ _).same rfl)

/-- A pulse while LOST. -/
theorem lostPulse (h : Holds s0 s) (time : Nat) : Holds s0 (lostPulse time s) := .ite (h.same rfl) (h.same rfl)

/-- A field pulse. -/
theorem fieldPulseWork (h : Holds s0 s) (time : Nat) (field1 stopFirst : Bool) :
    Holds s0 (fieldPulseWork time field1 stopFirst s) := by
  have accept : Holds s0 (acceptPulse time field1 stopFirst s) :=
    Holds.fieldEvent (s := { s with ref := { s.ref with lastAccepted := some time } }) (h.same rfl) _ _
  unfold Machine.fieldPulseWork
  split
  · exact h.lostPulse time
  · split
    · exact accept
    · exact .ite ((h.loseReference _ _ _).lostPulse time) (.ite accept h)

/-! ## The decks (R60 to R69, R76 to R91, R107, R113) -/

/-- A sample accepted as a jump. -/
theorem jump (h : Holds s0 s) (p : Port) (x : Nat) : Holds s0 (jump p x s) := by
  rw [jump_eq]
  exact h.same rfl

/-- A sample taken. -/
theorem takeSample (h : Holds s0 s) (p : Port) (tested : Bool) (x : Nat) : Holds s0 (takeSample p tested x s) :=
  .ite (h.same rfl) (.ite (h.jump p x) (h.same rfl))

/-- The motions of a deck failed. -/
theorem failMotions (h : Holds s0 s) (p : Port) (why : CueReason) : Holds s0 (failMotions p why s) := by
  have tell : ∀ (u : State) (r : Requester) (n : Nat) (f : Option Nat), Holds s0 u →
      Holds s0 (tellCueFailed p why r n f u) := fun u r n f hu =>
    Holds.reportCueFailed (s := raiseCueEnd p (.failed why) r n f u) (hu.same rfl) _
  have h1 : Holds s0 (s.setTransport p { s.transport p with cue := none, motion := none }) := h.same rfl
  have h2 : Holds s0 (match (s.transport p).cue with
      | some c => tellCueFailed p why c.requester c.attempts c.lastStop
          (s.setTransport p { s.transport p with cue := none, motion := none })
      | none => s.setTransport p { s.transport p with cue := none, motion := none }) := by
    split
    · exact tell _ _ _ _ h1
    · exact h1
  unfold Machine.failMotions
  dsimp only
  split
  · exact tell _ _ _ _ h2
  · exact h2

/-- A cue that succeeds. -/
theorem cueSucceeds (h : Holds s0 s) (p : Port) (c : Cue) : Holds s0 (cueSucceeds p c s) := by
  unfold Machine.cueSucceeds
  dsimp only
  split
  · exact h.same rfl
  · refine Holds.seqCued ?_ p
    exact h.same rfl
  · unfold chaseCued
    split
    · exact .ite (h.same rfl) (h.same rfl)
    · exact h.same rfl

/-- The line of a deck down. -/
theorem lineDown (h : Holds s0 s) (p : Port) (st : TransportState) : Holds s0 (lineDown p st s) := by
  have h1 := Holds.failMotions (s := stillDeck p ((enterState p st s).setTransport p
    { (enterState p st s).transport p with wakeCount := 0, wakeTaken := false })) (h.same rfl) p .line
  have h2 := Holds.ite (c := st = .offline) (h1.same (t := forgetPosition p _) rfl) (h1.same (t := removeChase p _) rfl)
  exact .ite (h2.deckFault p) h2

/-- The transport state taken from a mode. -/
theorem stateFromMode (h : Holds s0 s) (p : Port) (m : DeckMode) : Holds s0 (stateFromMode p m s) := by
  have halted : Holds s0 (handTransport p .halt s) := h.port (fun k => k.handTransport rfl (by simp))
  unfold Machine.stateFromMode
  split
  · exact h.same rfl
  · exact h.same rfl
  · exact h.same rfl
  · exact h.same rfl
  · exact halted.same rfl

/-- Tape out. -/
theorem tapeGone (h : Holds s0 s) (p : Port) (c : Condition) : Holds s0 (tapeGone p c s) := by
  have h1 := Holds.failMotions (s := (stillDeck p (enterState p .empty s)).setTransport p
    { (stillDeck p (enterState p .empty s)).transport p with wakeCount := 0 }) (h.same rfl) p .tape
  have h2 := h1.same (t := tapeLost p (raiseDeck p (some c) _)) rfl
  exact .ite (h2.deckFault p) h2

/-- A deck gone to standby unasked. -/
theorem unaskedStandby (h : Holds s0 s) (p : Port) (c : Condition) : Holds s0 (unaskedStandby p c s) := by
  have h1 := Holds.failMotions (s := dropMotionCmds p (stillDeck p (enterState p .standby s))) (h.same rfl) p .standby
  have h2 := h1.same (t := raiseDeck p (some c) _) rfl
  have standby : ∀ u, Holds s0 u → Holds s0 (chaserStandby p u) := by
    intro u hu
    unfold chaserStandby
    split
    · exact .ite (hu.port (p := p) (fun k => k.parkChase (by simp))) hu
    · exact hu
  exact .ite ((standby _ h2).deckFault p) (standby _ h2)

/-- A good reply of a CUEING deck, and the verify of a stopped one. -/
theorem cueReply (h : Holds s0 s) (p : Port) (kind : CmdKind) (c : Condition) (x : Nat) :
    Holds s0 (cueReply p kind c x s) := by
  have seek : ∀ n, Holds s0 (handTransport p (.seek n) s) := fun n => h.port (fun k => k.handTransport rfl (by simp))
  have verify : ∀ q, Holds s0 (verifyCue p x q s) := fun q =>
    .ite (h.cueSucceeds p _) (.ite ((seek _).same rfl)
      (Holds.reportCueFailed (h.port (p := p) (fun k => k.cueGivenUp .attempts (by simp))) _))
  unfold Machine.cueReply
  split
  · exact h
  · exact .ite (.ite (h.same rfl) h) (.ite (verify _) h)

/-- What a good reply's mode does. -/
theorem modeReply (h : Holds s0 s) (p : Port) (kind : CmdKind) (c : Condition) (x : Nat) :
    Holds s0 (modeReply p kind c x s) := by
  unfold Machine.modeReply
  split
  · exact h
  · exact h
  · exact h
  · exact (h.stateFromMode p _).same rfl
  · exact h.tapeGone p c
  · exact h
  · exact .ite (h.same rfl) h
  · exact h.unaskedStandby p c
  · exact h.cueReply p kind c x
  · exact h

/-- The mode and flags of a good reply taken. -/
theorem takeCondition (h : Holds s0 s) (p : Port) (kind : CmdKind) (c : Condition) (x : Nat) :
    Holds s0 (takeCondition p kind c x s) := by
  have change : ∀ u o, Holds s0 u → Holds s0 (conditionChange p o c u) := by
    intro u o hu
    unfold conditionChange
    split
    · exact hu
    · rename_i old
      have tell : ∀ v, Holds s0 v → Holds s0 (if v.holder p = .sequencer then Machine.seqCondition p old c v else v) :=
        fun v hv => .ite (hv.seqCondition p old c) hv
      exact tell _ (.ite (hu.same rfl) hu)
  have h1 : Holds s0 (s.setTransport p { s.transport p with condition := some c }) := h.same rfl
  exact change _ _ (h1.modeReply p kind c x)

/-- Entry to OFFLINE. -/
theorem goOffline (h : Holds s0 s) (p : Port) : Holds s0 (goOffline p s) :=
  (Holds.lineDown (s := (setLine0 p .offline s).setPort p { (setLine0 p .offline s).port p with countdown := 25 })
    (h.same rfl) p .offline).same rfl

/-- A miss. -/
theorem miss (h : Holds s0 s) (p : Port) (c : DeckCmd) : Holds s0 (miss p c s) := by
  have h1 : Holds s0 (s.setPort p { s.port p with
      misses := min 4 ((s.port p).misses + 1)
      commands := if (s.port p).line = .online then returned c (s.port p).commands else (s.port p).commands }) := h.same rfl
  exact .ite (h1.goOffline p) (h1.port (fun k => k.overrideRelease))

/-- What a good reply's remote flag does. -/
theorem lineReply (h : Holds s0 s) (p : Port) (c : Condition) : Holds s0 (lineReply p c s) := by
  have panel : Holds s0 (raiseDeck p (some c) (Machine.lineDown p .panel (setLine0 p .panel s))) :=
    (Holds.lineDown (s := setLine0 p .panel s) (h.same rfl) p .panel).same rfl
  have online : Holds s0 (raiseDeck p (some c) (Machine.stateFromMode p c.mode (setLine0 p .online s))) :=
    (Holds.stateFromMode (s := setLine0 p .online s) (h.same rfl) p c.mode).same rfl
  unfold Machine.lineReply
  split
  · exact h
  · exact panel
  · exact online
  · exact h
  · exact online
  · exact panel

/-- An entry put in the reel table. -/
theorem putReel (h : Holds s0 s) (i : Nat) (r : Option Reel) : Holds s0 (setReel i r s) := by
  rw [setReel_eq]
  exact h.same rfl

/-- A mount put in the reel table. -/
theorem putMount (h : Holds s0 s) (i : Nat) (p : Option Port) : Holds s0 (setMount i p s) := by
  rw [setMount_eq]
  exact h.same rfl

/-- A good reply. -/
theorem goodReply (h : Holds s0 s) (p : Port) (x : Exchange) (c : Condition) (n : Nat) :
    Holds s0 (goodReply p x c n s) := by
  have h1 := Holds.lineReply (s := s.setPort p { s.port p with misses := 0 }) (h.same rfl) p c
  have sample : ∀ u, Holds s0 u → Holds s0 (if c.mode = .noTape then u
      else Machine.takeSample p (sampleTested (u.tracker p) (u.transport p)) n u) := fun u hu => .ite hu (hu.takeSample p _ n)
  have out : ∀ u, Holds s0 u → Holds s0 (tapeOut p u) := by
    intro u hu
    unfold tapeOut
    split
    · exact hu
    · split
      · exact (hu.putMount _ _).same rfl
      · exact hu
  have guarded : ∀ u, Holds s0 u → Holds s0 (recordGuard p x.cmd c u) := fun u hu => .ite (hu.same rfl) hu
  have stored : ∀ u : State, Holds s0 u → Holds s0 (u.setPort p { u.port p with
      lastReply := some { condition := c, position := n, frame := x.frame } }) := fun u hu => hu.same rfl
  have h2 := Holds.takeCondition (sample _ (stored _ h1)) p (cmdKind x.cmd) c n
  exact guarded _ (.ite (out _ h2) h2)

/-- The outcome of an exchange dealt with. -/
theorem endExchange (h : Holds s0 s) (p : Port) (r : Option (Condition × Nat)) : Holds s0 (endExchange p r s) := by
  have h1 : Holds s0 (closeExchange p s) := h.same rfl
  have load : ∀ u, Holds s0 u → Holds s0 (reload p u) := fun u hu => hu.same rfl
  unfold Machine.endExchange
  split
  · exact h
  · refine load _ ?_
    split
    · exact h1.goodReply p _ _ _
    · exact h1.miss p _

end
end Holds

end Sys2Proof.Machine
end

-- ==== The held key through the runs, RESET and the requests ====
section
/-! What the sequencer holds when it arms, skips and passes on (R138, R139, R163, R164), and that no request and no end of a
ripple chunk changes a frozen field of the held event (R34, R49, R55, R192). -/

namespace Sys2Proof.Machine

/-- The keys held before or after keep the frozen fields of their events. -/
abbrev Takes (s t : State) : Prop := Carried (fun k => k ∈ s.seq.heldKey ∨ k ∈ t.seq.heldKey) s t

/-- The keys held before and after keep the frozen fields of their events. -/
abbrev Passes (s t : State) : Prop := Carried (fun k => k ∈ s.seq.heldKey ∧ k ∈ t.seq.heldKey) s t

section
variable {s0 s t u : State}

/-- Fewer keys looked at. -/
theorem Carried.mono {ks ls : Nat → Prop} (h : Carried ks s t) (hl : ∀ k, ls k → ks k) : Carried ls s t :=
  ⟨fun k hk => h.kept k (hl k hk), h.held⟩

/-- Work that keeps the frozen fields of every event. -/
theorem Holds.takes (h : Holds s t) : Takes s t := h.mono fun _ _ => trivial

/-- Work that keeps the frozen fields of every event. -/
theorem Holds.passes (h : Holds s t) : Passes s t := h.mono fun _ _ => trivial

/-- The keys held before or after are among them the keys held before and after. -/
theorem Takes.passes (h : Takes s t) : Passes s t := h.mono fun _ hk => .inl hk.1

/-- Work that leaves the list and the held key. -/
theorem Takes.same (ht : holding t = holding s) : Takes s t := (Holds.start.same ht).takes

/-- A change of the list that keeps the held event, the held key standing. -/
theorem Takes.change (hk : t.seq.heldKey = s.seq.heldKey) (ht : ∀ k ∈ s.seq.heldKey, KeepsFrozen s.list t.list k) :
    Takes s t :=
  ⟨fun k h => ht k (h.elim id fun h => hk ▸ h), fun _ h => .inl (hk ▸ h)⟩

namespace Holds

/-! ## The sequencer's arms and runs (R138, R139, R163, R164) -/

/-- The hold lookup: the event it finds stands worked. -/
theorem holdLookup (h : Holds s0 s) {key : Nat} {e : Event} (hl : holdLookup key s = some (e, t)) :
    Holds s0 t ∧ Stands t.list e.key := by
  obtain ⟨-, hworked⟩ := Quiet.holdLookup hl
  obtain ⟨rfl, hf⟩ := holdLookup_eq hl
  exact ⟨h.list fun k => .ahead key s.list k, keyUsed_iff.2 ⟨e, List.mem_of_find?_eq_some hf, rfl⟩, hworked⟩

/-- The arm of an event that stands worked. -/
theorem arm (h : Holds s0 s) (m : Mode) {e : Event} (he : Stands s.list e.key) (d : DeckSet) (run : Option Run) :
    Holds s0 (arm m e d run s) :=
  h.hold he ((blind_arm m e d run).keeps s).1 (congrArg Sequencer.heldKey (arm_eq m e d run s).1)

/-- The next candidate of a run. -/
theorem nextCandidate (h : Holds s0 s) (run : Run) : Holds s0 (nextCandidate run s) := by
  unfold Machine.nextCandidate
  split
  · exact h.finalStep.same rfl
  · rename_i e s1 hl
    obtain ⟨_, -, hl⟩ := Option.bind_eq_some_iff.1 hl
    obtain ⟨h1, he⟩ := h.holdLookup hl
    split
    · exact h1.finalStep.arm _ (by rwa [finalStep_list]) _ _
    · exact h1.hold he rfl rfl

/-- The passage from one edit of a run to the next. -/
theorem passOn (h : Holds s0 s) (o : Option RunReason) (key : Nat) (run : Run) : Holds s0 (passOn o key run s) := by
  unfold Machine.passOn
  split
  · exact h.finalStep.same rfl
  · exact h.nextCandidate _

/-- The handed write taken. -/
theorem takeHanded (h : Holds s0 s) (ending : Bool) : Holds s0 (takeHanded ending s) := by
  have taken : ∀ w, Holds s0 (writeTaken w s) := fun w =>
    Holds.freed (h.list fun k => .write s.seq.heldKey w s.list k) rfl rfl
  unfold Machine.takeHanded
  split
  · exact h
  · dsimp only
    split
    · exact (taken _).passOn _ _ _
    · exact (taken _).finalStep
  · dsimp only
    split
    · exact (taken _).passOn _ _ _
    · exact (taken _).finalStep

/-- The candidates of RUN. -/
theorem runCandidates (h : Holds s0 s) (moved : Bool) (used : List Byte) (fuel : Nat) (run : Run) :
    Holds s0 (runCandidates moved used fuel run s) := by
  induction fuel generalizing s run with
  | zero => exact h.same rfl
  | succ fuel ih =>
    unfold Machine.runCandidates
    split
    · exact .ite (h.same rfl) (h.same rfl)
    · rename_i e s1 hl
      obtain ⟨_, -, hl⟩ := Option.bind_eq_some_iff.1 hl
      obtain ⟨h1, he⟩ := h.holdLookup hl
      split
      · exact (h1.arm _ he _ _).same rfl
      · have h2 := h1.list fun k => .write (some e.key) (skipWrite e.key (skipClass ‹Reason›)) s1.list k
        dsimp only
        split
        · exact h2.same rfl
        · exact ih h2 _

/-- RUN from its sixth step on. -/
theorem runStep (h : Holds s0 s) (body : List Byte) : Holds s0 (runStep body s) := by
  unfold Machine.runStep
  split
  · exact .ite (h.same rfl) (h.runCandidates _ _ _ _)
  · exact h.same rfl

/-- RUN. -/
theorem runOwner (h : Holds s0 s) (body : List Byte) : Holds s0 (runOwner body s) := by
  unfold Machine.runOwner
  split
  · exact h.runStep body
  · exact h.same rfl

/-- A single edit request. -/
theorem editOwner (h : Holds s0 s) (m : Mode) (body : List Byte) : Holds s0 (editOwner m body s) := by
  refine .ite (h.same rfl) ?_
  unfold armStep
  split
  · exact h.same rfl
  · rename_i e s1 hl
    obtain ⟨h1, he⟩ := h.holdLookup hl
    split
    · exact h1.same rfl
    · exact (h1.arm _ he _ _).same rfl

/-! ## RESET (R54, R192) -/

/-- RESET with no ripple in flight. -/
theorem resetRest (h : Holds s0 s) : Holds s0 (resetRest s) := by
  have h1 := (h.faultOrCutShort .abort).takeHanded true
  have h2 : Holds s0 (resetDisengage (Machine.takeHanded true (abortEdit s))) := by
    unfold resetDisengage
    split
    · exact h1.handCommand _ _
    · exact h1
  have deck : ∀ p u, Holds s0 u → Holds s0 (resetDeck p u) := by
    intro p u hu
    have hu1 : Holds s0 (u.setTransport p { u.transport p with cue := none, standbyTimer := 0 }) := hu.same rfl
    unfold resetDeck
    dsimp only
    split
    · exact hu1
    · exact hu1
    · exact hu1
    · exact hu1
    · exact hu1.same rfl
    · exact hu1.port (fun k => (k.handTransport rfl (by simp)).enterState _)
  have decks : ∀ u, Holds s0 u → Holds s0 (resetDecks u) := fun u hu =>
    (hu.foldl (f := fun s p => resetDeck p (s.setHolder p .free))
      (fun v p hv => deck p _ (hv.same (t := v.setHolder p .free) rfl)) allPorts).same rfl
  have outputs : ∀ u, Holds s0 u → Holds s0 (answer 0x27 .done [] { quietGpi (blackMix u) with notices := [] }) :=
    fun u hu => hu.same rfl
  exact outputs _ (decks _ h2)

/-! ## The lookups and the reels (R29 to R31, R102 to R109) -/

/-- READ BY POSITION. -/
theorem readByPositionOwner (h : Holds s0 s) (body : List Byte) : Holds s0 (readByPositionOwner body s) := by
  unfold Machine.readByPositionOwner
  dsimp only
  split
  · exact h.same rfl
  · exact h.same rfl

/-- READ BY KEY. -/
theorem readByKeyOwner (h : Holds s0 s) (body : List Byte) : Holds s0 (readByKeyOwner body s) := by
  unfold Machine.readByKeyOwner
  dsimp only
  split
  · exact h.same rfl
  · exact h.same rfl

/-- FIND. -/
theorem findOwner (h : Holds s0 s) (body : List Byte) : Holds s0 (findOwner body s) := by
  unfold Machine.findOwner
  split
  · exact h.same rfl
  · exact h.same rfl

/-- READ REEL. -/
theorem readReelOwner (h : Holds s0 s) (body : List Byte) : Holds s0 (readReelOwner body s) := by
  unfold Machine.readReelOwner
  dsimp only
  split
  · exact h.same rfl
  · exact h.same rfl
  · exact h.same rfl

/-- FIND REEL. -/
theorem findReelOwner (h : Holds s0 s) (body : List Byte) : Holds s0 (findReelOwner body s) := by
  refine .ite (h.same rfl) ?_
  split
  · exact h.same rfl
  · exact h.same rfl

/-- RETIRE from its fourth step on. -/
theorem retireStep (h : Holds s0 s) (body : List Byte) : Holds s0 (retireStep body s) := by
  unfold Machine.retireStep
  dsimp only
  split
  · exact .ite (h.same rfl) ((h.putReel _ _).same rfl)
  · exact h.same rfl

end Holds

/-! ## The requests that wait for a chunk (R49) -/

/-- INSERT. -/
theorem takes_insertOwner (body : List Byte) (s : State) : Takes s (insertOwner body s) := by
  unfold insertOwner
  dsimp only
  split
  · exact .change rfl fun k hk => insertChange_keeps hk ‹_›
  · exact .same rfl

/-- REPLACE. -/
theorem takes_replaceOwner (body : List Byte) (s : State) : Takes s (replaceOwner body s) := by
  unfold replaceOwner
  split
  · exact .change rfl fun k hk => replaceChange_keeps hk ‹_›
  · exact .same rfl

/-- TRIM. -/
theorem takes_trimOwner (body : List Byte) (s : State) : Takes s (trimOwner body s) := by
  unfold trimOwner
  split
  · exact .change rfl fun k hk => trimChange_keeps hk ‹_›
  · exact .same rfl

/-- DELETE. -/
theorem takes_deleteOwner (body : List Byte) (s : State) : Takes s (deleteOwner body s) := by
  unfold deleteOwner
  dsimp only
  split
  · exact .change rfl fun k hk => deleteChange_keeps hk ‹_›
  · exact .same rfl

/-- CLEAR LIST. -/
theorem takes_clearListOwner (body : List Byte) (s : State) : Takes s (clearListOwner body s) := by
  unfold clearListOwner
  split
  · rename_i hc
    exact .change rfl fun k hk => by simp [clearChange_unheld hc] at hk
  · exact .same rfl

/-- RIPPLE. -/
theorem takes_rippleOwner (body : List Byte) (s : State) : Takes s (rippleOwner body s) := by
  unfold rippleOwner
  dsimp only
  split
  · exact .change rfl fun k hk => rippleChange_keeps hk ‹_›
  · exact .same rfl

/-- A request that waited taken up. -/
theorem takes_takeUp (w : Waiting) (s : State) : Takes s (takeUp w s) := by
  have h : Holds s s := .start
  unfold takeUp
  split
  · exact (h.readByPositionOwner _).takes
  · exact (h.readByKeyOwner _).takes
  · exact (h.findOwner _).takes
  · exact .same rfl
  · exact takes_insertOwner _ _
  · exact takes_replaceOwner _ _
  · exact takes_trimOwner _ _
  · exact takes_deleteOwner _ _
  · exact takes_clearListOwner _ _
  · exact takes_rippleOwner _ _
  · exact (h.retireStep _).takes
  · exact (h.readReelOwner _).takes
  · exact (h.findReelOwner _).takes
  · exact (h.editOwner _ _).takes
  · exact (h.editOwner _ _).takes
  · exact (h.editOwner _ _).takes
  · exact (h.runStep _).takes
  · exact (Holds.ite h h.resetRest).takes
  · exact h.takes

/-- The request that waits taken up. -/
theorem takes_takeWaiting (s : State) : Takes s (takeWaiting s) := by
  unfold takeWaiting
  split
  · exact takes_takeUp _ s
  · exact Holds.start.takes

/-- The end of a chunk: the chunk leaves the held key, and of the requests taken after it only the list unit's can change
frozen fields, those of events not held. -/
theorem passes_rippleChunkEndWork (h : ∀ r ∈ s.list.ripple, r.members.Nodup) (sequencerFirst : Bool) :
    Passes s (rippleChunkEndWork sequencerFirst s) := by
  have worked : ∀ u : State, holding u = (workChunk s.list, s.seq.heldKey) → Passes s (takeBoth sequencerFirst u) := by
    intro u hu
    obtain ⟨-, hk⟩ := Prod.mk.inj hu
    have h1 : Holds s { s with list := workChunk s.list } := Holds.start.list fun k => .chunk h k
    have h2 : Holds s u := h1.same hu
    unfold takeBoth
    split
    · exact (h2.takeHanded (resetting u)).comp (takes_takeWaiting _) (fun _ hk _ => .inl hk)
        fun _ hk => ⟨trivial, .inr hk.2⟩
    · have h3 : Carried (fun k => k ∈ s.seq.heldKey) s (takeWaiting u) :=
        h2.comp (takes_takeWaiting u) (fun _ hk _ => .inl hk) fun _ hs => ⟨trivial, .inl (hk ▸ hs)⟩
      exact h3.comp (Holds.start.takeHanded false) (fun _ _ _ => trivial) fun _ hs => ⟨hs.1, trivial⟩
  unfold rippleChunkEndWork
  split
  · refine worked _ ?_
    dsimp only
    split
    · rfl
    · rfl
  · exact Holds.start.passes

/-! ## Every command -/

/-- The list and the held key are all that matters of the state before and after. -/
theorem Passes.congr {s' t' : State} (h : Passes s t) (hs : holding s' = holding s) (ht : holding t' = holding t) :
    Passes s' t' := by
  obtain ⟨hsl, hsk⟩ := Prod.mk.inj hs
  obtain ⟨htl, htk⟩ := Prod.mk.inj ht
  obtain ⟨hkept, hheld⟩ := h
  rw [← hsl, ← hsk, ← htk, ← htl] at hkept
  rw [← hsk, ← htk, ← htl] at hheld
  exact ⟨hkept, hheld⟩

/-- A command's work. -/
theorem Passes.work {f : State → State} (hf : Passes s (f s)) (ht : work f s = .next t) : Passes s t := by
  obtain rfl : (if s.inReset then s else shortenPolls (f s)) = t := by simpa [Machine.work] using ht
  split
  · exact Holds.start.passes
  · exact hf.congr rfl rfl

/-- A request. -/
theorem Passes.request {code : Nat} {fits : List Byte → Bool} {waits : List Byte → State → Bool}
    {owner : List Byte → State → State} {body : List Byte} (ho : ∀ u, Takes u (owner body u))
    (ht : request code fits waits owner body s = .next t) : Passes s t := by
  have still : ∀ u, holding u = holding s → Passes s u := fun u hu => (Holds.start.same hu).passes
  rw [request_eq] at ht
  split at ht
  · obtain rfl := Host.Outcome.next.inj ht
    exact still _ rfl
  · split at ht
    · obtain rfl := Host.Outcome.next.inj ht
      exact still _ rfl
    · split at ht
      · obtain rfl := Host.Outcome.next.inj ht
        exact still _ rfl
      · obtain rfl := Host.Outcome.next.inj ht
        exact (ho (taken body s)).passes.congr rfl rfl

/-- A request that changes no frozen field at all. -/
theorem Holds.request {code : Nat} {fits : List Byte → Bool} {waits : List Byte → State → Bool}
    {owner : List Byte → State → State} {body : List Byte} (ho : ∀ u, Holds u u → Holds u (owner body u))
    (ht : request code fits waits owner body s = .next t) : Passes s t :=
  .request (fun u => (ho u .start).takes) ht

/-- A command's work that changes no frozen field at all. -/
theorem Holds.work {f : State → State} (hf : Holds s s → Holds s (f s)) (ht : work f s = .next t) : Passes s t :=
  .work (hf .start).passes ht

end
end Sys2Proof.Machine
end

-- ==== The held event is frozen ====
section
/-! No command changes a frozen field of the event held before and after it (R51, R55). -/

namespace Sys2Proof.Machine

namespace Holds

section
variable {s0 s : State}

/-! ## The timed steps (log entry 9) -/

/-- REFERENCE_LOSS. -/
theorem referenceLossWork (h : Holds s0 s) (lossFirst stopFirst : Bool) :
    Holds s0 (referenceLossWork lossFirst stopFirst s) := by
  unfold Machine.referenceLossWork
  split
  · exact h.loseReference _ _ _
  · exact h

/-- REFERENCE_RESTORED. -/
theorem referenceRestoredWork (h : Holds s0 s) : Holds s0 (referenceRestoredWork s) := by
  unfold Machine.referenceRestoredWork
  split
  · exact .ite (h.same rfl) h
  · exact h

/-- GOOD_FIELD_TIMEOUT. -/
theorem goodFieldTimeoutWork (h : Holds s0 s) : Holds s0 (goodFieldTimeoutWork s) := by
  unfold Machine.goodFieldTimeoutWork
  split
  · exact h.same rfl
  · exact h

/-- INTERNAL_FIELD. -/
theorem internalFieldWork (h : Holds s0 s) (stopFirst : Bool) : Holds s0 (internalFieldWork stopFirst s) := by
  unfold Machine.internalFieldWork
  split
  · exact Holds.fieldEvent (s := { s with ref := { s.ref with lastField := s.ref.lastField + period s.std } })
      (h.same rfl) _ _
  · exact h

/-- SEQUENCER_ROLL. -/
theorem sequencerRollWork (h : Holds s0 s) : Holds s0 (sequencerRollWork s) := by
  unfold Machine.sequencerRollWork
  split
  · rename_i x _
    exact .ite (Holds.roll (s := { s with recorderFrame := recorderPos x s / 64 }) (h.same rfl) x) h
  · exact h

/-- RELEASE_TIMEOUT. -/
theorem releaseTimeoutWork (h : Holds s0 s) : Holds s0 (releaseTimeoutWork s) := by
  unfold Machine.releaseTimeoutWork
  split
  · exact h.releaseTimeout _
  · exact h

/-- POSTROLL_END. -/
theorem postrollEndCommand (h : Holds s0 s) : Holds s0 (postrollEndCommand s) := by
  unfold Machine.postrollEndCommand
  split
  · exact h.postrollEndWork _
  · exact h

/-- STATUS_WRITE. -/
theorem statusWriteWork (h : Holds s0 s) : Holds s0 (statusWriteWork s) := .ite h (h.takeHanded false)

/-- FLIP_FLOP. -/
theorem flipFlopWork (h : Holds s0 s) : Holds s0 (flipFlopWork s) := by
  unfold Machine.flipFlopWork
  split
  · exact .ite (h.same rfl) h
  · exact h

/-- GPI_PULSE_END. -/
theorem gpiPulseEndWork (h : Holds s0 s) (l : Line) : Holds s0 (gpiPulseEndWork l s) := by
  unfold Machine.gpiPulseEndWork
  split
  · exact .ite (h.same rfl) h
  · exact h

/-- DECK_REPLY. -/
theorem deckReplyWork (h : Holds s0 s) (p : Port) (chars : List LineChar) : Holds s0 (deckReplyWork p chars s) := by
  unfold Machine.deckReplyWork
  split
  · exact h
  · exact h.endExchange p _

/-- POLL_MOMENT. -/
theorem pollWork (h : Holds s0 s) (p : Port) : Holds s0 (pollWork p s) := .ite (h.same rfl) h

/-- STORE_END. -/
theorem storeEndWork (h : Holds s0 s) (stop : Option StoreStop) : Holds s0 (storeEndWork stop s) := by
  unfold Machine.storeEndWork
  split
  · exact h
  · exact h.same rfl

/-! ## The requests -/

/-- DEFINE REEL. -/
theorem defineReelOwner (h : Holds s0 s) (body : List Byte) : Holds s0 (defineReelOwner body s) := by
  unfold Machine.defineReelOwner
  dsimp only
  split
  · exact (h.putReel _ _).same rfl
  · exact h.same rfl

/-- RENAME. -/
theorem renameOwner (h : Holds s0 s) (body : List Byte) : Holds s0 (renameOwner body s) := by
  unfold Machine.renameOwner
  dsimp only
  split
  · exact (h.putReel _ _).same rfl
  · exact h.same rfl

/-- RETIRE. -/
theorem retireOwner (h : Holds s0 s) (body : List Byte) : Holds s0 (retireOwner body s) := by
  unfold Machine.retireOwner
  split
  · exact h.retireStep body
  · exact h.same rfl

/-- The mount of another reel cleared, where there is one. -/
theorem displace (h : Holds s0 s) (o : Option Nat) : Holds s0 (displace o s) := by
  unfold Machine.displace
  split
  · exact h.putMount _ _
  · exact h

/-- MOUNT. -/
theorem mountOwner (h : Holds s0 s) (body : List Byte) : Holds s0 (mountOwner body s) := by
  unfold Machine.mountOwner
  dsimp only
  split
  · exact ((h.displace _).putMount _ _).same rfl
  · exact h.same rfl

/-- UNMOUNT. -/
theorem unmountOwner (h : Holds s0 s) (body : List Byte) : Holds s0 (unmountOwner body s) := by
  unfold Machine.unmountOwner
  dsimp only
  split
  · exact (h.displace _).same rfl
  · exact h.same rfl

/-- A claim by the console. -/
theorem claimAnswer (h : Holds s0 s) (code : Nat) (granted : Bool) (ps : List Port) :
    Holds s0 (claimAnswer code granted ps s) := by
  have claimed : Holds s0 (claimPorts .console ps s) :=
    h.same (congrArg holding (deckWork_claimPorts ps .console s).only :)
  refine .ite ?_ (h.same rfl)
  exact claimed.same rfl

/-- CLAIM SET. -/
theorem claimSetOwner (h : Holds s0 s) (body : List Byte) : Holds s0 (claimSetOwner body s) := by
  unfold Machine.claimSetOwner
  split
  · exact h.same rfl
  · exact h.claimAnswer _ _ _

/-- CLAIM EXCLUSIVE. -/
theorem claimExclusiveOwner (h : Holds s0 s) (body : List Byte) : Holds s0 (claimExclusiveOwner body s) := by
  unfold Machine.claimExclusiveOwner
  split
  · exact h.same rfl
  · exact h.claimAnswer _ _ _

/-- RELEASE SET. -/
theorem releaseSetOwner (h : Holds s0 s) (body : List Byte) : Holds s0 (releaseSetOwner body s) := by
  have release : ∀ u p, Holds s0 u → Holds s0 (releasePort p u) := by
    intro u p hu
    unfold releasePort chaserFreed
    split
    · exact .ite (hu.same rfl) (hu.same rfl)
    · exact hu.same rfl
  unfold Machine.releaseSetOwner
  split
  · exact h.same rfl
  · exact (h.foldl release _).same rfl

/-- TRANSPORT. -/
theorem transportOwner (h : Holds s0 s) (body : List Byte) : Holds s0 (transportOwner body s) := by
  unfold Machine.transportOwner
  split
  · rename_i p a _
    exact (h.port (fun k => k.act .console a)).same rfl
  · exact h.same rfl

/-- CUE. -/
theorem cueOwner (h : Holds s0 s) (body : List Byte) : Holds s0 (cueOwner body s) := by
  unfold Machine.cueOwner
  split
  · rename_i p n _ _
    exact (h.port (fun k => k.beginCue (p := p) .console (x := n * 64) (by simp))).same rfl
  · exact h.same rfl

/-- CHASE. -/
theorem chaseOwner (h : Holds s0 s) (body : List Byte) : Holds s0 (chaseOwner body s) := by
  unfold Machine.chaseOwner
  dsimp only
  split
  · exact h.same rfl
  · exact h.same rfl

/-- CHASE STOP. -/
theorem chaseStopOwner (h : Holds s0 s) (body : List Byte) : Holds s0 (chaseStopOwner body s) := by
  unfold Machine.chaseStopOwner
  split
  · rename_i p _
    exact (h.port (p := p) (fun k => (k.chaseAct .halt).removeChase)).same rfl
  · exact h.same rfl

/-- SET SYSTEM. -/
theorem setSystemOwner (h : Holds s0 s) (body : List Byte) : Holds s0 (setSystemOwner body s) := by
  have block : ∀ b, Holds s0 (setSystemBlock b s) := by
    intro b
    have h1 : Holds s0 (if b.std = s.std then s else changeStandard b.std s) := .ite h (h.same rfl)
    exact h1.same rfl
  unfold Machine.setSystemOwner
  split
  · exact (block _).same rfl
  · exact h.same rfl

/-- SET PROFILE. -/
theorem setProfileOwner (h : Holds s0 s) (body : List Byte) : Holds s0 (setProfileOwner body s) := by
  unfold Machine.setProfileOwner
  split
  · exact h.same rfl
  · exact h.same rfl

/-- SET GPI. -/
theorem setGpiOwner (h : Holds s0 s) (body : List Byte) : Holds s0 (setGpiOwner body s) := by
  have config : ∀ l g, Holds s0 (setGpiConfig l g s) := fun _ _ => .ite (h.same rfl) (h.same rfl)
  unfold Machine.setGpiOwner
  split
  · exact h.same rfl
  · exact .ite (h.same rfl) ((config _ _).same rfl)

/-- STORE SETTINGS. -/
theorem storeSettingsOwner (h : Holds s0 s) (body : List Byte) : Holds s0 (storeSettingsOwner body s) :=
  .ite (h.same rfl) (h.same rfl)

/-- ABORT. -/
theorem abortOwner (h : Holds s0 s) (body : List Byte) : Holds s0 (abortOwner body s) :=
  .ite (h.same rfl) (.ite (h.same rfl) ((h.faultOrCutShort .abort).same rfl))

/-- RESET. -/
theorem resetOwner (h : Holds s0 s) (body : List Byte) : Holds s0 (resetOwner body s) :=
  .ite ((h.faultOrCutShort .abort).same rfl) h.resetRest

/-- PORT STATUS. -/
theorem portStatusOwner (h : Holds s0 s) (body : List Byte) : Holds s0 (portStatusOwner body s) := by
  unfold Machine.portStatusOwner
  split
  · exact h.same rfl
  · exact h.same rfl

/-- TRANSPORT STATUS. -/
theorem transportStatusOwner (h : Holds s0 s) (body : List Byte) : Holds s0 (transportStatusOwner body s) := by
  unfold Machine.transportStatusOwner
  split
  · exact h.same rfl
  · exact h.same rfl

/-- TEST SET. -/
theorem testSetOwner (h : Holds s0 s) (body : List Byte) : Holds s0 (testSetOwner body s) := by
  unfold Machine.testSetOwner
  split
  · exact h.same rfl
  · exact h.same rfl

/-- TRACK STATUS. -/
theorem trackStatusOwner (h : Holds s0 s) (body : List Byte) : Holds s0 (trackStatusOwner body s) := by
  unfold Machine.trackStatusOwner
  split
  · exact h.same rfl
  · exact h.same rfl

/-- READ SETTINGS. -/
theorem readSettingsOwner (h : Holds s0 s) (body : List Byte) : Holds s0 (readSettingsOwner body s) := by
  unfold Machine.readSettingsOwner
  split
  · exact h.same rfl
  · exact h.same rfl

/-- TAKE NOTICE. -/
theorem takeNoticeOwner (h : Holds s0 s) (body : List Byte) : Holds s0 (takeNoticeOwner body s) := by
  unfold Machine.takeNoticeOwner
  split
  · exact h.same rfl
  · exact h.same rfl

end
end Holds

/-! ## Every command -/

section
variable {s t : State}

/-- Every command keeps the frozen fields of an event that is held before and after it, and holds no other but one that
stands worked. -/
theorem passes_exec (hl : ∀ r ∈ s.list.ripple, r.members.Nodup) {c : Instr} (ht : exec c s = .next t) :
    Passes s t := by
  have same : ∀ u, holding u = holding s → Passes s u := fun u hu => (Holds.start.same hu).passes
  cases c with
  | hardwareReset =>
    obtain rfl := Host.Outcome.next.inj ht
    exact ⟨fun k hk => by simp [State.reset, Sequencer.idle] at hk, by simp [State.reset, Sequencer.idle]⟩
  | settingsLoadEnd read time =>
    obtain rfl := Host.Outcome.next.inj ht
    refine same _ ?_
    unfold loadEndWork
    split
    · rfl
    · rfl
  | fieldPulse time field1 stopFirst => exact Holds.work (fun h => h.fieldPulseWork time field1 stopFirst) ht
  | referenceRestored => exact Holds.work (fun h => h.referenceRestoredWork) ht
  | referenceLoss lossFirst stopFirst => exact Holds.work (fun h => h.referenceLossWork lossFirst stopFirst) ht
  | goodFieldTimeout => exact Holds.work (fun h => h.goodFieldTimeoutWork) ht
  | internalField stopFirst => exact Holds.work (fun h => h.internalFieldWork stopFirst) ht
  | sequencerRoll => exact Holds.work (fun h => h.sequencerRollWork) ht
  | engageTimeout => exact Holds.work (fun h => h.engageTimeout) ht
  | releaseTimeout => exact Holds.work (fun h => h.releaseTimeoutWork) ht
  | postrollEnd => exact Holds.work (fun h => h.postrollEndCommand) ht
  | statusWrite => exact Holds.work (fun h => h.statusWriteWork) ht
  | rippleChunkEnd sequencerFirst => exact .work (passes_rippleChunkEndWork hl sequencerFirst) ht
  | flipFlop => exact Holds.work (fun h => h.flipFlopWork) ht
  | gpiPulseEnd line => exact Holds.work (fun h => h.gpiPulseEndWork line) ht
  | pollMoment port => exact Holds.work (fun h => h.pollWork port) ht
  | deckReply port chars => exact Holds.work (fun h => h.deckReplyWork port chars) ht
  | replyTimeout port => exact Holds.work (fun h => h.endExchange port none) ht
  | portOffline port => exact Holds.work (fun h => .ite (h.goOffline port) h) ht
  | sampleJump port sample => exact Holds.work (fun h => .ite (h.jump port _) h) ht
  | cueTimeout port => exact Holds.work (fun h => Holds.reportCues (h.port (p := port) (fun k => k.cueTimesOut))) ht
  | wakeEnd port => exact Holds.work (fun h => .ite (h.port (p := port) (fun k => k.endWake)) h) ht
  | standbyTimeout port => exact Holds.work (fun h => .ite (h.port (p := port) (fun k => k.sendToStandby)) h) ht
  | storeEnd stop => exact Holds.work (fun h => h.storeEndWork stop) ht
  | fetch clocked =>
    obtain rfl := Host.Outcome.next.inj ht
    refine same _ ?_
    unfold fetchWork
    split
    · rfl
    · rfl
  | selectAsserted =>
    obtain rfl := Host.Outcome.next.inj ht
    exact same _ rfl
  | unknownRequest code body =>
    exact Holds.request (fits := fun _ => false) (owner := fun _ s => s) (body := body) (fun _ h => h) ht
  | insert body => exact .request (takes_insertOwner body) ht
  | replace body => exact .request (takes_replaceOwner body) ht
  | trim body => exact .request (takes_trimOwner body) ht
  | delete body => exact .request (takes_deleteOwner body) ht
  | clearList body => exact .request (takes_clearListOwner body) ht
  | ripple body => exact .request (takes_rippleOwner body) ht
  | readByPosition body => exact Holds.request (fun _ h => h.readByPositionOwner body) ht
  | readByKey body => exact Holds.request (fun _ h => h.readByKeyOwner body) ht
  | find body => exact Holds.request (fun _ h => h.findOwner body) ht
  | readReel body => exact Holds.request (fun _ h => h.readReelOwner body) ht
  | findReel body => exact Holds.request (fits := (nameFits · 0)) (fun _ h => h.findReelOwner body) ht
  | defineReel body => exact Holds.request (fits := (nameFits · 0)) (fun _ h => h.defineReelOwner body) ht
  | rename body => exact Holds.request (fits := (nameFits · 1)) (fun _ h => h.renameOwner body) ht
  | retire body => exact Holds.request (fun _ h => h.retireOwner body) ht
  | mount body => exact Holds.request (fun _ h => h.mountOwner body) ht
  | unmount body => exact Holds.request (fun _ h => h.unmountOwner body) ht
  | portStatus body => exact Holds.request (fun _ h => h.portStatusOwner body) ht
  | transportStatus body => exact Holds.request (fun _ h => h.transportStatusOwner body) ht
  | testSet body => exact Holds.request (fun _ h => h.testSetOwner body) ht
  | trackStatus body => exact Holds.request (fun _ h => h.trackStatusOwner body) ht
  | takeNotice body => exact Holds.request (fun _ h => h.takeNoticeOwner body) ht
  | transport body => exact Holds.request (fun _ h => h.transportOwner body) ht
  | cue body => exact Holds.request (fun _ h => h.cueOwner body) ht
  | chase body => exact Holds.request (fun _ h => h.chaseOwner body) ht
  | chaseStop body => exact Holds.request (fun _ h => h.chaseStopOwner body) ht
  | claimSet body => exact Holds.request (fun _ h => h.claimSetOwner body) ht
  | claimExclusive body => exact Holds.request (fun _ h => h.claimExclusiveOwner body) ht
  | releaseSet body => exact Holds.request (fun _ h => h.releaseSetOwner body) ht
  | abort body => exact Holds.request (fun _ h => h.abortOwner body) ht
  | reset body => exact Holds.request (fun _ h => h.resetOwner body) ht
  | run body => exact Holds.request (fun _ h => h.runOwner body) ht
  | setSystem body => exact Holds.request (fun _ h => h.setSystemOwner body) ht
  | setProfile body => exact Holds.request (fun _ h => h.setProfileOwner body) ht
  | setGpi body => exact Holds.request (fun _ h => h.setGpiOwner body) ht
  | readSettings body => exact Holds.request (fun _ h => h.readSettingsOwner body) ht
  | storeSettings body => exact Holds.request (fun _ h => h.storeSettingsOwner body) ht
  | perform body => exact Holds.request (fun _ h => h.editOwner .perform body) ht
  | preview body => exact Holds.request (fun _ h => h.editOwner .preview body) ht
  | review body => exact Holds.request (fun _ h => h.editOwner .review body) ht
  | listStatus body => exact Holds.request (owner := listStatusOwner) (body := body) (fun _ h => h.same rfl) ht
  | mountTable body => exact Holds.request (owner := mountTableOwner) (body := body) (fun _ h => h.same rfl) ht
  | sequencerStatus body => exact Holds.request (owner := sequencerStatusOwner) (body := body) (fun _ h => h.same rfl) ht
  | runStatus body => exact Holds.request (owner := runStatusOwner) (body := body) (fun _ h => h.same rfl) ht
  | outputStatus body => exact Holds.request (owner := outputStatusOwner) (body := body) (fun _ h => h.same rfl) ht

/-- A step is a command or none. -/
theorem passes_step (hl : ∀ r ∈ s.list.ripple, r.members.Nodup) (ht : step s = .next t) : Passes s t := by
  unfold step at ht
  split at ht
  · obtain rfl := Host.Outcome.next.inj ht
    exact Holds.start.passes
  · rename_i rest _
    exact (passes_exec (s := { s with pending := rest }) hl ht).congr rfl rfl

end
end Sys2Proof.Machine

open Sys2Proof Sys2Proof.Machine

/-- Settles O11: a step keeps the event held before and after it (`Passes`), and the keys of the list it leaves are
different (O10), so that the key finds that event. -/
theorem heldEventIsFrozen : Obligations.HeldEventIsFrozen := by
  intro s t hr _ h hw ht
  obtain ⟨-, -, -, hripple⟩ := listRight_iff.1 h
  obtain ⟨-, -, -, hkeys, -⟩ := editListStaysSortedExclusiveAndInRange s t hr h ht
  have hp : Passes s t := passes_step (fun r hm => let ⟨hnodup, _⟩ := hripple r hm; hnodup) ht
  exact ⟨fun k hk => (hp.held k hk).elim (fun hheld => (hp.kept k ⟨hheld, hk⟩).stands (hw k hheld)) id,
    fun k hk hk' => (hp.kept k ⟨hk, hk'⟩).findKey_eq (hw k hk) hkeys⟩

end

-- ==== The notices in order, and the records of a deck in step ====
section
/-! The pending notices in the taking order (R190, R191), and what is right of the records of one deck (R57, R63, R64, R75,
R76, R78, R89, R91, R115): which changes of a record keep it right. -/

namespace Sys2Proof.Machine

/-! ## The taking order (R190, R191) -/

/-- The places of the taking order. -/
def noticeSlots : List Nat :=
  [10, 20, 31, 32, 33, 34, 35, 36, 41, 42, 43, 44, 45, 46, 51, 52, 53, 54, 55, 56, 60, 70, 81, 82, 83, 84, 85, 86, 90]

/-- Every notice has one of these places. -/
theorem noticeSlot_mem (n : Notice) : noticeSlot n ∈ noticeSlots := by
  cases n with
  | deck p _ => cases p <;> simp [noticeSlot, noticeSlots, portNum]
  | lock p _ => cases p <;> simp [noticeSlot, noticeSlots, portNum]
  | cueEnd p _ => cases p <;> simp [noticeSlot, noticeSlots, portNum]
  | reel p _ _ => cases p <;> simp [noticeSlot, noticeSlots, portNum]
  | _ => simp [noticeSlot, noticeSlots]

/-- Notices in the taking order are at most as many as the places. -/
theorem NoticesOrdered.length_le {s : State} (h : NoticesOrdered s) : s.notices.length ≤ 29 := by
  have hnodup : (s.notices.map noticeSlot).Nodup := h.imp Nat.ne_of_lt
  have hsub : s.notices.map noticeSlot ⊆ noticeSlots := by
    intro x hx
    obtain ⟨n, -, rfl⟩ := List.mem_map.1 hx
    exact noticeSlot_mem n
  have hle := (List.subperm_of_subset hnodup hsub).length_le
  rwa [List.length_map] at hle

/-- A notice put keeps the taking order. -/
theorem putNotice_ordered (n : Notice) {ns : List Notice} (h : (ns.map noticeSlot).Pairwise (· < ·)) :
    ((putNotice n ns).map noticeSlot).Pairwise (· < ·) := by
  induction ns with
  | nil => simp [putNotice]
  | cons m rest ih =>
    obtain ⟨hm, hrest⟩ := List.pairwise_cons.1 h
    unfold putNotice
    split
    · rename_i hlt
      refine List.pairwise_cons.2 ⟨fun x hx => ?_, h⟩
      rcases List.mem_cons.1 hx with rfl | hx
      · exact hlt
      · exact Nat.lt_trans hlt (hm x hx)
    · split
      · rename_i heq
        rw [List.map_cons, heq]
        exact List.pairwise_cons.2 ⟨hm, hrest⟩
      · refine List.pairwise_cons.2 ⟨fun x hx => ?_, ih hrest⟩
        obtain ⟨k, hk, rfl⟩ := List.mem_map.1 hx
        rcases mem_putNotice hk with rfl | hk
        · omega
        · exact hm _ (List.mem_map_of_mem hk)

/-- A notice raised keeps the taking order. -/
theorem NoticesOrdered.raise {s : State} (h : NoticesOrdered s) (n : Notice) : NoticesOrdered (raise n s) :=
  putNotice_ordered n h

/-! ## The command slots (R63, R64) -/

/-- Pending commands with at most one of each class, and no STATUS. -/
structure OneOfEach (cs : List DeckCmd) : Prop where
  same : cs.Pairwise (fun c d => recordClass c ≠ recordClass d)
  status : DeckCmd.status ∉ cs

/-- The slots of a port are right: one command of each class, and none on a line that is not ONLINE. -/
theorem slotsRight_iff {d : DeckPort} : SlotsRight d ↔ OneOfEach d.commands ∧ (d.line ≠ .online → d.commands = []) := by
  have hpair : d.commands.countP recordClass ≤ 1 ∧ d.commands.countP (fun c => !recordClass c) ≤ 1 ↔
      d.commands.Pairwise (fun c d => recordClass c ≠ recordClass d) := by
    rw [countP_le_one_iff, countP_le_one_iff, ← List.pairwise_and_iff]
    refine List.Pairwise.iff fun a b => ?_
    cases recordClass a <;> cases recordClass b <;> simp
  constructor
  · rintro ⟨h1, h2, h3, h4⟩
    exact ⟨⟨hpair.1 ⟨h1, h2⟩, h3⟩, h4⟩
  · rintro ⟨⟨h1, h2⟩, h3⟩
    exact ⟨(hpair.2 h1).1, (hpair.2 h1).2, h2, h3⟩

/-- A command handed goes to the end, or to the place of the first of its class. -/
theorem enqueue_append (c : DeckCmd) {a : List DeckCmd} (h : ∀ x ∈ a, recordClass x ≠ recordClass c) (b : List DeckCmd) :
    enqueue c (a ++ b) = a ++ enqueue c b := by
  induction a with
  | nil => rfl
  | cons x rest ih =>
    rw [List.cons_append, enqueue, if_neg (h x List.mem_cons_self), ih fun y hy => h y (List.mem_cons_of_mem _ hy)]
    rfl

namespace OneOfEach

variable {cs : List DeckCmd} {c d : DeckCmd}

/-- Two commands of one class are the same. -/
theorem eq_of_class (h : OneOfEach cs) (hc : c ∈ cs) (hd : d ∈ cs) (he : recordClass c = recordClass d) : c = d := by
  by_contra hne
  have hsymm : Std.Symm (fun c d : DeckCmd => recordClass c ≠ recordClass d) := ⟨fun _ _ => Ne.symm⟩
  exact (h.same.forall hc hd hne) he

/-- Fewer commands. -/
theorem sublist {ds : List DeckCmd} (h : OneOfEach cs) (hs : ds.Sublist cs) : OneOfEach ds :=
  ⟨h.same.sublist hs, fun hd => h.status (hs.subset hd)⟩

/-- A command handed. -/
theorem enqueue (h : OneOfEach cs) (hc : c ≠ .status) : OneOfEach (enqueue c cs) := by
  refine ⟨?_, fun hs => (mem_enqueue hs).elim (fun he => hc he.symm) h.status⟩
  have hp := h.same
  clear h
  induction cs with
  | nil => simp [Machine.enqueue]
  | cons d rest ih =>
    obtain ⟨hd, hrest⟩ := List.pairwise_cons.1 hp
    unfold Machine.enqueue
    split
    · rename_i he
      exact List.pairwise_cons.2 ⟨fun x hx => he ▸ hd x hx, hrest⟩
    · rename_i hne
      exact List.pairwise_cons.2 ⟨fun x hx => (mem_enqueue hx).elim (fun e => e ▸ hne) (hd x), ih hrest⟩

/-- After a command is handed it is the only one of its class. -/
theorem eq_enqueued (h : OneOfEach cs) (hc : c ≠ .status) (hd : d ∈ Machine.enqueue c cs)
    (he : recordClass d = recordClass c) : d = c :=
  (h.enqueue hc).eq_of_class hd (mem_enqueue_self c cs) he

end OneOfEach

/-- A command returned after a miss joins the others only when none of its class stands there. -/
theorem returned_cases (c : DeckCmd) (cs : List DeckCmd) : returned c cs = cs ∨
    returned c cs = c :: cs ∧ c ≠ .status ∧ ∀ d ∈ cs, recordClass d ≠ recordClass c := by
  have joins : (if cs.any (fun d => recordClass d = recordClass c) then cs else c :: cs) = cs ∨
      (if cs.any (fun d => recordClass d = recordClass c) then cs else c :: cs) = c :: cs ∧
        ∀ d ∈ cs, recordClass d ≠ recordClass c := by
    split
    · exact .inl rfl
    · rename_i h
      exact .inr ⟨rfl, by simpa using h⟩
  cases c with
  | status => exact .inl rfl
  | engage _ => exact .inl rfl
  | _ => exact joins.imp_right fun ⟨h1, h2⟩ => ⟨h1, nofun, h2⟩

/-- The slots stay right when a command returns. -/
theorem OneOfEach.returned {cs : List DeckCmd} (h : OneOfEach cs) (c : DeckCmd) : OneOfEach (returned c cs) := by
  rcases returned_cases c cs with e | ⟨e, hc, hd⟩
  · rwa [e]
  · rw [e]
    exact ⟨List.pairwise_cons.2 ⟨fun d hm => (hd d hm).symm, h.same⟩,
      fun hm => (List.mem_cons.1 hm).elim (fun he => hc he.symm) h.status⟩

/-! ## The records of one deck -/

/-- The records of one deck are right: the transport record agrees with the line, no position is known in OFFLINE or
EMPTY, the command slots are right, no RELEASE waits while the port is held, and no motion in STANDBY or WAKING. -/
structure DeckRight (d : DeckPort) (t : Transport) (known : Bool) (h : Holder) : Prop where
  agrees : TransportAgrees d t
  unknown : t.state = .offline ∨ t.state = .empty → known = false
  slots : SlotsRight d
  released : h ≠ .free → DeckCmd.release ∉ d.commands
  still : t.state = .standby ∨ t.state = .waking → NoMotionWaits d

/-- The records of a port are right. -/
def RightAt (p : Port) (s : State) : Prop := DeckRight (s.port p) (s.transport p) (s.tracker p).known (s.holder p)

/-- The two invariants of the decks, port by port. -/
theorem rightAt_iff {s : State} : (∀ p, RightAt p s) ↔ TransportsAgree s ∧ CommandsRight s := by
  constructor
  · intro h
    exact ⟨fun p _ => ⟨(h p).agrees, (h p).unknown⟩, fun p _ => ⟨(h p).slots, (h p).released, (h p).still⟩⟩
  · rintro ⟨h1, h2⟩ p
    obtain ⟨ha, hk⟩ := h1 p (mem_allPorts p)
    obtain ⟨hs, hr, hm⟩ := h2 p (mem_allPorts p)
    exact ⟨ha, hk, hs, hr, hm⟩

/-- A deck on its line, without a cue and a pending motion, its slots right: such a deck may enter any state in which it
stands or moves. -/
structure Driven (d : DeckPort) (t : Transport) (h : Holder) : Prop where
  line : d.line = .online
  cue : t.cue = none
  motion : t.motion = none
  slots : OneOfEach d.commands
  released : h ≠ .free → DeckCmd.release ∉ d.commands

section
variable {d d' : DeckPort} {t t' : Transport} {known known' : Bool} {h : Holder}

/-- The line of a deck that is neither OFFLINE nor in LOCAL. -/
theorem DeckRight.online (k : DeckRight d t known h) (h1 : t.state ≠ .offline) (h2 : t.state ≠ .panel) :
    d.line = .online := by
  obtain ⟨hoff, hpanel, -, -⟩ := k.agrees
  cases hl : d.line with
  | online => rfl
  | offline => exact absurd (hoff.1 hl) h1
  | panel => exact absurd (hpanel.1 hl) h2

/-- The slots of a deck that is right. -/
theorem DeckRight.oneOfEach (k : DeckRight d t known h) : OneOfEach d.commands := (slotsRight_iff.1 k.slots).1

/-- Nothing waits for a line that is not ONLINE. -/
theorem DeckRight.silent (k : DeckRight d t known h) (hl : d.line ≠ .online) : d.commands = [] :=
  (slotsRight_iff.1 k.slots).2 hl

/-- No cue stands outside CUEING. -/
theorem DeckRight.cue_none (k : DeckRight d t known h) (hs : t.state ≠ .cueing) : t.cue = none := by
  obtain ⟨-, -, hcue, -⟩ := k.agrees
  rw [← Option.not_isSome_iff_eq_none]
  exact fun hc => hs (hcue.1 hc)

/-- No motion is pending outside WAKING. -/
theorem DeckRight.motion_none (k : DeckRight d t known h) (hs : t.state ≠ .waking) : t.motion = none := by
  obtain ⟨-, -, -, hmotion⟩ := k.agrees
  rw [← Option.not_isSome_iff_eq_none]
  exact fun hc => hs (hmotion hc)

/-- The records are right by their line, commands and exchange, their state, cue and pending motion, and what is known. -/
theorem DeckRight.congr (k : DeckRight d t known h) (hl : d'.line = d.line) (hc : d'.commands = d.commands)
    (hx : d'.exchange = d.exchange) (hs : t'.state = t.state) (hcue : t'.cue.isSome = t.cue.isSome)
    (hm : t'.motion.isSome = t.motion.isSome) : DeckRight d' t' known h := by
  obtain ⟨h1, h2, h3, h4, h5⟩ := k
  refine ⟨?_, hs.symm ▸ h2, ?_, hc.symm ▸ h4, ?_⟩
  · simpa only [TransportAgrees, hl, hs, hcue, hm] using h1
  · simpa only [SlotsRight, hl, hc] using h3
  · simpa only [NoMotionWaits, hs, hc, hx] using h5

/-- What is known matters in OFFLINE and EMPTY alone. -/
theorem DeckRight.know (k : DeckRight d t known h) (hk : t.state = .offline ∨ t.state = .empty → known' = false) :
    DeckRight d t known' h := { k with unknown := hk }

/-- A port made FREE. -/
theorem DeckRight.free (k : DeckRight d t known h) : DeckRight d t known .free := { k with released := fun hf => absurd rfl hf }

/-- The holder of a port without a RELEASE is of no matter. -/
theorem DeckRight.hold (k : DeckRight d t known h) (hr : DeckCmd.release ∉ d.commands) (h' : Holder) :
    DeckRight d t known h' := { k with released := fun _ => hr }

/-- A deck that neither wakes nor has a cue is driven when it is on its line. -/
theorem DeckRight.driven (k : DeckRight d t known h) (hl : d.line = .online) (hc : t'.cue = none)
    (hm : t'.motion = none) : Driven d t' h := ⟨hl, hc, hm, k.oneOfEach, k.released⟩

/-- The state, the speed and the timers of a driven deck are of no matter. -/
theorem Driven.enter (k : Driven d t h) (hcue : t'.cue = t.cue) (hm : t'.motion = t.motion) : Driven d t' h :=
  ⟨k.line, hcue.trans k.cue, hm.trans k.motion, k.slots, k.released⟩

/-- The other states are not among those in which a deck stands or moves. -/
theorem movable_ne {st : TransportState} (h : movable st = true) :
    st ≠ .offline ∧ st ≠ .panel ∧ st ≠ .empty ∧ st ≠ .standby ∧ st ≠ .waking := by
  cases st <;> simp_all [movable]

/-- A driven deck enters a state in which it stands or moves without a cue. -/
theorem Driven.right (k : Driven d t h) (known : Bool) (h1 : movable t.state = true) (h2 : t.state ≠ .cueing) :
    DeckRight d t known h := by
  obtain ⟨hline, hcue, hmotion, hslots, hreleased⟩ := k
  obtain ⟨hoff, hpanel, hempty, hstandby, hwaking⟩ := movable_ne h1
  exact ⟨by simp [TransportAgrees, hline, hcue, hmotion, hoff, hpanel, h2], by simp [hoff, hempty],
    slotsRight_iff.2 ⟨hslots, fun hl => absurd hline hl⟩, hreleased, by simp [hstandby, hwaking]⟩

/-- A driven deck begins a cue. -/
theorem Driven.cueing (k : Driven d t h) (known : Bool) (h1 : t'.state = .cueing) (h2 : t'.cue.isSome)
    (h3 : t'.motion = t.motion) : DeckRight d t' known h := by
  obtain ⟨hline, -, hmotion, hslots, hreleased⟩ := k
  exact ⟨by simp [TransportAgrees, hline, h1, h2, h3, hmotion], by simp [h1],
    slotsRight_iff.2 ⟨hslots, fun hl => absurd hline hl⟩, hreleased, by simp [h1]⟩

/-- The command slots of a driven deck with a command handed that is not RELEASE. -/
theorem Driven.handed (k : Driven d t h) {c : DeckCmd} (hc : c ≠ .status) (hr : c ≠ .release)
    (hl : d'.line = d.line) (hcs : d'.commands = enqueue c d.commands) (hcue : t'.cue = t.cue)
    (hm : t'.motion = t.motion) : Driven d' t' h := by
  obtain ⟨h1, h2, h3, h4, h5⟩ := k
  refine ⟨hl.trans h1, hcue.trans h2, hm.trans h3, hcs ▸ h4.enqueue hc, fun hf hm => ?_⟩
  rw [hcs] at hm
  exact (mem_enqueue hm).elim (fun he => hr he.symm) (h5 hf)

/-- The only command of the transport class is one that carries no motion, and it stands there. -/
theorem noMotionWaits_handed {c : DeckCmd} (hs : OneOfEach d.commands) (hc : c ≠ .status) (hr : recordClass c = false)
    (hm : motionCmd c = false) (hcs : d'.commands = enqueue c d.commands) : NoMotionWaits d' := by
  have hmotion : ∀ x, recordClass x = true → motionCmd x = false := by
    intro x hx
    cases x with
    | engage _ => rfl
    | disengage => rfl
    | _ => cases hx
  unfold NoMotionWaits
  rw [hcs]
  refine ⟨fun x hx => ?_, fun _ _ _ => ⟨c, mem_enqueue_self c _, hr⟩⟩
  cases hx' : recordClass x with
  | true => exact hmotion x hx'
  | false =>
    rw [hs.eq_enqueued hc hx (hx'.trans hr.symm)]
    exact hm

/-- What a command of the transport class that carries no motion leaves of a deck that enters STANDBY or WAKING. -/
theorem DeckRight.resting (k : DeckRight d t known h) {c : DeckCmd} (hc : c ≠ .status) (hr : recordClass c = false)
    (hm : motionCmd c = false) (hrel : h ≠ .free → c ≠ .release) (hl' : d'.line = .online)
    (hcs : d'.commands = enqueue c d.commands) (hst : t'.state = .standby ∨ t'.state = .waking) (hcue : t'.cue = none)
    (hmot : t'.motion.isSome → t'.state = .waking) : DeckRight d' t' known h := by
  refine ⟨⟨?_, ?_, ?_, hmot⟩, ?_, slotsRight_iff.2 ⟨hcs ▸ k.oneOfEach.enqueue hc, fun hn => absurd hl' hn⟩,
    fun hf hmem => ?_, fun _ => noMotionWaits_handed k.oneOfEach hc hr hm hcs⟩
  · rcases hst with hst | hst <;> simp [hl', hst]
  · rcases hst with hst | hst <;> simp [hl', hst]
  · rcases hst with hst | hst <;> simp [hcue, hst]
  · rcases hst with hst | hst <;> simp [hst]
  · rw [hcs] at hmem
    exact (mem_enqueue hmem).elim (fun he => hrel hf he.symm) (k.released hf)

end
end Sys2Proof.Machine
end

-- ==== Work on one deck that keeps its records right ====
section
/-! What the transport controller does with one deck keeps the records of the deck right and the notices in order (R57, R63,
R64, R75 to R79, R82 to R91). Inside an operation the records may be wrong for a moment: `Upto` says what holds of them
there. -/

namespace Sys2Proof.Machine

/-- A port whose deck is driven. -/
def DrivenAt (p : Port) (s : State) : Prop := Driven (s.port p) (s.transport p) (s.holder p)

/-- `u` comes from `s` by work on the deck of port `p`: of the ports only its records differ, the notices stay in order, and
`Q` holds afterwards if its records were right before. -/
structure Upto (p : Port) (Q : State → Prop) (s u : State) : Prop where
  other : ∀ q, q ≠ p → u.port q = s.port q ∧ u.transport q = s.transport q ∧ u.tracker q = s.tracker q ∧
    u.holder q = s.holder q
  notices : NoticesOrdered s → NoticesOrdered u
  here : RightAt p s → Q u

namespace Upto

section
variable {p : Port} {Q Q' : State → Prop} {s0 s : State}

/-! ## Composition and the single updates -/

/-- No work. -/
theorem start (p : Port) (s : State) : Upto p (RightAt p) s s := ⟨fun _ _ => ⟨rfl, rfl, rfl, rfl⟩, id, id⟩

/-- Work that leaves the other ports. -/
theorem step (h : Upto p Q s0 s) {t : State} (ho : ∀ q, q ≠ p → t.port q = s.port q ∧ t.transport q = s.transport q ∧
    t.tracker q = s.tracker q ∧ t.holder q = s.holder q) (hn : NoticesOrdered s → NoticesOrdered t) (hq : Q s → Q' t) :
    Upto p Q' s0 t :=
  ⟨fun q hne => ⟨(ho q hne).1.trans (h.other q hne).1, (ho q hne).2.1.trans (h.other q hne).2.1,
    (ho q hne).2.2.1.trans (h.other q hne).2.2.1, (ho q hne).2.2.2.trans (h.other q hne).2.2.2⟩,
    fun hs => hn (h.notices hs), fun hs => hq (h.here hs)⟩

/-- What holds implies more. -/
theorem imp (h : Upto p Q s0 s) (hq : Q s → Q' s) : Upto p Q' s0 s := ⟨h.other, h.notices, fun hs => hq (h.here hs)⟩

/-- Work that leaves decks, holders and notices. -/
theorem same (h : Upto p Q s0 s) {t : State}
    (ht : { t with chases := s.chases, seq := s.seq, reels := s.reels, live := s.live } = s) (hq : Q s → Q' t) :
    Upto p Q' s0 t := by
  refine h.step (fun q _ => ⟨(congrArg (fun u : State => u.port q) ht :), (congrArg (fun u : State => u.transport q) ht :),
    (congrArg (fun u : State => u.tracker q) ht :), (congrArg (fun u : State => u.holder q) ht :)⟩) (fun hs => ?_) hq
  have hn : t.notices = s.notices := (congrArg State.notices ht :)
  unfold NoticesOrdered
  rwa [hn]

/-- The deck port record put. -/
theorem setPort (h : Upto p Q s0 s) {d : DeckPort} (hq : Q s → Q' (s.setPort p d)) : Upto p Q' s0 (s.setPort p d) :=
  h.step (fun _ hne => ⟨State.setPort_ne _ _ hne, rfl, rfl, rfl⟩) id hq

/-- The transport record put. -/
theorem setTransport (h : Upto p Q s0 s) {t : Transport} (hq : Q s → Q' (s.setTransport p t)) :
    Upto p Q' s0 (s.setTransport p t) :=
  h.step (fun _ hne => ⟨rfl, State.setTransport_ne _ _ hne, rfl, rfl⟩) id hq

/-- The tracker record put. -/
theorem setTracker (h : Upto p Q s0 s) {k : Tracker} (hq : Q s → Q' (s.setTracker p k)) :
    Upto p Q' s0 (s.setTracker p k) :=
  h.step (fun _ hne => ⟨rfl, rfl, State.setTracker_ne _ _ hne, rfl⟩) id hq

/-- The holder put. -/
theorem setHolder (h : Upto p Q s0 s) {x : Holder} (hq : Q s → Q' (s.setHolder p x)) : Upto p Q' s0 (s.setHolder p x) :=
  h.step (fun _ hne => ⟨rfl, rfl, rfl, State.setHolder_ne _ _ hne⟩) id hq

/-- A notice raised. -/
theorem raise (h : Upto p Q s0 s) (n : Notice) (hq : Q s → Q' (Machine.raise n s)) : Upto p Q' s0 (Machine.raise n s) :=
  h.step (fun _ _ => ⟨rfl, rfl, rfl, rfl⟩) (fun hs => hs.raise n) hq

/-! ## Commands and cues (R82 to R92) -/

/-- A cancellation told. -/
theorem tellCancelled (h : Upto p Q s0 s) (asker owner : Requester) (n : Nat)
    (hq : ∀ m, Q s → Q (Machine.raise m s)) : Upto p Q s0 (tellCancelled asker owner p n s) := by
  unfold Machine.tellCancelled
  split
  · exact h.raise _ (hq _)
  · exact h

/-- A cue removed from a deck that moves or stands. -/
theorem dropCue (h : Upto p (fun s => RightAt p s ∧ movable (s.transport p).state = true) s0 s) (asker : Requester) :
    Upto p (DrivenAt p) s0 (dropCue asker p s) := by
  have driven : ∀ t : Transport, t.cue = none → t.motion = (s.transport p).motion →
      RightAt p s ∧ movable (s.transport p).state = true → Driven (s.port p) t (s.holder p) := by
    intro t hcue hmotion ⟨hr, hm⟩
    obtain ⟨hoff, hpanel, -, -, hwaking⟩ := movable_ne hm
    exact hr.driven (hr.online hoff hpanel) hcue (hmotion.trans (hr.motion_none hwaking))
  unfold Machine.dropCue
  split
  · rename_i hc
    exact h.imp fun hs => driven _ hc rfl hs
  · refine tellCancelled (Q := DrivenAt p) ?_ _ _ _ (fun _ => id)
    refine h.setTransport fun hs => ?_
    have hd := driven { s.transport p with cue := none } rfl rfl hs
    rwa [DrivenAt, State.setTransport_self]

/-- A command handed by the transport controller. -/
theorem hand (h : Upto p Q s0 s) {c : DeckCmd} (hq : Q s → Q' (Machine.handTransport p c s)) :
    Upto p Q' s0 (Machine.handTransport p c s) := by
  refine h.step (fun q hne => ⟨?_, ?_, ?_, ?_⟩) (fun hs => ?_) hq
  · rw [handTransport_port, handCommand_port, if_neg hne]
  · rw [handTransport_transport, if_neg hne]
  · rw [handTransport_tracker, if_neg (fun e => hne e.1)]
  · exact (onlyDecks_handTransport p c s).holder q
  · have hn : (Machine.handTransport p c s).notices = s.notices := (congrArg State.notices (handTransport_only p c s) :)
    unfold NoticesOrdered
    rwa [hn]

/-- A command handed to a driven deck. -/
theorem handTransport (h : Upto p (DrivenAt p) s0 s) {c : DeckCmd} (hc : c ≠ .status) (hr : c ≠ .release) :
    Upto p (DrivenAt p) s0 (handTransport p c s) := by
  refine h.hand fun hs => ?_
  unfold DrivenAt at *
  rw [handTransport_port, handCommand_port, if_pos rfl, handTransport_transport, if_pos rfl,
    (onlyDecks_handTransport p c s).holder]
  exact hs.handed hc hr rfl (if_pos hs.line) rfl rfl

/-- A driven deck enters a state in which it stands or moves. -/
theorem enterState (h : Upto p (DrivenAt p) s0 s) {st : TransportState} (h1 : movable st = true) (h2 : st ≠ .cueing) :
    Upto p (RightAt p) s0 (enterState p st s) := by
  refine h.setTransport fun hs => ?_
  unfold RightAt
  rw [State.setTransport_self]
  refine Driven.right (hs.enter ?_ ?_) _ h1 h2
  · rfl
  · rfl

/-- A command that is not RELEASE handed to a driven deck, which enters a state. -/
theorem drive (h : Upto p (DrivenAt p) s0 s) {c : DeckCmd} (hc : c ≠ .status) (hr : c ≠ .release) {st : TransportState}
    (h1 : movable st = true) (h2 : st ≠ .cueing) :
    Upto p (RightAt p) s0 (Machine.enterState p st (Machine.handTransport p c s)) :=
  (h.handTransport hc hr).enterState h1 h2

/-- A cue started on a driven deck. -/
theorem startCue (h : Upto p (DrivenAt p) s0 s) (r : Requester) (x n : Nat) : Upto p (RightAt p) s0 (startCue r p x n s) := by
  have h1 : Upto p (DrivenAt p) s0 (Machine.enterState p .cueing (Machine.handTransport p (.seek x) s)) :=
    (h.handTransport (c := .seek x) nofun nofun).setTransport fun hs => by
      unfold DrivenAt at *
      rw [State.setTransport_self]
      exact hs.enter rfl rfl
  refine h1.setTransport fun hs => ?_
  unfold RightAt
  rw [State.setTransport_self]
  refine Driven.cueing hs _ ?_ rfl rfl
  rw [enterState_transport, if_pos rfl]

/-- A wake begun from STANDBY. -/
theorem beginWake (h : Upto p (fun s => RightAt p s ∧ (s.transport p).state = .standby) s0 s) (m : PendingMotion) :
    Upto p (RightAt p) s0 (beginWake p m s) := by
  have hpw := (PortWork.start p s).beginWake (m := m) (by simp)
  refine h.step (fun q hne => ?_) (fun hs => ?_) (fun ⟨hr, hst⟩ => ?_)
  · obtain ⟨h1, h2, h3, -⟩ := hpw.other q hne
    exact ⟨h1, h2, h3, congrArg (fun v => v.get q) hpw.holders⟩
  · have hn : (Machine.beginWake p m s).notices = s.notices := (congrArg State.notices (handTransport_only p .wake s) :)
    unfold NoticesOrdered
    rwa [hn]
  · have hport : (Machine.beginWake p m s).port p = (handCommand p .wake s).port p := handTransport_port p p .wake s
    have hknown : ((Machine.beginWake p m s).tracker p).known = (s.tracker p).known := by
      obtain ⟨n, hn⟩ := hpw.tracker
      rw [hn]
    have hl := hr.online (by simp [hst]) (by simp [hst])
    unfold RightAt
    rw [hknown, (onlyDecks_beginWake p m s).holder, hport, handCommand_port, if_pos rfl]
    refine hr.resting (c := .wake) nofun rfl rfl (fun _ => nofun) hl (if_pos hl) ?_ ?_ ?_
    · unfold Machine.beginWake
      simp only [State.setTransport_self, enterState_transport, if_true, or_true]
    · unfold Machine.beginWake
      simp only [State.setTransport_self, enterState_transport, handTransport_transport, if_true]
      exact hr.cue_none (by simp [hst])
    · unfold Machine.beginWake
      simp only [State.setTransport_self, enterState_transport, if_true, implies_true]

/-- A pending motion put or removed in WAKING. -/
theorem putMotion (h : Upto p (fun s => RightAt p s ∧ (s.transport p).state = .waking) s0 s) (asker : Requester)
    (m : Option PendingMotion) : Upto p (RightAt p) s0 (putMotion asker p m s) := by
  have h1 : Upto p (RightAt p) s0 (s.setTransport p { s.transport p with motion := m }) := by
    refine h.setTransport fun ⟨hr, hst⟩ => ?_
    unfold RightAt
    rw [State.setTransport_self]
    obtain ⟨⟨k1, k2, k3, -⟩, k5, k6, k7, k8⟩ := hr
    exact ⟨⟨k1, k2, k3, fun _ => hst⟩, k5, k6, k7, k8⟩
  unfold Machine.putMotion
  dsimp only
  split
  · exact h1.tellCancelled _ _ _ (fun _ => id)
  · exact h1

/-- An action carried out. -/
theorem act (h : Upto p (RightAt p) s0 s) (r : Requester) (a : Action) : Upto p (RightAt p) s0 (act r p a s) := by
  have moved : movable (s.transport p).state = true →
      Upto p (RightAt p) s0 (Machine.enterState p (actionState a) (Machine.handTransport p (actionCmd a) (Machine.dropCue r p s))) := by
    intro hm
    refine ((h.imp fun hs => ⟨hs, hm⟩).dropCue r).drive ?_ ?_ ?_ ?_
    · cases a <;> exact nofun
    · cases a <;> exact nofun
    · cases a <;> rfl
    · cases a <;> exact nofun
  unfold Machine.act
  cases hst : (s.transport p).state with
  | offline => exact h
  | panel => exact h
  | empty => exact h
  | standby =>
    dsimp only
    split
    · exact h
    · exact (h.imp fun hs => ⟨hs, hst⟩).beginWake _
  | waking => exact (h.imp fun hs => ⟨hs, hst⟩).putMotion r _
  | _ => exact moved (by rw [hst]; rfl)

/-- A cue begun. -/
theorem beginCue (h : Upto p (RightAt p) s0 s) (r : Requester) (x : Nat) : Upto p (RightAt p) s0 (beginCue r p x s) := by
  have moved : movable (s.transport p).state = true →
      Upto p (RightAt p) s0 (Machine.startCue r p x 0 (Machine.dropCue r p s)) := fun hm =>
    ((h.imp fun hs => ⟨hs, hm⟩).dropCue r).startCue r x 0
  unfold Machine.beginCue
  cases hst : (s.transport p).state with
  | offline => exact h
  | panel => exact h
  | empty => exact h
  | standby => exact (h.imp fun hs => ⟨hs, hst⟩).beginWake _
  | waking => exact (h.imp fun hs => ⟨hs, hst⟩).putMotion r _
  | _ => exact moved (by rw [hst]; rfl)

/-- A correction speed handed to a ROLLING deck. -/
theorem chaseCorrection (h : Upto p (RightAt p) s0 s) (n : Nat) : Upto p (RightAt p) s0 (chaseCorrection p n s) := by
  unfold Machine.chaseCorrection
  split
  · rename_i hc
    have hst : (s.transport p).state = .rolling := hc.1
    have h1 := (h.imp (Q' := fun s => DrivenAt p s) fun hs => hs.driven (hs.online (by simp [hst]) (by simp [hst]))
      (hs.cue_none (by simp [hst])) (hs.motion_none (by simp [hst]))).handTransport (c := .play n) nofun nofun
    have hst' : ((Machine.handTransport p (.play n) s).transport p).state = .rolling := by
      rw [handTransport_transport, if_pos rfl]
      exact hst
    exact h1.imp fun hs => Driven.right hs _ (by rw [hst']; rfl) (by rw [hst']; nofun)
  · exact h

end
end Upto

end Sys2Proof.Machine
end

-- ==== A deck that falls, stands still, wakes or cues ====
section
/-! The operations that leave a deck's records right only as a whole: a line that goes down, a tape that goes or comes, STANDBY,
a cue that ends, a wake that ends, a claim, a miss (R57, R64 to R67, R76 to R79, R85 to R91). -/

namespace Sys2Proof.Machine

/-! ## The records such an operation leaves -/

/-- The last record put counts. -/
@[simp] theorem PerPort.set_set {α : Type} (v : PerPort α) (p : Port) (a b : α) : (v.set p a).set p b = v.set p b := by
  cases p <;> rfl

/-- The last deck port record put counts. -/
@[simp] theorem State.setPort_setPort (s : State) (p : Port) (a b : DeckPort) :
    (s.setPort p a).setPort p b = s.setPort p b := by
  simp only [State.setPort, PerPort.set_set]

/-- A deck of the sequencer reported lost (R150). -/
def faultHeld (p : Port) (s : State) : State := if s.holder p = .sequencer then deckFault p s else s

/-- The transport record of a deck that stands in a state, its speed and timer 0. -/
def Transport.still (st : TransportState) (t : Transport) : Transport := { t with state := st, speed := 0, standbyTimer := 0 }

/-- The state with other pending notices. -/
def withNotices (ns : List Notice) (s : State) : State := { s with notices := ns }

/-- The pending notices after the motions of a deck have failed (R86). -/
def failureNotices (p : Port) (why : CueReason) (t : Transport) (ns : List Notice) : List Notice :=
  let cues := match t.cue with
    | some c => putNotice (.cueEnd p { outcome := .failed why, requester := c.requester, attempts := c.attempts,
                                       lastStop := c.lastStop }) ns
    | none => ns
  match t.motion with
  | some ⟨owner, .cue _ _⟩ =>
    putNotice (.cueEnd p { outcome := .failed why, requester := owner, attempts := 0, lastStop := none }) cues
  | _ => cues

/-- They keep the taking order. -/
theorem failureNotices_ordered (p : Port) (why : CueReason) (t : Transport) {ns : List Notice}
    (h : (ns.map noticeSlot).Pairwise (· < ·)) : ((failureNotices p why t ns).map noticeSlot).Pairwise (· < ·) := by
  unfold failureNotices
  cases t.cue <;> dsimp only <;> split
  · exact putNotice_ordered _ h
  · exact h
  · exact putNotice_ordered _ (putNotice_ordered _ h)
  · exact putNotice_ordered _ h

/-- A deck that enters a state and stands. -/
theorem stillDeck_enterState (p : Port) (st : TransportState) (s : State) :
    stillDeck p (enterState p st s) = s.setTransport p ((s.transport p).still st) := by
  unfold stillDeck enterState
  rw [State.setTransport_setTransport, State.setTransport_self]
  rfl

section
variable {why : CueReason} (h1 : why ≠ .attempts) (h2 : why ≠ .time)
include h1 h2

/-- A failure for a reason other than ATTEMPTS and TIME is reported to no effect (R131, R152). -/
theorem reportCueFailed_lost (p : Port) (r : Requester) (s : State) : reportCueFailed ⟨p, why, r⟩ s = s := by
  unfold reportCueFailed seqCueFailed chaseCueFailed
  cases r with
  | console => rfl
  | sequencer => cases why <;> simp_all
  | chase => cases why <;> cases s.chase p <;> simp_all

/-- Motions that fail for such a reason leave no cue and no pending motion, and their CUE END notices (R86). -/
theorem failMotions_lost (p : Port) (s : State) :
    failMotions p why s = withNotices (failureNotices p why (s.transport p) s.notices)
      (s.setTransport p { s.transport p with cue := none, motion := none }) := by
  unfold failMotions failureNotices tellCueFailed withNotices
  simp only [reportCueFailed_lost h1 h2]
  generalize s.transport p = t
  rcases t with ⟨_, _, _, _, _ | c, _, _, _, _ | ⟨r, _ | _ | _ | _⟩⟩ <;> rfl

end

/-- What the fall of a line makes of a deck before the sequencer is told (R76, R115, R131). -/
def lineFallen (p : Port) (st : TransportState) (s : State) : State :=
  let u := withNotices (failureNotices p .line (s.transport p) s.notices) (s.setTransport p
    { (s.transport p).still st with cue := none, motion := none, wakeCount := 0, wakeTaken := false })
  if st = .offline then forgetPosition p u else removeChase p u

/-- The fall of a line. -/
theorem lineDown_eq (p : Port) (st : TransportState) (s : State) : lineDown p st s = faultHeld p (lineFallen p st s) := by
  have hs : stillDeck p ((enterState p st s).setTransport p
      { (enterState p st s).transport p with wakeCount := 0, wakeTaken := false }) =
      s.setTransport p { (s.transport p).still st with wakeCount := 0, wakeTaken := false } := by
    unfold stillDeck enterState
    simp only [State.setTransport_setTransport, State.setTransport_self]
    rfl
  unfold lineDown lineFallen faultHeld
  dsimp only
  rw [hs, failMotions_lost (why := .line) nofun nofun]
  simp only [State.setTransport_setTransport, State.setTransport_self]
  rfl

/-- What the loss of the tape makes of a deck before the sequencer is told (R78). -/
def tapeFallen (p : Port) (c : Condition) (s : State) : State :=
  tapeLost p (raiseDeck p (some c) (withNotices (failureNotices p .tape (s.transport p) s.notices)
    (s.setTransport p { (s.transport p).still .empty with cue := none, motion := none, wakeCount := 0 })))

/-- Tape out. -/
theorem tapeGone_eq (p : Port) (c : Condition) (s : State) : tapeGone p c s = faultHeld p (tapeFallen p c s) := by
  unfold tapeGone tapeFallen faultHeld
  dsimp only
  rw [stillDeck_enterState, failMotions_lost (why := .tape) nofun nofun]
  simp only [State.setTransport_setTransport, State.setTransport_self]
  rfl

/-- What STANDBY found unasked makes of a deck before the sequencer is told (R79, R91, R125). -/
def standbyFallen (p : Port) (c : Condition) (s : State) : State :=
  chaserStandby p (raiseDeck p (some c) (withNotices (failureNotices p .standby (s.transport p) s.notices)
    (dropMotionCmds p (s.setTransport p { (s.transport p).still .standby with cue := none, motion := none }))))

/-- A deck gone to standby unasked. -/
theorem unaskedStandby_eq (p : Port) (c : Condition) (s : State) :
    unaskedStandby p c s = faultHeld p (standbyFallen p c s) := by
  have hd : ∀ t t' : Transport, (dropMotionCmds p (s.setTransport p t)).setTransport p t' =
      dropMotionCmds p (s.setTransport p t') := fun t t' => congrArg (dropMotionCmds p) (State.setTransport_setTransport s p t t')
  have ht : (dropMotionCmds p (s.setTransport p ((s.transport p).still .standby))).transport p = (s.transport p).still .standby :=
    State.setTransport_self _ _ _
  unfold unaskedStandby standbyFallen faultHeld
  dsimp only
  rw [stillDeck_enterState, failMotions_lost (why := .standby) nofun nofun, hd, ht]
  rfl

/-- The record of a port whose command in flight is returned by a miss (R64). -/
def missedPort (x : Exchange) (d : DeckPort) : DeckPort :=
  { d with
    exchange := none, misses := min 4 (d.misses + 1)
    commands := if d.line = .online then returned x.cmd d.commands else d.commands }

/-- A miss, the exchange closed before it. -/
theorem miss_closeExchange (p : Port) (x : Exchange) (s : State) : miss p x.cmd (closeExchange p s) =
    if min 4 ((s.port p).misses + 1) = 4 ∧ (s.port p).line ≠ .offline then goOffline p (s.setPort p (missedPort x (s.port p)))
    else overrideRelease p (s.setPort p (missedPort x (s.port p))) := by
  unfold miss closeExchange missedPort
  simp only [State.setPort_self, State.setPort_setPort]

/-! ## What is right of such records -/

section
variable {d d' : DeckPort} {t t' : Transport} {known known' : Bool} {h : Holder}

/-- A deck in OFFLINE or LOCAL with nothing waiting is right. -/
theorem DeckRight.down (hc : d.commands = [])
    (hline : d.line = .offline ∧ t.state = .offline ∧ known = false ∨ d.line = .panel ∧ t.state = .panel)
    (hcue : t.cue = none) (hm : t.motion = none) : DeckRight d t known h := by
  rcases hline with ⟨hl, hs, hk⟩ | ⟨hl, hs⟩
  · exact ⟨by simp [TransportAgrees, hl, hs, hcue, hm], fun _ => hk, by simp [SlotsRight, hc], by simp [hc], by simp [hs]⟩
  · exact ⟨by simp [TransportAgrees, hl, hs, hcue, hm], by simp [hs], by simp [SlotsRight, hc], by simp [hc], by simp [hs]⟩

/-- A driven deck whose tape is gone. -/
theorem Driven.emptied (k : Driven d t h) (hs : t.state = .empty) : DeckRight d t false h := by
  obtain ⟨hline, hcue, hmotion, hslots, hreleased⟩ := k
  exact ⟨by simp [TransportAgrees, hline, hs, hcue, hmotion], fun _ => rfl,
    slotsRight_iff.2 ⟨hslots, fun hl => absurd hline hl⟩, hreleased, by simp [hs]⟩

/-- A driven deck, no exchange open with it, found in STANDBY: no motion or cue waits for it any more (R91). -/
theorem Driven.standby (k : Driven d t h) (known : Bool) (hx : d.exchange = none) (hl : d'.line = d.line)
    (hc : d'.commands = d.commands.filter (fun c => !motionCmd c)) (hx' : d'.exchange = d.exchange)
    (hs : t.state = .standby) : DeckRight d' t known h := by
  obtain ⟨hline, hcue, hmotion, hslots, hreleased⟩ := k
  have hsub : d'.commands.Sublist d.commands := hc ▸ List.filter_sublist
  refine ⟨by simp [TransportAgrees, hl, hline, hs, hcue, hmotion], by simp [hs],
    slotsRight_iff.2 ⟨hslots.sublist hsub, fun hn => absurd (hl.trans hline) hn⟩, fun hf hm => hreleased hf (hsub.subset hm),
    fun _ => ⟨fun c hm => ?_, by simp [hx', hx]⟩⟩
  rw [hc, List.mem_filter] at hm
  simpa using hm.2

end

/-- The port of a deck on its line, with its slots right. -/
def LinedAt (p : Port) (s : State) : Prop :=
  Driven (s.port p) { s.transport p with cue := none, motion := none } (s.holder p)

section
variable {p : Port} {s : State}

/-- It is driven when there is neither a cue nor a pending motion. -/
theorem LinedAt.driven (h : LinedAt p s) (hc : (s.transport p).cue = none) (hm : (s.transport p).motion = none) :
    DrivenAt p s := by
  obtain ⟨h1, -, -, h4, h5⟩ := h
  exact ⟨h1, hc, hm, h4, h5⟩

/-- The transport record is of no matter to it. -/
theorem LinedAt.setTransport (h : LinedAt p s) (t : Transport) : LinedAt p (s.setTransport p t) := by
  obtain ⟨h1, -, -, h4, h5⟩ := h
  exact ⟨h1, rfl, rfl, h4, h5⟩

/-- A command handed that is not RELEASE. -/
theorem LinedAt.hand (h : LinedAt p s) {c : DeckCmd} (hc : c ≠ .status) (hr : c ≠ .release) : LinedAt p (handTransport p c s) := by
  unfold LinedAt at *
  rw [handTransport_port, handCommand_port, if_pos rfl, (onlyDecks_handTransport p c s).holder]
  exact h.handed hc hr rfl (if_pos h.line) rfl rfl

/-- The pending motion is left by a command handed. -/
theorem handTransport_motion (p : Port) (c : DeckCmd) (s : State) :
    ((handTransport p c s).transport p).motion = (s.transport p).motion := by
  rw [handTransport_transport, if_pos rfl]

/-- A deck that is right and moves or stands, under its line. -/
theorem RightAt.lined (h : RightAt p s) (hm : movable (s.transport p).state = true) :
    LinedAt p s ∧ (s.transport p).motion = none := by
  obtain ⟨hoff, hpanel, -, -, hwaking⟩ := movable_ne hm
  exact ⟨h.driven (h.online hoff hpanel) rfl rfl, h.motion_none hwaking⟩

end

namespace Upto

section
variable {p : Port} {Q Q' : State → Prop} {s0 s : State}

/-- Notices put in the taking order. -/
theorem withNotices (h : Upto p Q s0 s) {ns : List Notice} (hn : NoticesOrdered s → (ns.map noticeSlot).Pairwise (· < ·))
    (hq : Q s → Q' (withNotices ns s)) : Upto p Q' s0 (withNotices ns s) :=
  h.step (fun _ _ => ⟨rfl, rfl, rfl, rfl⟩) hn hq

/-- The fall of a line, when the port is down already. -/
theorem lineFallen {st : TransportState}
    (h : Upto p (fun s => (s.port p).commands = [] ∧
      ((s.port p).line = .offline ∧ st = .offline ∨ (s.port p).line = .panel ∧ st = .panel)) s0 s) :
    Upto p (RightAt p) s0 (lineFallen p st s) := by
  unfold Machine.lineFallen
  split
  · rename_i hst
    refine h.step (fun q hne => ⟨rfl, State.setTransport_ne _ _ hne, State.setTracker_ne _ _ hne, rfl⟩)
      (failureNotices_ordered p _ _) fun ⟨hc, hl⟩ => ?_
    obtain ⟨hl, -⟩ | ⟨-, hl⟩ := hl
    · refine .down hc (.inl ⟨hl, ?_, ?_⟩) ?_ ?_
      · exact (congrArg Transport.state (State.setTransport_self _ _ _)).trans hst
      · exact congrArg Tracker.known (State.setTracker_self _ _ _)
      · exact congrArg Transport.cue (State.setTransport_self _ _ _)
      · exact congrArg Transport.motion (State.setTransport_self _ _ _)
    · simp [hl] at hst
  · rename_i hst
    refine h.step (fun q hne => ⟨rfl, State.setTransport_ne _ _ hne, rfl, rfl⟩)
      (failureNotices_ordered p _ _) fun ⟨hc, hl⟩ => ?_
    obtain ⟨-, hl⟩ | ⟨hl, hst⟩ := hl
    · exact absurd hl hst
    · refine .down hc (.inr ⟨hl, ?_⟩) ?_ ?_
      · exact (congrArg Transport.state (State.setTransport_self _ _ _)).trans hst
      · exact congrArg Transport.cue (State.setTransport_self _ _ _)
      · exact congrArg Transport.motion (State.setTransport_self _ _ _)

/-- The loss of a tape. -/
theorem tapeFallen (h : Upto p (LinedAt p) s0 s) (c : Condition) : Upto p (RightAt p) s0 (tapeFallen p c s) := by
  refine h.step (fun q hne => ⟨rfl, State.setTransport_ne _ _ hne, State.setTracker_ne _ _ hne, rfl⟩)
    (fun hn => putNotice_ordered _ (failureNotices_ordered p _ _ hn)) fun hs => ?_
  have ht : (Machine.tapeFallen p c s).transport p =
      { (s.transport p).still .empty with cue := none, motion := none, wakeCount := 0 } := State.setTransport_self _ _ _
  have hk : ((Machine.tapeFallen p c s).tracker p).known = false := congrArg Tracker.known (State.setTracker_self _ _ _)
  unfold RightAt
  rw [ht, hk]
  exact Driven.emptied (Driven.enter hs rfl rfl) rfl

/-- A chaser found in STANDBY. -/
theorem chaserStandby (h : Upto p (RightAt p) s0 s) : Upto p (RightAt p) s0 (chaserStandby p s) := by
  unfold Machine.chaserStandby
  split
  · rename_i c _
    split
    · have h1 : Upto p (RightAt p) s0 (s.setChase p (some { c with state := .parked, cuePoint := none })) := h.same rfl id
      unfold parkChase loseLock
      split
      · exact h1.raise _ id
      · exact h1
    · exact h
  · exact h

/-- A driven deck found in STANDBY, no exchange open with it (R91). -/
theorem foundStandby (h : Upto p Q s0 s) {t : Transport}
    (hq : Q s → Driven (s.port p) t (s.holder p) ∧ (s.port p).exchange = none ∧ t.state = .standby) :
    Upto p (RightAt p) s0 (dropMotionCmds p (s.setTransport p t)) := by
  refine h.step (fun q hne => ⟨State.setPort_ne _ _ hne, State.setTransport_ne _ _ hne, rfl, rfl⟩) id fun hs => ?_
  obtain ⟨hd, hx, hst⟩ := hq hs
  have hport : (dropMotionCmds p (s.setTransport p t)).port p =
      { s.port p with commands := (s.port p).commands.filter (fun c => !motionCmd c) } := State.setPort_self _ _ _
  have htransport : (dropMotionCmds p (s.setTransport p t)).transport p = t := State.setTransport_self _ _ _
  unfold RightAt
  rw [hport, htransport]
  exact hd.standby _ hx rfl rfl rfl hst

/-- STANDBY found unasked. -/
theorem standbyFallen (h : Upto p (fun s => LinedAt p s ∧ (s.port p).exchange = none) s0 s) (c : Condition) :
    Upto p (RightAt p) s0 (standbyFallen p c s) := by
  have h1 := h.foundStandby (t := { (s.transport p).still .standby with cue := none, motion := none })
    fun ⟨hs, hx⟩ => ⟨Driven.enter hs rfl rfl, hx, rfl⟩
  have h2 := h1.withNotices (Q' := RightAt p) (ns := failureNotices p .standby (s.transport p) s.notices)
    (failureNotices_ordered p _ _) id
  exact Upto.chaserStandby (h2.raise _ id)

/-- The transport state taken from a mode. -/
theorem stateFromMode (h : Upto p (fun s => DrivenAt p s ∧ (s.port p).exchange = none) s0 s) (m : DeckMode) :
    Upto p (RightAt p) s0 (stateFromMode p m s) := by
  have hd : Upto p (DrivenAt p) s0 s := h.imp And.left
  have still : ∀ u, Upto p (DrivenAt p) s0 u → Upto p (RightAt p) s0 (stillDeck p (Machine.enterState p .idle u)) := by
    intro u hu
    rw [stillDeck_enterState]
    refine hu.setTransport fun hs => ?_
    unfold RightAt
    rw [State.setTransport_self]
    exact Driven.right (Driven.enter (t' := (u.transport p).still .idle) hs rfl rfl) _ rfl nofun
  unfold Machine.stateFromMode
  split
  · rw [stillDeck_enterState]
    refine (hd.setTransport (Q' := fun u => Driven (u.port p) (u.transport p) (u.holder p) ∧ (u.transport p).state = .empty)
      fun hs => ?_).step (fun q hne => ⟨rfl, rfl, State.setTracker_ne _ _ hne, rfl⟩) id fun ⟨hu, hst⟩ => ?_
    · rw [State.setTransport_self]
      exact ⟨hs.enter rfl rfl, rfl⟩
    · have hk : ((tapeLost p (s.setTransport p ((s.transport p).still .empty))).tracker p).known = false :=
        congrArg Tracker.known (State.setTracker_self _ _ _)
      unfold RightAt
      rw [hk]
      exact hu.emptied hst
  · rw [stillDeck_enterState]
    exact h.foundStandby fun ⟨hs, hx⟩ => ⟨hs.enter rfl rfl, hx, rfl⟩
  · exact still _ hd
  · exact still _ hd
  · exact still _ (hd.handTransport nofun nofun)

/-- The line of a port that is down comes up. -/
theorem lineUp (h : Upto p (fun s => RightAt p s ∧ (s.port p).line ≠ .online ∧ (s.port p).exchange = none) s0 s) :
    Upto p (fun s => DrivenAt p s ∧ (s.port p).exchange = none) s0 (setLine0 p .online s) := by
  refine h.setPort fun ⟨hs, hl, hx⟩ => ?_
  have hstate : (s.transport p).state ≠ .cueing ∧ (s.transport p).state ≠ .waking := by
    obtain ⟨hoff, hpanel, -, -⟩ := hs.agrees
    cases hline : (s.port p).line with
    | online => exact absurd hline hl
    | offline => simp [hoff.1 hline]
    | panel => simp [hpanel.1 hline]
  refine ⟨?_, (congrArg DeckPort.exchange (State.setPort_self _ _ _)).trans hx⟩
  unfold DrivenAt
  rw [State.setPort_self]
  exact ⟨rfl, hs.cue_none hstate.1, hs.motion_none hstate.2, hs.oneOfEach, hs.released⟩

/-- The line of a port goes down, but its transport record has not followed yet. -/
theorem lineOff (h : Upto p Q s0 s) {l : LineState} (hl : l ≠ .online) :
    Upto p (fun s => (s.port p).commands = [] ∧ (s.port p).line = l) s0 (setLine0 p l s) :=
  h.setPort fun _ => by
    rw [State.setPort_self]
    exact ⟨if_neg hl, rfl⟩

/-- A deck on its line without a pending motion enters a state in which it stands or moves, its cue removed. -/
theorem enterUncued (h : Upto p (fun s => LinedAt p s ∧ (s.transport p).motion = none) s0 s) {st : TransportState}
    (h1 : movable st = true) (h2 : st ≠ .cueing) : Upto p (RightAt p) s0 ((Machine.enterState p st s).setTransport p
      { (Machine.enterState p st s).transport p with cue := none }) := by
  have h3 : Upto p (fun s => LinedAt p s ∧ (s.transport p).motion = none ∧ (s.transport p).state = st) s0
      (Machine.enterState p st s) := h.setTransport fun ⟨hl, hm⟩ => by
    rw [State.setTransport_self]
    exact ⟨hl.setTransport _, hm, rfl⟩
  refine h3.setTransport fun ⟨hl, hm, hst⟩ => ?_
  refine Driven.right ((hl.setTransport _).driven ?_ ?_) _ ?_ ?_ <;> rw [State.setTransport_self]
  · exact hm
  · exact (congrArg movable hst).trans h1
  · exact fun hc => h2 (hst.symm.trans hc)

/-- A deck that is right and CUEING is on its line without a pending motion. -/
theorem cueing (h : Upto p (fun s => RightAt p s ∧ (s.transport p).state = .cueing) s0 s) :
    Upto p (fun s => LinedAt p s ∧ (s.transport p).motion = none) s0 s :=
  h.imp fun ⟨hs, hst⟩ => hs.lined (by rw [hst]; rfl)

/-- HALT handed to such a deck. -/
theorem handHalt (h : Upto p (fun s => LinedAt p s ∧ (s.transport p).motion = none) s0 s) :
    Upto p (fun s => LinedAt p s ∧ (s.transport p).motion = none) s0 (Machine.handTransport p .halt s) :=
  h.hand fun ⟨hl, hm⟩ => ⟨hl.hand nofun nofun, (handTransport_motion p _ _).trans hm⟩

/-- A cue that succeeds, before its requester is told. -/
theorem cueParked (h : Upto p (fun s => RightAt p s ∧ (s.transport p).state = .cueing) s0 s) (n : Notice) :
    Upto p (RightAt p) s0 (Machine.raise n ((Machine.enterState p .parked s).setTransport p
      { (Machine.enterState p .parked s).transport p with cue := none })) :=
  (h.cueing.enterUncued (st := .parked) rfl nofun).raise n id

/-- A cue given up. -/
theorem cueGivenUp (h : Upto p (fun s => RightAt p s ∧ (s.transport p).state = .cueing) s0 s) (why : CueReason) (c : Cue) :
    Upto p (RightAt p) s0 (cueGivenUp p why c s) :=
  (h.cueing.handHalt.enterUncued (st := .idle) rfl nofun).raise _ id

/-- A transport record that is right in the same state, with a cue and a pending motion where it had them. -/
theorem putTransport (h : Upto p (RightAt p) s0 s) {t : Transport} (hs : t.state = (s.transport p).state)
    (hc : t.cue.isSome = (s.transport p).cue.isSome) (hm : t.motion.isSome = (s.transport p).motion.isSome) :
    Upto p (RightAt p) s0 (s.setTransport p t) := by
  refine h.setTransport fun hr => ?_
  unfold RightAt
  rw [State.setTransport_self]
  exact hr.congr rfl rfl rfl hs hc hm

/-- A pending motion removed. -/
theorem dropMotion (h : Upto p (RightAt p) s0 s) {t : Transport} (ht : t = { s.transport p with motion := none }) :
    Upto p (RightAt p) s0 (s.setTransport p t) := by
  refine h.setTransport fun ⟨⟨k1, k2, k3, _⟩, k5, k6, k7, k8⟩ => ?_
  unfold RightAt
  rw [State.setTransport_self, ht]
  exact ⟨⟨k1, k2, k3, nofun⟩, k5, k6, k7, k8⟩

/-- A cue tried again. -/
theorem seekAgain (h : Upto p (fun s => RightAt p s ∧ (s.transport p).state = .cueing) s0 s) (x : Nat) (c : Cue) :
    Upto p (RightAt p) s0 ((Machine.handTransport p (.seek x) s).setTransport p
      { (Machine.handTransport p (.seek x) s).transport p with cue := some c }) := by
  have h1 : Upto p (fun s => LinedAt p s ∧ (s.transport p).motion = none ∧ (s.transport p).state = .cueing) s0
      (Machine.handTransport p (.seek x) s) := h.hand fun ⟨hs, hst⟩ => by
    obtain ⟨hl, hm⟩ := hs.lined (by rw [hst]; rfl)
    exact ⟨hl.hand nofun nofun, (handTransport_motion p _ _).trans hm, by rw [handTransport_transport, if_pos rfl, hst]⟩
  refine h1.setTransport fun ⟨hl, hm, hst⟩ => ?_
  unfold RightAt
  rw [State.setTransport_self]
  exact Driven.cueing (t := { (Machine.handTransport p (.seek x) s).transport p with cue := none, motion := none }) hl _
    hst rfl hm

/-- The elapsed frames of a cue counted. -/
theorem countElapsed (h : Upto p (RightAt p) s0 s) : Upto p (RightAt p) s0 (countElapsed p s) := by
  unfold Machine.countElapsed
  dsimp only
  split
  · rename_i hc
    exact h.putTransport rfl (by simp [hc]) rfl
  · rename_i hm
    exact h.putTransport rfl rfl (by simp [hm])
  · exact h

/-- A cue whose time is over. -/
theorem cueTimesOut (h : Upto p (RightAt p) s0 s) : Upto p (RightAt p) s0 (cueTimesOut p s).1 := by
  unfold Machine.cueTimesOut
  split
  · rename_i hst _
    split
    · exact (h.imp fun hs => ⟨hs, hst⟩).cueGivenUp .time _
    · exact h
  · rename_i hst _
    split
    · exact (h.dropMotion rfl).raise _ id
    · exact h
  · exact h

/-- The end of a wake. -/
theorem endWake (h : Upto p (fun s => RightAt p s ∧ (s.transport p).state = .waking) s0 s) :
    Upto p (RightAt p) s0 (endWake p s) := by
  have h1 : Upto p (fun s => DrivenAt p s ∧ (s.transport p).state = .idle) s0
      ((Machine.enterState p .idle s).setTransport p { (Machine.enterState p .idle s).transport p with motion := none }) := by
    have h0 : Upto p (fun s => LinedAt p s ∧ (s.transport p).cue = none ∧ (s.transport p).state = .idle) s0
        (Machine.enterState p .idle s) := h.setTransport fun ⟨hs, hst⟩ => by
      rw [State.setTransport_self]
      exact ⟨LinedAt.setTransport (hs.driven (hs.online (by simp [hst]) (by simp [hst])) rfl rfl) _,
        hs.cue_none (by simp [hst]), rfl⟩
    refine h0.setTransport fun ⟨hl, hc, hst⟩ => ?_
    refine ⟨(hl.setTransport _).driven ?_ ?_, ?_⟩ <;> rw [State.setTransport_self]
    · exact hc
    · exact hst
  have h2 := h1.imp (Q' := RightAt p) fun ⟨hd, hst⟩ => Driven.right hd _ (by rw [hst]; rfl) (by rw [hst]; nofun)
  unfold Machine.endWake
  dsimp only
  split
  · exact h2
  · exact h2.act _ _
  · exact h2.act _ _
  · exact h2.act _ _
  · exact (h1.imp And.left).startCue _ _ _

/-- The wake count's work for a frame. -/
theorem wakeFrame (h : Upto p (RightAt p) s0 s) : Upto p (RightAt p) s0 (wakeFrame p s) := by
  unfold Machine.wakeFrame
  dsimp only
  split
  · rename_i hc
    have h1 := h.putTransport (t := { s.transport p with wakeCount := (s.transport p).wakeCount - 1 }) rfl rfl rfl
    split
    · refine Upto.endWake (h1.imp fun hs => ⟨hs, ?_⟩)
      rw [State.setTransport_self]
      exact hc.1
    · exact h1
  · exact h

/-- A deck sent to standby. -/
theorem sendToStandby (h : Upto p (RightAt p) s0 s) (hf : s.holder p = .free)
    (hst : (s.transport p).state = .idle ∨ (s.transport p).state = .parked) :
    Upto p (RightAt p) s0 (sendToStandby p s) := by
  have hpw := (PortWork.start p s).sendToStandby
  refine h.step (fun q hne => ?_) (fun hn => ?_) fun hs => ?_
  · obtain ⟨h1, h2, h3, -⟩ := hpw.other q hne
    exact ⟨h1, h2, h3, congrArg (fun v => v.get q) hpw.holders⟩
  · have hnotices := congrArg State.notices (sendToStandby_only p s)
    unfold NoticesOrdered
    rw [show (Machine.sendToStandby p s).notices = _ from hnotices]
    exact putNotice_ordered _ hn
  · have hport : (Machine.sendToStandby p s).port p = (handCommand p .release s).port p := handTransport_port p p .release s
    have hknown : ((Machine.sendToStandby p s).tracker p).known = (s.tracker p).known := by
      obtain ⟨n, hn⟩ := hpw.tracker
      rw [hn]
    have hholder : (Machine.sendToStandby p s).holder p = s.holder p := congrArg (fun v => v.get p) hpw.holders
    have hmove : movable (s.transport p).state = true := by
      rcases hst with hst | hst <;> rw [hst] <;> rfl
    obtain ⟨⟨hl, -⟩, hmotion⟩ := hs.lined hmove
    unfold RightAt
    rw [hport, handCommand_port, if_pos rfl, sendToStandby_transport, hknown, hholder]
    refine hs.resting (c := .release) nofun rfl rfl (fun hn => absurd hf hn) hl (if_pos hl) (.inl rfl) ?_ ?_
    · exact hs.cue_none (by rcases hst with hst | hst <;> simp [hst])
    · simp [hmotion]

/-- The standby timer's work for a frame. -/
theorem standbyFrame (h : Upto p (RightAt p) s0 s) : Upto p (RightAt p) s0 (standbyFrame p s) := by
  unfold Machine.standbyFrame
  split
  · rename_i hc
    have h1 := h.putTransport (t := { s.transport p with standbyTimer := (s.transport p).standbyTimer + 1 }) rfl rfl rfl
    dsimp only
    split
    · simp only [standbyCounts, Bool.and_eq_true, Bool.or_eq_true, decide_eq_true_eq] at hc
      refine h1.sendToStandby hc.1.2 ?_
      rw [State.setTransport_self]
      exact hc.1.1
    · exact h1
  · exact h

/-- One port's transport work for a frame. -/
theorem transportPort (h : Upto p (RightAt p) s0 s) : Upto p (RightAt p) s0 (transportPort p s).1 := by
  unfold Machine.transportPort
  split
  · exact h.standbyFrame
  · exact h.standbyFrame
  · exact h.countElapsed.cueTimesOut
  · exact h.countElapsed.cueTimesOut.wakeFrame
  · exact h

/-! ## Claims, misses and RESET (R64, R65, R89, R96, R98) -/

/-- A port made FREE. -/
theorem setFree (h : Upto p (RightAt p) s0 s) : Upto p (RightAt p) s0 (s.setHolder p .free) :=
  h.setHolder fun hs => by
    unfold RightAt
    rw [State.setHolder_self]
    exact hs.free

/-- A pending RELEASE gives way to a HALT: the port need be right but for a RELEASE that waits while it is held. -/
theorem overrideRelease (h : Upto p (fun s => DeckRight (s.port p) (s.transport p) (s.tracker p).known .free) s0 s) :
    Upto p (RightAt p) s0 (overrideRelease p s) := by
  unfold Machine.overrideRelease
  split
  · rename_i hc
    have hrel : DeckCmd.release ∈ (s.port p).commands := by simpa using hc.2
    have h1 : Upto p (LinedAt p) s0 (Machine.handTransport p .halt s) := h.hand fun hs => by
      have hl : (s.port p).line = .online := by
        by_contra hne
        simp [hs.silent hne] at hrel
      have hones := hs.oneOfEach
      unfold LinedAt
      rw [handTransport_port, handCommand_port, if_pos rfl]
      rw [if_pos hl]
      exact ⟨hl, rfl, rfl, hones.enqueue nofun, fun _ hm => nomatch hones.eq_enqueued (c := .halt) nofun hm rfl⟩
    have h2 : Upto p (fun s => LinedAt p s ∧ (s.transport p).state = .idle) s0
        (Machine.enterState p .idle (Machine.handTransport p .halt s)) := h1.setTransport fun hl => by
      rw [State.setTransport_self]
      exact ⟨hl.setTransport _, rfl⟩
    refine h2.setTransport fun ⟨hl, hst⟩ => ?_
    refine Driven.right ((hl.setTransport _).driven ?_ ?_) _ ?_ ?_ <;> rw [State.setTransport_self]
    · rw [hst]; rfl
    · simp [hst]
  · rename_i hc
    refine h.imp fun hs => ?_
    by_cases hf : s.holder p = .free
    · unfold RightAt
      rw [hf]
      exact hs
    · exact hs.hold (by simpa [hf] using hc) _

/-- A claimed port. -/
theorem claimPort (h : Upto p (RightAt p) s0 s) (x : Holder) : Upto p (RightAt p) s0 (claimPort x p s) := by
  have h1 : Upto p (fun s => DeckRight (s.port p) (s.transport p) (s.tracker p).known .free) s0 (s.setHolder p x) :=
    h.setHolder fun hs => hs.free
  refine Upto.overrideRelease (h1.setTransport fun hs => ?_)
  rw [State.setTransport_self]
  exact hs.congr rfl rfl rfl rfl rfl rfl

/-- The exchange of a port closed. -/
theorem closeExchange (h : Upto p (RightAt p) s0 s) : Upto p (RightAt p) s0 (closeExchange p s) :=
  h.setPort fun hs => by
    obtain ⟨h1, h2, h3, h4, h5⟩ := hs
    unfold RightAt
    rw [State.setPort_self]
    exact ⟨h1, h2, h3, h4, fun hst => ⟨(h5 hst).1, nofun⟩⟩

/-- The countdown of a port put. -/
theorem putPort (h : Upto p (RightAt p) s0 s) {d : DeckPort} (hl : d.line = (s.port p).line)
    (hc : d.commands = (s.port p).commands) (hx : d.exchange = (s.port p).exchange) :
    Upto p (RightAt p) s0 (s.setPort p d) :=
  h.setPort fun hs => by
    unfold RightAt
    rw [State.setPort_self]
    exact hs.congr hl hc hx rfl rfl rfl

/-- POLL_MOMENT. -/
theorem pollWork (h : Upto p (RightAt p) s0 s) : Upto p (RightAt p) s0 (pollWork p s) := by
  unfold Machine.pollWork
  dsimp only
  split
  · refine h.setPort fun hs => ?_
    obtain ⟨h1, h2, h3, h4, h5⟩ := hs
    unfold RightAt
    rw [State.setPort_self]
    have hsub := List.tail_sublist (s.port p).commands
    refine ⟨h1, h2, slotsRight_iff.2 ⟨(slotsRight_iff.1 h3).1.sublist hsub, fun hl => ?_⟩,
      fun hf hm => h4 hf (hsub.subset hm), fun hst => ⟨fun c hm => (h5 hst).1 c (hsub.subset hm), fun x hx hm => ?_⟩⟩
    · simp [(slotsRight_iff.1 h3).2 hl]
    · obtain rfl := Option.some.inj hx
      dsimp only at hm
      cases hcs : (s.port p).commands with
      | nil => simp [hcs, motionCmd] at hm
      | cons c rest =>
        rw [hcs] at hm
        exact absurd hm (by simp [(h5 hst).1 c (by simp [hcs])])
  · exact h

/-- A miss before what it may lead to: the command in flight returns to its slot. -/
theorem missed {x : Exchange} (hx : (s.port p).exchange = some x) (h : Upto p (RightAt p) s0 s) :
    Upto p (fun s => DeckRight (s.port p) (s.transport p) (s.tracker p).known .free) s0
      (s.setPort p (missedPort x (s.port p))) := by
  refine h.setPort fun hs => ?_
  rw [State.setPort_self]
  obtain ⟨h1, h2, h3, h4, h5⟩ := hs
  obtain ⟨hones, hsilent⟩ := slotsRight_iff.1 h3
  refine ⟨h1, h2, slotsRight_iff.2 ⟨?_, fun hl => (if_neg hl).trans (hsilent hl)⟩, fun hf => absurd rfl hf,
    fun hst => ⟨fun c hm => ?_, nofun⟩⟩
  · unfold missedPort
    dsimp only
    split
    · exact hones.returned _
    · exact hones
  · obtain ⟨hstill, hwaits⟩ := h5 hst
    unfold missedPort at hm
    dsimp only at hm
    split at hm
    · rcases returned_cases x.cmd (s.port p).commands with he | ⟨he, -, hclass⟩
      · exact hstill c (he ▸ hm)
      · rw [he] at hm
        rcases List.mem_cons.1 hm with rfl | hm
        · by_contra hmotion
          obtain ⟨d, hd, hr⟩ := hwaits x hx (by simpa using hmotion)
          refine hclass d hd (hr.trans ?_)
          cases hcmd : x.cmd <;> simp_all [motionCmd, recordClass]
        · exact hstill c hm
    · exact hstill c hm

/-- A deck's part of RESET, its port FREE. -/
theorem resetDeck (h : Upto p (RightAt p) s0 s) : Upto p (RightAt p) s0 (resetDeck p s) := by
  have rest : (s.transport p).state ≠ .cueing → Upto p (RightAt p) s0
      (s.setTransport p { s.transport p with cue := none, standbyTimer := 0 }) := by
    intro hst
    refine h.setTransport fun hs => ?_
    unfold RightAt
    rw [State.setTransport_self]
    exact hs.congr rfl rfl rfl rfl (by simp [hs.cue_none hst]) rfl
  have moved : movable (s.transport p).state = true → Upto p (RightAt p) s0 (Machine.enterState p .idle
      (Machine.handTransport p .halt (s.setTransport p { s.transport p with cue := none, standbyTimer := 0 }))) := by
    intro hm
    refine Upto.drive (c := .halt) (st := .idle) (h.setTransport fun hs => ?_) nofun nofun rfl nofun
    obtain ⟨hl, hmotion⟩ := hs.lined hm
    refine (hl.setTransport _).driven ?_ ?_ <;> rw [State.setTransport_self]
    exact hmotion
  unfold Machine.resetDeck
  cases hst : (s.transport p).state with
  | offline => exact rest (by simp [hst])
  | panel => exact rest (by simp [hst])
  | empty => exact rest (by simp [hst])
  | standby => exact rest (by simp [hst])
  | waking =>
    exact (rest (by simp [hst])).dropMotion (by rw [State.setTransport_self])
  | _ => exact moved (by rw [hst]; rfl)

end
end Upto

end Sys2Proof.Machine
end

-- ==== The records of the decks through the sequencer's work ====
section
/-! No work of the chase servo, the sequencer and the timebase puts a deck's records wrong or the notices out of order (R57, R63,
R75, R76, R117 to R131, R138 to R155, R190, R191). -/

namespace Sys2Proof.Machine

/-- `t` comes from `s` by work that keeps the notices in order and the records of every deck right. -/
structure Upkeep (s t : State) : Prop where
  notices : NoticesOrdered s → NoticesOrdered t
  decks : ∀ p, RightAt p s → RightAt p t

/-- What is right of the decks speaks of these parts of the state. -/
def deckView (s : State) : PerPort DeckPort × PerPort Transport × PerPort Tracker × PerPort Holder × List Notice :=
  (s.ports, s.transports, s.trackers, s.holders, s.notices)

/-- Work on one deck that leaves its records right keeps all of them. -/
theorem Upto.upkeep {p : Port} {s t : State} (h : Upto p (RightAt p) s t) : Upkeep s t := by
  refine ⟨h.notices, fun q hq => ?_⟩
  by_cases hp : q = p
  · subst hp
    exact h.here hq
  · obtain ⟨h1, h2, h3, h4⟩ := h.other q hp
    unfold RightAt
    rw [h1, h2, h3, h4]
    exact hq

namespace Upkeep

section
variable {s0 s t : State}

/-! ## Composition -/

/-- No work. -/
theorem start : Upkeep s s := ⟨id, fun _ => id⟩

/-- Work after work. -/
theorem trans (h : Upkeep s0 s) (h' : Upkeep s t) : Upkeep s0 t :=
  ⟨fun hn => h'.notices (h.notices hn), fun p hp => h'.decks p (h.decks p hp)⟩

/-- Work that leaves the decks, the holders and the notices. -/
theorem same (h : Upkeep s0 s) (ht : deckView t = deckView s) : Upkeep s0 t := by
  obtain ⟨h1, h2, h3, h4, h5⟩ : t.ports = s.ports ∧ t.transports = s.transports ∧ t.trackers = s.trackers ∧
      t.holders = s.holders ∧ t.notices = s.notices := by simpa [deckView] using ht
  refine h.trans ⟨fun hn => ?_, fun p hp => ?_⟩
  · unfold NoticesOrdered
    rwa [h5]
  · unfold RightAt State.port State.transport State.tracker State.holder
    rw [h1, h2, h3, h4]
    exact hp

/-- Work of either branch. -/
theorem ite {c : Prop} [Decidable c] (ht : Upkeep s0 s) (hu : Upkeep s0 t) : Upkeep s0 (if c then s else t) := by
  split
  · exact ht
  · exact hu

/-- Work done for each entry of a list. -/
theorem foldl {α : Type} {f : State → α → State} (h : Upkeep s0 s) (hf : ∀ s a, Upkeep s0 s → Upkeep s0 (f s a))
    (l : List α) : Upkeep s0 (l.foldl f s) :=
  List.foldlRecOn l f h (fun s hs a _ => hf s a hs)

/-- Work on one deck. -/
theorem deck {p : Port} (h : Upkeep s0 s) (k : Upto p (RightAt p) s s → Upto p (RightAt p) s t) : Upkeep s0 t :=
  h.trans (k (.start p s)).upkeep

/-- A notice raised. -/
theorem raise (h : Upkeep s0 s) (n : Notice) : Upkeep s0 (Machine.raise n s) :=
  h.trans ⟨fun hn => hn.raise n, fun _ => id⟩

/-- The sequencer record changed. -/
theorem setSeq (h : Upkeep s0 s) (f : Sequencer → Sequencer) : Upkeep s0 (setSeq f s) := h.same rfl

/-- The ports of a list made FREE. -/
theorem freed (h : Upkeep s0 s) (ps : List Port) :
    Upkeep s0 { s with holders := s.holders.mapAll (fun p x => if p ∈ ps then .free else x) } := by
  refine h.trans ⟨id, fun p hp => ?_⟩
  have hh : State.holder { s with holders := s.holders.mapAll (fun p x => if p ∈ ps then .free else x) } p =
      if p ∈ ps then .free else s.holder p := PerPort.get_mapAll _ _ _
  unfold RightAt
  rw [hh]
  split
  · exact hp.free
  · exact hp

/-- A command of the record class handed. -/
theorem handCommand (h : Upkeep s0 s) (p : Port) {c : DeckCmd} (hc : recordClass c = true) :
    Upkeep s0 (handCommand p c s) := by
  have hne : c ≠ .status ∧ c ≠ .release ∧ motionCmd c = false := by cases c <;> simp_all [recordClass, motionCmd]
  obtain ⟨hstatus, hrelease, hmotion⟩ := hne
  refine h.deck fun k => k.setPort fun ⟨h1, h2, h3, h4, h5⟩ => ?_
  unfold RightAt
  rw [State.setPort_self]
  obtain ⟨hones, hsilent⟩ := slotsRight_iff.1 h3
  refine ⟨h1, h2, slotsRight_iff.2 ⟨?_, fun hl => (if_neg hl).trans (hsilent hl)⟩, fun hf hm => ?_, fun hst => ?_⟩
  · dsimp only
    split
    · exact hones.enqueue hstatus
    · exact hones
  · dsimp only at hm
    split at hm
    · exact (mem_enqueue hm).elim (fun he => hrelease he.symm) (h4 hf)
    · exact h4 hf hm
  · obtain ⟨hstill, hwaits⟩ := h5 hst
    unfold NoMotionWaits
    dsimp only
    split
    · refine ⟨fun d hd => (mem_enqueue hd).elim (fun he => he ▸ hmotion) (hstill d), fun x hx hm => ?_⟩
      obtain ⟨d, hd, hr⟩ := hwaits x hx hm
      exact ⟨d, mem_enqueue_of_ne hd (by simp [hr, hc]), hr⟩
    · exact ⟨hstill, hwaits⟩

/-! ## The decks asked by the sequencer and the chase servo (R92) -/

/-- An action asked by the sequencer. -/
theorem seqAct (h : Upkeep s0 s) (p : Port) (a : Action) : Upkeep s0 (seqAct p a s) :=
  .ite (h.deck (p := p) fun k => k.act _ a) h

/-- A cue asked by the sequencer. -/
theorem seqCue (h : Upkeep s0 s) (p : Port) (x : Nat) : Upkeep s0 (seqCue p x s) :=
  .ite (h.deck (p := p) fun k => k.beginCue _ x) h

/-- An action asked by the chase servo. -/
theorem chaseAct (h : Upkeep s0 s) (p : Port) (a : Action) : Upkeep s0 (chaseAct p a s) :=
  .ite (h.deck (p := p) fun k => k.act _ a) h

/-- A cue asked by the chase servo. -/
theorem chaseCue (h : Upkeep s0 s) (p : Port) (x : Nat) : Upkeep s0 (chaseCue p x s) :=
  .ite (h.deck (p := p) fun k => k.beginCue _ x) h

/-! ## The chase servo's work for a frame (R117 to R130) -/

/-- A chase record put or removed. -/
theorem setChase (h : Upkeep s0 s) (p : Port) (c : Option Chase) : Upkeep s0 (s.setChase p c) := h.same rfl

/-- A correction made. -/
theorem correct (h : Upkeep s0 s) (p : Port) (c : Chase) (e : Int) : Upkeep s0 (correct p c e s) :=
  .ite h (h.deck (p := p) fun k => k.chaseCorrection _)

/-- The LOCK notice of a lock test. -/
theorem lockOutcome (h : Upkeep s0 s) (p : Port) (o : Option Bool) : Upkeep s0 (lockOutcome p o s) := by
  unfold Machine.lockOutcome
  split
  · exact h.raise _
  · exact h

/-- The LOCK notice of a record that leaves LOCKED. -/
theorem loseLock (h : Upkeep s0 s) (p : Port) (c : Chase) : Upkeep s0 (loseLock p c s) := .ite (h.raise _) h

/-- The chase seeks. -/
theorem chaseSeek (h : Upkeep s0 s) (p : Port) (c : Chase) (x : Nat) : Upkeep s0 (chaseSeek p c x s) :=
  (h.setChase p _).chaseCue p _

/-- A record worked. -/
theorem workChase (h : Upkeep s0 s) (p : Port) (c : Chase) (x : Nat) : Upkeep s0 (workChase p c x s).1 := by
  unfold Machine.workChase
  split
  · exact h.setChase p _
  · dsimp only
    split
    · split
      · exact (h.lockOutcome p _).chaseSeek p _ _
      · exact ((h.lockOutcome p _).setChase p _).correct p _ _
    · exact ((h.lockOutcome p _).setChase p _).correct p _ _

/-- A manual record parked. -/
theorem parkChase (h : Upkeep s0 s) (p : Port) (c : Chase) : Upkeep s0 (parkChase p c s) := (h.setChase p _).loseLock p c

/-- The work under an UNAVAILABLE master. -/
theorem masterGone (h : Upkeep s0 s) (p : Port) (c : Chase) : Upkeep s0 (masterGone p c s) :=
  Upkeep.parkChase (.ite h (h.chaseAct p _)) p c

/-- The work under a STOPPED master. -/
theorem masterStopped (h : Upkeep s0 s) (p : Port) (c : Chase) (x : Nat) : Upkeep s0 (masterStopped p c x s) :=
  .ite ((h.loseLock p c).setChase p _) (((h.loseLock p c).setChase p _).chaseCue p x)

/-- A PARKED record under a RUNNING master. -/
theorem startChase (h : Upkeep s0 s) (p : Port) (c : Chase) (x : Nat) : Upkeep s0 (startChase p c x s) :=
  .ite (h.chaseSeek p _ x) (.ite (h.setChase p _) ((h.setChase p _).chaseAct p _))

/-- A WAITING record under a RUNNING master. -/
theorem waitChase (h : Upkeep s0 s) (p : Port) (c : Chase) (x : Nat) : Upkeep s0 (waitChase p c x s) :=
  .ite (h.chaseSeek p _ x) (.ite ((h.setChase p _).chaseAct p _) h)

/-- A CAPTURING or LOCKED record under a RUNNING master. -/
theorem followChase (h : Upkeep s0 s) (p : Port) (c : Chase) (x : Nat) : Upkeep s0 (followChase p c x s) :=
  .ite (h.parkChase p _) (h.workChase p c x)

/-- One manual record's work for a frame. -/
theorem workManual (h : Upkeep s0 s) (p : Port) (c : Chase) (x : Nat) : Upkeep s0 (workManual p c x s) := by
  unfold Machine.workManual
  split
  · exact h.parkChase p c
  · exact h
  · split
    · exact h.masterGone p c
    · exact h.masterStopped p c x
    · split
      · exact h.startChase p c x
      · exact h
      · exact h.waitChase p c x
      · exact h.followChase p c x
      · exact h.followChase p c x

/-- One port's chase work for a frame. -/
theorem chasePort (h : Upkeep s0 s) (p : Port) : Upkeep s0 (chasePort p s).1 := by
  unfold Machine.chasePort
  split
  · exact h
  · dsimp only
    split
    · exact (h.setChase p _).workChase p _ _
    · exact (h.setChase p _).workManual p _ _

/-- A failure reported to the chase servo. -/
theorem chaseCueFailed (h : Upkeep s0 s) (p : Port) (why : CueReason) : Upkeep s0 (chaseCueFailed p why s) := by
  unfold Machine.chaseCueFailed
  split
  · exact .ite (h.setChase p none) h
  · exact .ite (h.setChase p none) h
  · exact h

/-- A success reported to the chase servo. -/
theorem chaseCued (h : Upkeep s0 s) (p : Port) : Upkeep s0 (chaseCued p s) := by
  unfold Machine.chaseCued
  split
  · exact .ite (h.setChase p _) h
  · exact h

/-! ## The outputs (R171 to R185) -/

/-- The armed triggers tested. -/
theorem testTriggers (h : Upkeep s0 s) (reached : Nat → Bool) : Upkeep s0 (testTriggers reached s) :=
  h.same (congrArg deckView (testTriggers_only reached s) :)

/-- The triggers of an event handed. -/
theorem armTriggers (h : Upkeep s0 s) (m : Mode) (e : Event) (pos : Nat) : Upkeep s0 (armTriggers m e pos s) :=
  Upkeep.testTriggers (s := { s with gpi := { s.gpi with armed := some { mode := m, recIn := e.recIn, triggers := _ } } })
    (h.same rfl) _

/-- The outputs told of an end. -/
theorem endOutputs (h : Upkeep s0 s) (m : Mode) (completed : Bool) : Upkeep s0 (endOutputs m completed s) :=
  h.same (congrArg deckView (endOutputs_only m completed s) :)

/-- The transition of an event started. -/
theorem startTransition (h : Upkeep s0 s) (e : Event) : Upkeep s0 (startTransition e s) := by
  unfold Machine.startTransition
  split
  · exact h.same rfl
  · exact h

/-! ## The endings of an edit (R153 to R155) -/

/-- The final step of an edit. -/
theorem finalStep (h : Upkeep s0 s) : Upkeep s0 (finalStep s) := by
  have h1 : Upkeep s0 { s with
      holders := s.holders.mapAll (fun p x => if p ∈ (s.seq.decks.map deckPorts).getD [] then .free else x)
      seq := .idle } := (h.freed _).same rfl
  rw [finalStep_form]
  split
  · exact h1.raise _
  · exact h1

/-- The ending of an edit. -/
theorem endEdit (h : Upkeep s0 s) (x : Edit) (o : EditOutcome) (early : Option FaultClass) (completed : Bool) :
    Upkeep s0 (endEdit x o early completed s) := by
  have h1 : Upkeep s0 (disengageIfEngaged x.decks.recorder s) := .ite ((h.handCommand _ (c := .disengage) rfl).setSeq _) h
  have h2 := h1.foldl (f := fun s p => Machine.seqAct p .halt s) (fun s p hs => hs.seqAct p .halt) (deckPorts x.decks)
  have h3 : Upkeep s0 (removeSeqChases x.decks _) :=
    h2.foldl (fun s p hs => .ite (hs.setChase p none) hs) (players x.decks)
  have h4 := h3.endOutputs x.mode completed
  unfold Machine.endEdit
  dsimp only
  split
  · exact (h4.setSeq _).setSeq _
  · exact Upkeep.finalStep ((h4.setSeq _).setSeq _)

/-- A fault of the running edit. -/
theorem faultEdit (h : Upkeep s0 s) (c : FaultClass) : Upkeep s0 (faultEdit c s) := by
  unfold Machine.faultEdit
  split
  · exact h
  · exact .ite h (h.endEdit _ _ _ _)

/-- A fault that in POSTROLL cuts the edit short. -/
theorem faultOrCutShort (h : Upkeep s0 s) (c : FaultClass) : Upkeep s0 (faultOrCutShort c s) := by
  unfold Machine.faultOrCutShort
  split
  · exact h
  · exact .ite (h.endEdit _ _ _ _) (h.endEdit _ _ _ _)

/-! ## The reports (R140, R145, R146, R150 to R152) -/

/-- A deck of the edit lost. -/
theorem deckFault (h : Upkeep s0 s) (p : Port) : Upkeep s0 (deckFault p s) := by
  unfold Machine.deckFault
  split
  · exact h
  · exact .ite (h.faultOrCutShort _) h

/-- A deck of the sequencer reported lost. -/
theorem faultHeld (h : Upkeep s0 s) (p : Port) : Upkeep s0 (faultHeld p s) := .ite (h.deckFault p) h

/-- A cue success reported. -/
theorem seqCued (h : Upkeep s0 s) (p : Port) : Upkeep s0 (seqCued p s) := .ite (h.setSeq _) h

/-- A cue failure reported. -/
theorem seqCueFailed (h : Upkeep s0 s) (p : Port) (why : CueReason) : Upkeep s0 (seqCueFailed p why s) := by
  refine .ite ?_ h
  split
  · exact h.faultEdit _
  · exact h.faultEdit _
  · exact h

/-- A change of the recording tracks reported. -/
theorem confirmTracks (h : Upkeep s0 s) (x : Edit) (k : TrackSet) : Upkeep s0 (confirmTracks x k s) :=
  .ite h (.ite (.ite (h.setSeq _) h) (.ite (h.faultEdit _) h))

/-- A change of condition reported. -/
theorem seqCondition (h : Upkeep s0 s) (p : Port) (old new : Condition) : Upkeep s0 (seqCondition p old new s) := by
  have running : ∀ (c : Edit → Prop) [DecidablePred c] (f : Edit → State → State),
      (∀ x u, Upkeep s0 u → Upkeep s0 (f x u)) → ∀ u, Upkeep s0 u → Upkeep s0 (match liveEdit u with
        | some x => if c x then f x u else u
        | none => u) := by
    intro c _ f hf u hu
    split
    · exact .ite (hf _ u hu) hu
    · exact hu
  have threaded : Upkeep s0 (if old.threaded ∧ !new.threaded ∧ (s.transport p).state ≠ .standby ∧
      (s.transport p).state ≠ .waking then Machine.deckFault p s else s) := .ite (h.deckFault p) h
  exact running _ _ (fun x u hu => hu.confirmTracks x _) _
    (running _ _ (fun x u hu => .ite (hu.faultOrCutShort _) hu) _ threaded)

/-- A report of the chase servo. -/
theorem seqChaseReport (h : Upkeep s0 s) (r : ChaseReport) : Upkeep s0 (seqChaseReport r s) := by
  refine .ite h ?_
  split
  · exact h.setSeq _
  · exact h.faultEdit _
  · exact h.faultEdit _
  · exact h

/-- The loss of the reference reported. -/
theorem seqReferenceLost (h : Upkeep s0 s) : Upkeep s0 (seqReferenceLost s) := by
  unfold Machine.seqReferenceLost
  split
  · exact .ite (h.faultEdit _) h
  · exact h

/-- A cue failure reported to its requester. -/
theorem reportCueFailed (h : Upkeep s0 s) (f : CueFailure) : Upkeep s0 (reportCueFailed f s) := by
  unfold Machine.reportCueFailed
  split
  · exact h
  · exact h.seqCueFailed _ _
  · exact h.chaseCueFailed _ _

/-! ## The roll and the moments (R140 to R148) -/

/-- The roll of an edit. -/
theorem roll (h : Upkeep s0 s) (x : Edit) : Upkeep s0 (roll x s) := by
  have play : ∀ (n : Nat) (u : State) (p : Port), Upkeep s0 u → Upkeep s0 (Machine.seqAct p (.play n) u) :=
    fun n u p hu => hu.seqAct p (.play n)
  have plays : ∀ u, Upkeep s0 u → Upkeep s0 (askPlays x u) := fun u hu =>
    ((play 1024 _ _ hu).foldl (play _) _).foldl (play 1024) _
  have h1 := h.setSeq (fun q => { q with rollFrame := some s.frame })
  unfold Machine.roll
  dsimp only
  split
  · exact Upkeep.setSeq (plays _ h1) _
  · have h2 : Upkeep s0 (setSeqChases x (Machine.setSeq (fun q => { q with rollFrame := some s.frame }) s)) := by
      unfold setSeqChases
      split <;> split
      all_goals exact h1.same rfl
    refine Upkeep.setSeq (Upkeep.armTriggers ?_ _ _ _) _
    exact Upkeep.same (plays _ h2) rfl

/-- The engage moment. -/
theorem engageMoment (h : Upkeep s0 s) (x : Edit) : Upkeep s0 (engageMoment x s) := by
  have engaged : Upkeep s0 (engage x s) := by
    unfold engage
    exact Upkeep.setSeq (.ite (h.handCommand _ rfl) h) _
  exact .ite (.ite (h.faultEdit _) (.ite (h.faultEdit _) engaged)) h

/-- The record-in moment. -/
theorem recordInMoment (h : Upkeep s0 s) (x : Edit) : Upkeep s0 (recordInMoment x s) :=
  .ite (.ite (h.setSeq _) (Upkeep.startTransition (h.setSeq _) _)) h

/-- The confirmation deadline. -/
theorem deadlineMoment (h : Upkeep s0 s) (x : Edit) : Upkeep s0 (deadlineMoment x s) := by
  have h1 := h.setSeq (fun q => { q with deadlineTaken := true })
  exact .ite (.ite h1 (h1.faultEdit _)) h

/-- The release moment. -/
theorem releaseMoment (h : Upkeep s0 s) (x : Edit) : Upkeep s0 (releaseMoment x s) := by
  have released : Upkeep s0 (release x s) := by
    unfold release
    exact Upkeep.setSeq (.ite (h.handCommand _ rfl) h) _
  exact .ite (.ite (h.faultEdit _) released) h

/-- The bound on the engage moment. -/
theorem engageTimeout (h : Upkeep s0 s) : Upkeep s0 (engageTimeout s) := .ite (h.faultEdit _) h

/-- The bound on the release moment. -/
theorem releaseTimeout (h : Upkeep s0 s) (x : Edit) : Upkeep s0 (releaseTimeout x s) := .ite (h.faultEdit _) h

/-- The completion of an edit. -/
theorem postrollEndWork (h : Upkeep s0 s) (x : Edit) : Upkeep s0 (postrollEndWork x s) := .ite (h.endEdit _ _ _ _) h

/-- The moments of one frame, in their order. -/
theorem moments (h : Upkeep s0 s) (x : Edit) : Upkeep s0 (moments x s) := by
  have gpi : ∀ u, Upkeep s0 u → Upkeep s0 (gpiMoment x u) := fun u hu => .ite (hu.testTriggers _) hu
  exact gpi _ (((((((h.engageMoment x).recordInMoment x).deadlineMoment x).releaseMoment x).engageTimeout).releaseTimeout
    x).postrollEndWork x)

/-- The sequencer's work for a frame. -/
theorem seqFrame (h : Upkeep s0 s) : Upkeep s0 (seqFrame s) := by
  unfold Machine.seqFrame
  split
  · exact h
  · rename_i x _
    have h1 : Upkeep s0 { s with recorderFrame := recorderPos x s / 64 } := h.same rfl
    exact .ite (.ite (h1.roll x) h1) (h1.moments x)

/-! ## Field events (R12 to R17) -/

/-- Failures reported one after another. -/
theorem reportCues {r : State × List CueFailure} (h : Upkeep s0 r.1) : Upkeep s0 (reportCues r) :=
  h.foldl (fun _ _ hs => hs.reportCueFailed _) _

/-- The countdowns and the trackers of a new frame. -/
theorem frameBegun (h : Upkeep s0 s) : Upkeep s0 (frameBegun s) := by
  refine h.trans ⟨id, fun p hp => ?_⟩
  have hport : (Machine.frameBegun s).port p = { s.port p with countdown := (s.port p).countdown - 1 } :=
    PerPort.get_mapAll _ _ _
  have htracker : (Machine.frameBegun s).tracker p = predict s.std (s.transport p).speed (s.tracker p) :=
    PerPort.get_mapAll _ _ _
  unfold RightAt
  rw [hport, htracker]
  exact hp.congr rfl rfl rfl rfl rfl rfl

/-- The work of every block for a frame event. -/
theorem frameWork (h : Upkeep s0 s) : Upkeep s0 (frameWork s) := by
  have ports : ∀ {β : Type} (f : Port → State → State × List β), (∀ p u, Upkeep s0 u → Upkeep s0 (f p u).1) →
      ∀ u, Upkeep s0 u → Upkeep s0 (allPorts.foldl (fun r p => ((f p r.1).1, r.2 ++ (f p r.1).2)) (u, [])).1 :=
    fun f hf u hu => List.foldlRecOn (motive := fun r : State × List _ => Upkeep s0 r.1) allPorts _ hu
      (fun r hr p _ => hf p r.1 hr)
  have h2 : Upkeep s0 (transportFrame (Machine.frameBegun s)) :=
    Upkeep.reportCues (ports transportPort (fun p u hu => hu.deck (p := p) fun k => k.transportPort) _ h.frameBegun)
  have h3 : Upkeep s0 (chaseFrame (transportFrame (Machine.frameBegun s))).1 :=
    ports Machine.chasePort (fun p u hu => hu.chasePort p) _ h2
  exact (h3.foldl (fun _ _ hs => hs.seqChaseReport _) _).seqFrame

/-- A field event. -/
theorem fieldEvent (h : Upkeep s0 s) (y : Parity) (stopFirst : Bool) : Upkeep s0 (fieldEvent y stopFirst s) := by
  have h1 : Upkeep s0 (indexField { s with ref := { s.ref with parity := y } }) := .ite (h.same rfl) (h.same rfl)
  have h2 : Upkeep s0 (gpiField (mixField (indexField { s with ref := { s.ref with parity := y } }))) := h1.same rfl
  have stopped : ∀ a b u, Upkeep s0 u → Upkeep s0 (stopBeforeField a b u) := fun _ _ _ hu => .ite (hu.same rfl) hu
  unfold Machine.fieldEvent
  dsimp only
  split
  · exact h2
  · exact .ite (stopped _ _ _ h2.frameWork) h2.frameWork

/-- The loss of the reference. -/
theorem loseReference (h : Upkeep s0 s) (m : Nat) (lossFirst stopFirst : Bool) :
    Upkeep s0 (loseReference m lossFirst stopFirst s) := by
  have h1 : Upkeep s0 (referenceGone m s) := h.same rfl
  cases lossFirst with
  | true =>
    rw [loseReference_first]
    exact (h1.seqReferenceLost.fieldEvent _ _).raise _
  | false =>
    rw [loseReference_after]
    exact Upkeep.seqReferenceLost ((h1.fieldEvent _ _).raise _)

/-- The reference restored. -/
theorem restoreReference (h : Upkeep s0 s) (time : Nat) : Upkeep s0 (restoreReference time s) :=
  Upkeep.raise (s := { s with ref := { s.ref with state := .present, lastAccepted := some time } }) (h.same rfl) _

/-- A pulse while LOST. -/
theorem lostPulse (h : Upkeep s0 s) (time : Nat) : Upkeep s0 (lostPulse time s) := by
  have seen : ∀ n, Upkeep s0 { s with ref := { s.ref with goodRun := n, lastSeen := some time } } := fun _ => h.same rfl
  exact .ite ((seen _).restoreReference time) (seen _)

/-- A field pulse. -/
theorem fieldPulseWork (h : Upkeep s0 s) (time : Nat) (field1 stopFirst : Bool) :
    Upkeep s0 (fieldPulseWork time field1 stopFirst s) := by
  have accept : Upkeep s0 (acceptPulse time field1 stopFirst s) :=
    Upkeep.fieldEvent (s := { s with ref := { s.ref with lastAccepted := some time } }) (h.same rfl) _ _
  unfold Machine.fieldPulseWork
  split
  · exact h.lostPulse time
  · split
    · exact accept
    · exact .ite ((h.loseReference _ _ _).lostPulse time) (.ite accept h)

end
end Upkeep

end Sys2Proof.Machine
end

-- ==== The records of the decks through replies and misses ====
section
/-! A reply and a miss keep every deck's records right and the notices in order (R60 to R69, R76 to R91, R107, R113). Between the
sample of a reply and its mode a position may be known of a deck that is still EMPTY: `SampledAt` says what holds there. -/

namespace Sys2Proof.Machine

/-- The records of a port between the sample of a reply and its mode. -/
structure SampledAt (p : Port) (c : Condition) (s : State) : Prop where
  right : DeckRight (s.port p) (s.transport p) false (s.holder p)
  shut : (s.port p).exchange = none
  line : (s.port p).line ≠ .offline
  unsampled : c.mode = .noTape → RightAt p s

section
variable {p : Port} {c : Condition} {s : State}

/-- A deck whose line is not OFFLINE is not OFFLINE. -/
theorem SampledAt.state_ne (h : SampledAt p c s) : (s.transport p).state ≠ .offline := by
  obtain ⟨hoff, -, -, -⟩ := h.right.agrees
  exact fun hs => h.line (hoff.2 hs)

/-- Outside EMPTY a sample leaves the records right. -/
theorem SampledAt.rightAt (h : SampledAt p c s) (he : (s.transport p).state ≠ .empty) : RightAt p s :=
  h.right.know fun hs => (hs.elim h.state_ne he).elim

/-- A deck under its line. -/
theorem SampledAt.lined (h : SampledAt p c s) (hp : (s.transport p).state ≠ .panel) : LinedAt p s :=
  h.right.driven (h.right.online h.state_ne hp) rfl rfl

end

/-! ## What an ending leaves of the line -/

/-- A deck fault halts decks. -/
theorem allHalted_faultHeld (p : Port) (s : State) : AllHalted s (faultHeld p s) := by
  unfold faultHeld deckFault faultOrCutShort
  split
  · split
    · exact .refl s
    · split
      · split
        · exact .refl s
        · split
          · exact allHalted_endEdit _ _ _ _ s
          · exact allHalted_endEdit _ _ _ _ s
      · exact .refl s
  · exact .refl s

/-- A deck fault leaves the lines and the exchanges. -/
theorem faultHeld_port (p q : Port) (s : State) : ((faultHeld p s).port q).line = (s.port q).line ∧
    ((faultHeld p s).port q).exchange = (s.port q).exchange := by
  have hp := (allHalted_faultHeld p s q).port
  unfold deckRecords at hp
  dsimp only at hp
  rw [hp]
  exact ⟨rfl, rfl⟩

/-- The transport state taken from a mode leaves the line and the exchange. -/
theorem stateFromMode_port (p : Port) (m : DeckMode) (s : State) :
    ((stateFromMode p m s).port p).line = (s.port p).line ∧
      ((stateFromMode p m s).port p).exchange = (s.port p).exchange := by
  have dropped : ∀ u : State, ((dropMotionCmds p u).port p).line = (u.port p).line ∧
      ((dropMotionCmds p u).port p).exchange = (u.port p).exchange := fun u => by
    rw [dropMotionCmds_port, if_pos rfl]
    exact ⟨rfl, rfl⟩
  have halted : (stillDeck p (enterState p .idle (handTransport p .halt s))).port p = (handCommand p .halt s).port p :=
    handTransport_port p p .halt s
  have hmoved : ((stillDeck p (enterState p .idle (handTransport p .halt s))).port p).line = (s.port p).line ∧
      ((stillDeck p (enterState p .idle (handTransport p .halt s))).port p).exchange = (s.port p).exchange := by
    rw [halted, handCommand_port, if_pos rfl]
    exact ⟨rfl, rfl⟩
  unfold stateFromMode
  split
  · exact ⟨rfl, rfl⟩
  · exact dropped _
  · exact ⟨rfl, rfl⟩
  · exact ⟨rfl, rfl⟩
  · exact hmoved

/-- After the remote flag of a good reply the line is not OFFLINE, and the exchange stands as before it. -/
theorem lineReply_port (p : Port) (c : Condition) (s : State) : ((lineReply p c s).port p).line ≠ .offline ∧
    ((lineReply p c s).port p).exchange = (s.port p).exchange := by
  have panel : ((raiseDeck p (some c) (lineDown p .panel (setLine0 p .panel s))).port p).line ≠ .offline ∧
      ((raiseDeck p (some c) (lineDown p .panel (setLine0 p .panel s))).port p).exchange = (s.port p).exchange := by
    obtain ⟨h1, h2⟩ := faultHeld_port p p (lineFallen p .panel (setLine0 p .panel s))
    rw [← lineDown_eq] at h1 h2
    have hport : (lineFallen p .panel (setLine0 p .panel s)).port p = (setLine0 p .panel s).port p := rfl
    rw [hport, setLine0, State.setPort_self] at h1 h2
    exact ⟨fun he => LineState.noConfusion (h1.symm.trans he), h2⟩
  have online : ((raiseDeck p (some c) (stateFromMode p c.mode (setLine0 p .online s))).port p).line ≠ .offline ∧
      ((raiseDeck p (some c) (stateFromMode p c.mode (setLine0 p .online s))).port p).exchange = (s.port p).exchange := by
    obtain ⟨h1, h2⟩ := stateFromMode_port p c.mode (setLine0 p .online s)
    rw [setLine0, State.setPort_self] at h1 h2
    exact ⟨fun he => LineState.noConfusion (h1.symm.trans he), h2⟩
  unfold lineReply
  split
  · rename_i hl _
    exact ⟨by simp [hl], rfl⟩
  · exact panel
  · exact online
  · rename_i hl _
    exact ⟨by simp [hl], rfl⟩
  · exact online
  · exact panel

namespace Upto

section
variable {p : Port} {c : Condition} {s0 s : State}

/-- The sample of a good reply, on a line that is not OFFLINE with the exchange closed (R113). -/
theorem sample {x : Nat} (h : Upto p (RightAt p) s0 s) (hx : (s.port p).exchange = none) (hl : (s.port p).line ≠ .offline) :
    Upto p (SampledAt p c) s0 (if c.mode = .noTape then s
      else takeSample p (sampleTested (s.tracker p) (s.transport p)) x s) := by
  split
  · exact h.imp fun hs => ⟨hs.know fun _ => rfl, hx, hl, fun _ => hs⟩
  · rename_i hm
    have put : ∀ (k : Tracker) (r : PerPort (Option Chase)), Upto p (SampledAt p c) s0 { s.setTracker p k with chases := r } :=
      fun k r => h.step (fun q hne => ⟨rfl, rfl, State.setTracker_ne _ _ hne, rfl⟩) id fun hs =>
        ⟨hs.know fun _ => rfl, hx, hl, fun he => absurd he hm⟩
    unfold takeSample
    dsimp only
    split
    · exact put _ s.chases
    · split
      · rw [jump_eq]
        exact put _ _
      · exact put _ s.chases

/-- The condition of a good reply. -/
theorem conditionPut (h : Upto p (SampledAt p c) s0 s) (o : Option Condition) :
    Upto p (SampledAt p c) s0 (s.setTransport p { s.transport p with condition := o }) := by
  refine h.setTransport fun ⟨hs, hx, hl, hm⟩ => ?_
  refine ⟨?_, hx, hl, fun he => ?_⟩
  · rw [State.setTransport_self]
    exact hs.congr rfl rfl rfl rfl rfl rfl
  · unfold RightAt
    rw [State.setTransport_self]
    exact (hm he).congr rfl rfl rfl rfl rfl rfl

end
end Upto

namespace Upkeep

section
variable {p : Port} {c : Condition} {s0 s t : State}

/-! ## The mode of a reply (R76 to R91) -/

/-- A cue that succeeds. -/
theorem cueSucceeds (h : Upto p (RightAt p) s0 s) (hst : (s.transport p).state = .cueing) (q : Cue) :
    Upkeep s0 (cueSucceeds p q s) := by
  have h1 : Upkeep s0 (raiseCueEnd p .parked q.requester q.attempts q.lastStop ((enterState p .parked s).setTransport p
      { (enterState p .parked s).transport p with cue := none })) := ((h.imp fun hs => ⟨hs, hst⟩).cueParked _).upkeep
  unfold Machine.cueSucceeds
  dsimp only
  split
  · exact h1
  · exact h1.seqCued p
  · exact h1.chaseCued p

/-- A good reply of a CUEING deck, and the verify of a stopped one. -/
theorem cueReply (h : Upto p (RightAt p) s0 s) (hst : (s.transport p).state = .cueing) (kind : CmdKind) (x : Nat) :
    Upkeep s0 (cueReply p kind c x s) := by
  have hc : Upto p (fun s => RightAt p s ∧ (s.transport p).state = .cueing) s0 s := h.imp fun hs => ⟨hs, hst⟩
  have verify : ∀ q, Upkeep s0 (verifyCue p x q s) := fun q =>
    .ite (cueSucceeds h hst _) (.ite (hc.seekAgain _ _).upkeep ((hc.cueGivenUp .attempts _).upkeep.reportCueFailed _))
  unfold Machine.cueReply
  split
  · exact h.upkeep
  · rename_i q hq
    exact .ite (.ite (h.putTransport (t := { s.transport p with cue := some { q with acked := true } })
      rfl (by simp [hq]) rfl).upkeep h.upkeep) (.ite (verify q) h.upkeep)

/-- What a good reply's mode does. -/
theorem modeReply (h : Upto p (SampledAt p c) s0 s) (kind : CmdKind) (x : Nat) : Upkeep s0 (modeReply p kind c x s) := by
  have right : (s.transport p).state ≠ .empty → Upto p (RightAt p) s0 s := fun he => h.imp fun hs => hs.rightAt he
  unfold Machine.modeReply
  split
  · rename_i hst
    exact (right (by simp [hst])).upkeep
  · rename_i hst
    exact (right (by simp [hst])).upkeep
  · rename_i hmode
    exact (h.imp fun hs => hs.unsampled hmode).upkeep
  · rename_i hst _
    refine Upkeep.raise (Upto.upkeep (Upto.stateFromMode (h.imp fun hs => ⟨?_, hs.shut⟩) c.mode)) _
    exact (hs.lined (by simp [hst])).driven (hs.right.cue_none (by simp [hst])) (hs.right.motion_none (by simp [hst]))
  · rename_i h2 _
    rw [tapeGone_eq]
    exact ((h.imp fun hs => hs.lined h2).tapeFallen c).upkeep.faultHeld p
  · rename_i hst _
    exact (right (by simp [hst])).upkeep
  · rename_i hst _
    exact .ite ((right (by simp [hst])).putTransport (t := { s.transport p with wakeTaken := true }) rfl rfl rfl).upkeep
      (right (by simp [hst])).upkeep
  · rename_i _ h2 h3 _ _
    rw [unaskedStandby_eq]
    exact ((h.imp fun hs => ⟨hs.lined h2, hs.shut⟩).standbyFallen c).upkeep.faultHeld p
  · rename_i hst _ _
    exact cueReply (right (by simp [hst])) hst kind x
  · rename_i h3 _ _ _ _ _ _
    exact (right h3).upkeep

/-- The changes of the reported condition. -/
theorem conditionChange (h : Upkeep s0 s) (p : Port) (old : Option Condition) (new : Condition) :
    Upkeep s0 (conditionChange p old new s) := by
  unfold Machine.conditionChange
  split
  · exact h
  · rename_i old
    have tell : ∀ v, Upkeep s0 v → Upkeep s0 (if v.holder p = .sequencer then Machine.seqCondition p old new v else v) :=
      fun v hv => .ite (hv.seqCondition p old new) hv
    exact tell _ (.ite (h.raise _) h)

/-- The mode and flags of a good reply taken. -/
theorem takeCondition (h : Upto p (SampledAt p c) s0 s) (kind : CmdKind) (x : Nat) :
    Upkeep s0 (takeCondition p kind c x s) :=
  (modeReply (h.conditionPut (some c)) kind x).conditionChange p _ c

/-! ## The line of a reply (R66, R67) -/

/-- What a good reply's remote flag does, the exchange closed. -/
theorem lineReply (h : Upto p (RightAt p) s0 s) (hx : (s.port p).exchange = none) : Upkeep s0 (lineReply p c s) := by
  have panel : Upkeep s0 (raiseDeck p (some c) (Machine.lineDown p .panel (setLine0 p .panel s))) := by
    rw [lineDown_eq]
    refine Upkeep.raise (Upkeep.faultHeld (Upto.upkeep (Upto.lineFallen ?_)) p) _
    exact (h.lineOff (l := .panel) nofun).imp fun ⟨hc, hl⟩ => ⟨hc, .inr ⟨hl, rfl⟩⟩
  have online : (s.port p).line ≠ .online →
      Upkeep s0 (raiseDeck p (some c) (Machine.stateFromMode p c.mode (setLine0 p .online s))) := fun hl =>
    Upkeep.raise (Upto.upkeep ((h.imp fun hs => ⟨hs, hl, hx⟩).lineUp.stateFromMode c.mode)) _
  unfold Machine.lineReply
  split
  · exact h.upkeep
  · exact panel
  · rename_i hl _
    exact online (by simp [hl])
  · exact h.upkeep
  · rename_i hl _
    exact online (by simp [hl])
  · exact panel

/-- A mount put in the reel table. -/
theorem putMount (h : Upkeep s0 s) (i : Nat) (o : Option Port) : Upkeep s0 (setMount i o s) := by
  rw [setMount_eq]
  exact h.same rfl

/-- The tape of a port out. -/
theorem tapeOut (h : Upkeep s0 s) (p : Port) : Upkeep s0 (tapeOut p s) := by
  unfold Machine.tapeOut
  split
  · exact h
  · split
    · exact (h.putMount _ _).raise _
    · exact h

/-! ## Replies and misses (R60 to R69) -/

/-- A good reply, the exchange closed. -/
theorem goodReply (h : Upto p (RightAt p) s0 s) (hx : (s.port p).exchange = none) (e : Exchange) (x : Nat) :
    Upkeep s0 (goodReply p e c x s) := by
  have h0 := h.putPort (d := { s.port p with misses := 0 }) rfl rfl rfl
  have hx0 : ((s.setPort p { s.port p with misses := 0 }).port p).exchange = none := by
    rw [State.setPort_self]
    exact hx
  have h1 : Upkeep s0 (Machine.lineReply p c (s.setPort p { s.port p with misses := 0 })) := lineReply h0 hx0
  obtain ⟨hline, hshut⟩ := lineReply_port p c (s.setPort p { s.port p with misses := 0 })
  rw [hx0] at hshut
  unfold Machine.goodReply
  dsimp only
  generalize Machine.lineReply p c (s.setPort p { s.port p with misses := 0 }) = u at *
  have guarded : ∀ v, Upkeep s0 v → Upkeep s0 (recordGuard p e.cmd c v) := fun v hv =>
    .ite (hv.handCommand p (c := .disengage) rfl) hv
  have stored := (Upto.start p u).putPort (d := { u.port p with
    lastReply := some { condition := c, position := x, frame := e.frame } }) rfl rfl rfl
  have sampled := stored.sample (c := c) (x := x) (by rwa [State.setPort_self]) (by rwa [State.setPort_self])
  have h4 := h1.trans (takeCondition sampled (cmdKind e.cmd) x)
  exact guarded _ (.ite (h4.tapeOut p) h4)

/-- Entry to OFFLINE. -/
theorem goOffline {Q : State → Prop} (h : Upto p Q s0 s) : Upkeep s0 (goOffline p s) := by
  unfold Machine.goOffline
  dsimp only
  rw [lineDown_eq]
  refine Upkeep.raise (Upkeep.faultHeld (Upto.upkeep (Upto.lineFallen ?_)) p) _
  refine (h.lineOff (l := .offline) nofun).setPort fun ⟨hc, hl⟩ => ?_
  rw [State.setPort_self]
  exact ⟨hc, .inl ⟨hl, rfl⟩⟩

/-- The outcome of an exchange dealt with. -/
theorem endExchange (h : Upkeep s0 s) (p : Port) (r : Option (Condition × Nat)) : Upkeep s0 (endExchange p r s) := by
  have load : ∀ u, Upkeep s0 u → Upkeep s0 (reload p u) := fun u hu => hu.deck (p := p) fun k => k.putPort rfl rfl rfl
  unfold Machine.endExchange
  split
  · exact h
  · rename_i e he
    refine load _ ?_
    split
    · refine h.trans (goodReply (Upto.start p s).closeExchange ?_ _ _)
      exact congrArg DeckPort.exchange (State.setPort_self _ _ _)
    · have h1 := (Upto.start p s).missed he
      refine h.trans ?_
      rw [miss_closeExchange]
      exact .ite (goOffline h1) h1.overrideRelease.upkeep

/-- DECK_REPLY. -/
theorem deckReplyWork (h : Upkeep s0 s) (p : Port) (chars : List LineChar) : Upkeep s0 (deckReplyWork p chars s) := by
  unfold Machine.deckReplyWork
  split
  · exact h
  · exact h.endExchange p _

/-- SAMPLE_JUMP. -/
theorem sampleJumpWork (h : Upkeep s0 s) (p : Port) (x : Nat) : Upkeep s0 (sampleJumpWork p x s) := by
  unfold Machine.sampleJumpWork
  dsimp only
  split
  · rename_i hc
    have hst : ¬((s.transport p).state = .offline ∨ (s.transport p).state = .empty) := by
      have ht := hc.2.1
      unfold sampleTested at ht
      rintro (he | he) <;> simp [he] at ht
    rw [jump_eq]
    refine h.deck (p := p) fun k => k.step (fun q hne => ⟨rfl, rfl, State.setTracker_ne _ _ hne, rfl⟩) id fun hs => ?_
    exact hs.know fun he => absurd he hst
  · exact h

end
end Upkeep
end Sys2Proof.Machine
end

-- ==== The records of the decks through every command ====
section
/-! Every command keeps the notices in order, every deck's records right and the poll countdowns short (R57, R62, R63, R75, R76,
R190, R191). -/

namespace Sys2Proof.Machine

namespace Upkeep

section
variable {s0 s t : State}

/-! ## The sequencer's arms and runs (R138, R139, R163, R164) -/

/-- Ports claimed. -/
theorem claimPorts (h : Upkeep s0 s) (x : Holder) (ps : List Port) : Upkeep s0 (claimPorts x ps s) :=
  h.foldl (fun _ p hs => hs.deck (p := p) fun k => k.claimPort x) ps

/-- The hold lookup. -/
theorem holdLookup (h : Upkeep s0 s) {key : Nat} {e : Event} (hl : holdLookup key s = some (e, t)) : Upkeep s0 t := by
  obtain ⟨rfl, -⟩ := holdLookup_eq hl
  exact h.same rfl

/-- The arm of an event. -/
theorem arm (h : Upkeep s0 s) (m : Mode) (e : Event) (d : DeckSet) (run : Option Run) : Upkeep s0 (arm m e d run s) := by
  have cue : ∀ (o : Option Port) (x : Option Nat) u, Upkeep s0 u → Upkeep s0 (playerCue o x u) := by
    intro o x u hu
    unfold playerCue
    split
    · exact hu.seqCue _ _
    · exact hu
  have h1 : Upkeep s0 { Machine.claimPorts .sequencer (deckPorts d) s with seq := armedRecord m e d run s } :=
    (h.claimPorts _ _).same rfl
  unfold Machine.arm
  rw [askCues_eq]
  exact cue _ _ _ (cue _ _ _ (h1.seqCue _ _))

/-- The end of a run. -/
theorem endRun (h : Upkeep s0 s) (why : RunReason) (key : Option Nat) (run : Run) : Upkeep s0 (endRun why key run s) :=
  h.finalStep.raise _

/-- The next candidate of a run. -/
theorem nextCandidate (h : Upkeep s0 s) (run : Run) : Upkeep s0 (nextCandidate run s) := by
  unfold Machine.nextCandidate
  split
  · exact h.endRun _ _ _
  · rename_i e s1 hl
    obtain ⟨_, -, hl⟩ := Option.bind_eq_some_iff.1 hl
    have h1 := h.holdLookup hl
    split
    · exact h1.finalStep.arm _ _ _ _
    · exact h1.setSeq _

/-- The passage from one edit of a run to the next. -/
theorem passOn (h : Upkeep s0 s) (o : Option RunReason) (key : Nat) (run : Run) : Upkeep s0 (passOn o key run s) := by
  unfold Machine.passOn
  split
  · exact h.endRun _ _ _
  · exact h.nextCandidate _

/-- The handed write taken. -/
theorem takeHanded (h : Upkeep s0 s) (ending : Bool) : Upkeep s0 (takeHanded ending s) := by
  have taken : ∀ w, Upkeep s0 (writeTaken w s) := fun _ => h.same rfl
  unfold Machine.takeHanded
  split
  · exact h
  · dsimp only
    split
    · exact (taken _).passOn _ _ _
    · exact (taken _).finalStep
  · dsimp only
    split
    · exact (taken _).passOn _ _ _
    · exact (taken _).finalStep

/-! ## Answers -/

/-- A request answered. -/
theorem answer (h : Upkeep s0 s) (code : Nat) (st : Status) (body : List Byte) : Upkeep s0 (answer code st body s) := h.same rfl

/-- A request refused. -/
theorem refuse (h : Upkeep s0 s) (code : Nat) (r : Reason) : Upkeep s0 (refuse code r s) := h.same rfl

/-- A run that ended at once. -/
theorem runEndedAtOnce (h : Upkeep s0 s) (why : RunReason) (key : Option Nat) (moved : Bool) (run : Run) :
    Upkeep s0 (runEndedAtOnce why key moved run s) := (h.raise _).answer _ _ _

/-- The candidates of RUN. -/
theorem runCandidates (h : Upkeep s0 s) (moved : Bool) (used : List Byte) (fuel : Nat) (run : Run) :
    Upkeep s0 (runCandidates moved used fuel run s) := by
  induction fuel generalizing s run with
  | zero => exact h.runEndedAtOnce _ _ _ _
  | succ fuel ih =>
    unfold Machine.runCandidates
    split
    · exact .ite (h.refuse _ _) (h.runEndedAtOnce _ _ _ _)
    · rename_i e s1 hl
      obtain ⟨_, -, hl⟩ := Option.bind_eq_some_iff.1 hl
      have h1 := h.holdLookup hl
      split
      · exact (h1.arm _ _ _ _).answer _ _ _
      · have h2 : Upkeep s0 { s1 with
            list := takeWrite (some e.key) (skipWrite e.key (skipClass ‹Reason›)) s1.list } := h1.same rfl
        dsimp only
        split
        · exact h2.runEndedAtOnce _ _ _ _
        · exact ih h2 _

/-- RUN from its sixth step on. -/
theorem runStep (h : Upkeep s0 s) (body : List Byte) : Upkeep s0 (runStep body s) := by
  unfold Machine.runStep
  split
  · exact .ite (h.refuse _ _) (h.runCandidates _ _ _ _)
  · exact h.refuse _ _

/-- RUN. -/
theorem runOwner (h : Upkeep s0 s) (body : List Byte) : Upkeep s0 (runOwner body s) := by
  unfold Machine.runOwner
  split
  · exact h.runStep body
  · exact h.refuse _ _

/-- A single edit request. -/
theorem editOwner (h : Upkeep s0 s) (m : Mode) (body : List Byte) : Upkeep s0 (editOwner m body s) := by
  refine .ite (h.refuse _ _) ?_
  unfold armStep
  split
  · exact h.refuse _ _
  · rename_i e s1 hl
    have h1 := h.holdLookup hl
    split
    · exact h1.refuse _ _
    · exact (h1.arm _ _ _ _).answer _ _ _

/-! ## RESET and the end of a ripple chunk (R54, R192) -/

/-- The decks' part of RESET. -/
theorem resetDecks (h : Upkeep s0 s) : Upkeep s0 (resetDecks s) := by
  have h1 := h.foldl (f := fun s p => resetDeck p (s.setHolder p .free))
    (fun u p hu => hu.deck (p := p) fun k => k.setFree.resetDeck) allPorts
  refine h1.trans ⟨id, fun p hp => ?_⟩
  have hport : (Machine.resetDecks s).port p =
      { (allPorts.foldl (fun s p => resetDeck p (s.setHolder p .free)) s).port p with permission := false } :=
    PerPort.get_mapAll _ _ _
  unfold RightAt
  rw [hport]
  exact hp.congr rfl rfl rfl rfl rfl rfl

/-- RESET with no ripple in flight. -/
theorem resetRest (h : Upkeep s0 s) : Upkeep s0 (resetRest s) := by
  have h1 := (h.faultOrCutShort .abort).takeHanded true
  have h2 : Upkeep s0 (resetDisengage (Machine.takeHanded true (abortEdit s))) := by
    unfold resetDisengage
    split
    · exact h1.handCommand _ rfl
    · exact h1
  have silent : ∀ u, Upkeep s0 u → Upkeep s0 (Machine.answer 0x27 .done [] { quietGpi (blackMix u) with notices := [] }) :=
    fun u hu => hu.trans ⟨fun _ => .nil, fun _ hp => hp⟩
  exact silent _ h2.resetDecks

/-- RETIRE from its fourth step on. -/
theorem retireStep (h : Upkeep s0 s) (body : List Byte) : Upkeep s0 (retireStep body s) := by
  unfold Machine.retireStep
  dsimp only
  split
  · rw [setReel_eq]
    exact .ite (h.same rfl) (h.same rfl)
  · exact h.same rfl

/-- The poll countdowns shortened. -/
theorem shortenPolls (h : Upkeep s0 s) : Upkeep s0 (shortenPolls s) := by
  refine h.trans ⟨id, fun p hp => ?_⟩
  unfold RightAt
  rw [shortenPolls_port]
  exact hp.congr rfl rfl rfl rfl rfl rfl

end
end Upkeep

/-! ## The requests that leave the decks and the notices -/

section
variable (body : List Byte) (s : State)

/-- The lookups of the list (R29 to R31, R33). -/
theorem deckView_lookups : deckView (readByPositionOwner body s) = deckView s ∧ deckView (readByKeyOwner body s) = deckView s
    ∧ deckView (findOwner body s) = deckView s := by
  unfold readByPositionOwner readByKeyOwner findOwner
  exact ⟨by dsimp only; split <;> rfl, by dsimp only; split <;> rfl, by split <;> rfl⟩

/-- The changes of the list (R34 to R48). -/
theorem deckView_changes : deckView (insertOwner body s) = deckView s ∧ deckView (replaceOwner body s) = deckView s
    ∧ deckView (trimOwner body s) = deckView s ∧ deckView (deleteOwner body s) = deckView s
    ∧ deckView (clearListOwner body s) = deckView s ∧ deckView (rippleOwner body s) = deckView s := by
  unfold insertOwner replaceOwner trimOwner deleteOwner clearListOwner rippleOwner
  exact ⟨by dsimp only; split <;> rfl, by split <;> rfl, by split <;> rfl, by dsimp only; split <;> rfl, by split <;> rfl,
    by dsimp only; split <;> rfl⟩

/-- The lookups of the reel table (R109). -/
theorem deckView_reelLookups : deckView (readReelOwner body s) = deckView s ∧ deckView (findReelOwner body s) = deckView s := by
  refine ⟨?_, ?_⟩
  · unfold readReelOwner
    dsimp only
    split <;> rfl
  · unfold findReelOwner
    dsimp only
    split
    · rfl
    · split <;> rfl

/-- The status requests (R71, R95, R97, R132, R194). -/
theorem deckView_statuses : deckView (portStatusOwner body s) = deckView s ∧ deckView (transportStatusOwner body s) = deckView s
    ∧ deckView (testSetOwner body s) = deckView s ∧ deckView (trackStatusOwner body s) = deckView s
    ∧ deckView (readSettingsOwner body s) = deckView s := by
  unfold portStatusOwner transportStatusOwner testSetOwner trackStatusOwner readSettingsOwner
  refine ⟨?_, ?_, ?_, ?_, ?_⟩ <;> split <;> rfl

/-- The settings, the chase of a console and the store (R73, R123, R179, R196). -/
theorem deckView_settings : deckView (setProfileOwner body s) = deckView s ∧ deckView (setGpiOwner body s) = deckView s
    ∧ deckView (storeSettingsOwner body s) = deckView s ∧ deckView (chaseOwner body s) = deckView s := by
  have config : ∀ l g, deckView (setGpiConfig l g s) = deckView s := fun l g => by
    unfold setGpiConfig
    dsimp only
    split <;> rfl
  refine ⟨?_, ?_, ?_, ?_⟩
  · unfold setProfileOwner
    split <;> rfl
  · unfold setGpiOwner
    split
    · rfl
    · split
      · rfl
      · exact config _ _
  · unfold storeSettingsOwner
    split <;> rfl
  · unfold chaseOwner
    dsimp only
    split <;> rfl

/-- A reel and a mount put. -/
theorem deckView_setReel (i : Nat) (r : Option Reel) : deckView (setReel i r s) = deckView s := by
  rw [setReel_eq]
  rfl

/-- A mount put. -/
theorem deckView_setMount (i : Nat) (o : Option Port) : deckView (setMount i o s) = deckView s := by
  rw [setMount_eq]
  rfl

/-- A mount cleared, where there is one. -/
theorem deckView_displace (o : Option Nat) : deckView (displace o s) = deckView s := by
  unfold displace
  split
  · exact deckView_setMount _ _ _
  · rfl

/-- The changes of the reel table (R102 to R106). -/
theorem deckView_reels : deckView (defineReelOwner body s) = deckView s ∧ deckView (renameOwner body s) = deckView s
    ∧ deckView (retireOwner body s) = deckView s ∧ deckView (mountOwner body s) = deckView s
    ∧ deckView (unmountOwner body s) = deckView s := by
  have retired : deckView (retireStep body s) = deckView s := by
    unfold retireStep
    dsimp only
    split
    · split
      · rfl
      · exact deckView_setReel _ _ _
    · rfl
  refine ⟨?_, ?_, ?_, ?_, ?_⟩
  · unfold defineReelOwner
    dsimp only
    split
    · exact deckView_setReel _ _ _
    · rfl
  · unfold renameOwner
    dsimp only
    split
    · exact deckView_setReel _ _ _
    · rfl
  · unfold retireOwner
    split
    · exact retired
    · rfl
  · unfold mountOwner
    dsimp only
    split
    · exact (deckView_setMount (displace _ s) _ _).trans (deckView_displace s _)
    · rfl
  · unfold unmountOwner
    dsimp only
    split
    · exact deckView_displace s _
    · rfl

end

namespace Upkeep

section
variable {s0 s t : State}

/-- A request that waited taken up. -/
theorem takeUp (h : Upkeep s0 s) (w : Waiting) : Upkeep s0 (takeUp w s) := by
  obtain ⟨hposition, hkey, hfind⟩ := deckView_lookups w.body s
  obtain ⟨hinsert, hreplace, htrim, hdelete, hclear, hripple⟩ := deckView_changes w.body s
  obtain ⟨hreel, hnamed⟩ := deckView_reelLookups w.body s
  unfold Machine.takeUp
  split
  · exact h.same hposition
  · exact h.same hkey
  · exact h.same hfind
  · exact h.same rfl
  · exact h.same hinsert
  · exact h.same hreplace
  · exact h.same htrim
  · exact h.same hdelete
  · exact h.same hclear
  · exact h.same hripple
  · exact h.retireStep _
  · exact h.same hreel
  · exact h.same hnamed
  · exact h.editOwner _ _
  · exact h.editOwner _ _
  · exact h.editOwner _ _
  · exact h.runStep _
  · exact .ite h h.resetRest
  · exact h

/-- The end of a chunk. -/
theorem rippleChunkEndWork (h : Upkeep s0 s) (sequencerFirst : Bool) : Upkeep s0 (rippleChunkEndWork sequencerFirst s) := by
  have waiting : ∀ u, Upkeep s0 u → Upkeep s0 (takeWaiting u) := by
    intro u hu
    unfold takeWaiting
    split
    · exact hu.takeUp _
    · exact hu
  have both : ∀ u, Upkeep s0 u → Upkeep s0 (takeBoth sequencerFirst u) := fun u hu =>
    .ite (waiting _ (hu.takeHanded _)) ((waiting _ hu).takeHanded _)
  have h1 : Upkeep s0 { s with list := workChunk s.list } := h.same rfl
  exact .ite (both _ (.ite h1 (h1.raise _))) h

/-! ## The timed steps (log entry 9) -/

/-- REFERENCE_LOSS. -/
theorem referenceLossWork (h : Upkeep s0 s) (lossFirst stopFirst : Bool) :
    Upkeep s0 (referenceLossWork lossFirst stopFirst s) := by
  unfold Machine.referenceLossWork
  split
  · exact h.loseReference _ _ _
  · exact h

/-- REFERENCE_RESTORED. -/
theorem referenceRestoredWork (h : Upkeep s0 s) : Upkeep s0 (referenceRestoredWork s) := by
  unfold Machine.referenceRestoredWork
  split
  · exact .ite (h.restoreReference _) h
  · exact h

/-- GOOD_FIELD_TIMEOUT. -/
theorem goodFieldTimeoutWork (h : Upkeep s0 s) : Upkeep s0 (goodFieldTimeoutWork s) := by
  unfold Machine.goodFieldTimeoutWork
  split
  · exact h.same rfl
  · exact h

/-- INTERNAL_FIELD. -/
theorem internalFieldWork (h : Upkeep s0 s) (stopFirst : Bool) : Upkeep s0 (internalFieldWork stopFirst s) := by
  unfold Machine.internalFieldWork
  split
  · exact Upkeep.fieldEvent (s := { s with ref := { s.ref with lastField := s.ref.lastField + period s.std } })
      (h.same rfl) _ _
  · exact h

/-- SEQUENCER_ROLL. -/
theorem sequencerRollWork (h : Upkeep s0 s) : Upkeep s0 (sequencerRollWork s) := by
  unfold Machine.sequencerRollWork
  split
  · rename_i x _
    exact .ite (Upkeep.roll (s := { s with recorderFrame := recorderPos x s / 64 }) (h.same rfl) x) h
  · exact h

/-- RELEASE_TIMEOUT. -/
theorem releaseTimeoutWork (h : Upkeep s0 s) : Upkeep s0 (releaseTimeoutWork s) := by
  unfold Machine.releaseTimeoutWork
  split
  · exact h.releaseTimeout _
  · exact h

/-- POSTROLL_END. -/
theorem postrollEndCommand (h : Upkeep s0 s) : Upkeep s0 (postrollEndCommand s) := by
  unfold Machine.postrollEndCommand
  split
  · exact h.postrollEndWork _
  · exact h

/-- STATUS_WRITE. -/
theorem statusWriteWork (h : Upkeep s0 s) : Upkeep s0 (statusWriteWork s) := .ite h (h.takeHanded false)

/-- FLIP_FLOP. -/
theorem flipFlopWork (h : Upkeep s0 s) : Upkeep s0 (flipFlopWork s) := by
  unfold Machine.flipFlopWork
  split
  · exact .ite (h.same rfl) h
  · exact h

/-- GPI_PULSE_END. -/
theorem gpiPulseEndWork (h : Upkeep s0 s) (l : Line) : Upkeep s0 (gpiPulseEndWork l s) := by
  unfold Machine.gpiPulseEndWork
  split
  · exact .ite (h.same rfl) h
  · exact h

/-- STORE_END. -/
theorem storeEndWork (h : Upkeep s0 s) (stop : Option StoreStop) : Upkeep s0 (storeEndWork stop s) := by
  unfold Machine.storeEndWork
  split
  · exact h
  · exact Upkeep.raise (s := { s with snapshot := none, stored := _ }) (h.same rfl) _

/-- WAKE_END. -/
theorem wakeEndWork (h : Upkeep s0 s) (p : Port) : Upkeep s0 (wakeEndWork p s) := by
  unfold Machine.wakeEndWork
  split
  · rename_i hc
    simp only [wakeOver, Bool.and_eq_true, decide_eq_true_eq] at hc
    exact h.deck (p := p) fun k => (k.imp fun hs => ⟨hs, hc.1.1⟩).endWake
  · exact h

/-- STANDBY_TIMEOUT. -/
theorem standbyTimeoutWork (h : Upkeep s0 s) (p : Port) : Upkeep s0 (standbyTimeoutWork p s) := by
  unfold Machine.standbyTimeoutWork
  split
  · rename_i hc
    simp only [standbyDue, standbyCounts, Bool.and_eq_true, Bool.or_eq_true, decide_eq_true_eq] at hc
    exact h.deck (p := p) fun k => k.sendToStandby hc.1.1.2 hc.1.1.1
  · exact h

/-- SETTINGS_LOAD_END. -/
theorem loadEndWork (h : Upkeep s0 s) (read : Option (List Byte)) (time : Nat) : Upkeep s0 (loadEndWork read time s) :=
  .ite (Upkeep.raise (s := { s with
    inReset := false, live := (loadOutcome read).1, ref := { s.ref with lastField := time } }) (h.same rfl) _) h

/-! ## The requests that work on decks, holders or notices -/

/-- A claim by the console. -/
theorem claimAnswer (h : Upkeep s0 s) (code : Nat) (granted : Bool) (ps : List Port) :
    Upkeep s0 (claimAnswer code granted ps s) := .ite ((h.claimPorts _ _).answer _ _ _) (h.same rfl)

/-- CLAIM SET. -/
theorem claimSetOwner (h : Upkeep s0 s) (body : List Byte) : Upkeep s0 (claimSetOwner body s) := by
  unfold Machine.claimSetOwner
  split
  · exact h.refuse _ _
  · exact h.claimAnswer _ _ _

/-- CLAIM EXCLUSIVE. -/
theorem claimExclusiveOwner (h : Upkeep s0 s) (body : List Byte) : Upkeep s0 (claimExclusiveOwner body s) := by
  unfold Machine.claimExclusiveOwner
  split
  · exact h.refuse _ _
  · exact h.claimAnswer _ _ _

/-- RELEASE SET. -/
theorem releaseSetOwner (h : Upkeep s0 s) (body : List Byte) : Upkeep s0 (releaseSetOwner body s) := by
  have release : ∀ u p, Upkeep s0 u → Upkeep s0 (releasePort p u) := by
    intro u p hu
    have h1 : Upkeep s0 (u.setHolder p .free) := hu.deck (p := p) fun k => k.setFree
    unfold releasePort chaserFreed
    split
    · exact .ite (h1.setChase p none) h1
    · exact h1
  unfold Machine.releaseSetOwner
  split
  · exact h.refuse _ _
  · exact (h.foldl release _).answer _ _ _

/-- TRANSPORT. -/
theorem transportOwner (h : Upkeep s0 s) (body : List Byte) : Upkeep s0 (transportOwner body s) := by
  unfold Machine.transportOwner
  split
  · rename_i p a _
    exact (h.deck (p := p) fun k => k.act .console a).answer _ _ _
  · exact h.refuse _ _

/-- CUE. -/
theorem cueOwner (h : Upkeep s0 s) (body : List Byte) : Upkeep s0 (cueOwner body s) := by
  unfold Machine.cueOwner
  split
  · rename_i p n _ _
    exact (h.deck (p := p) fun k => k.beginCue .console (n * 64)).answer _ _ _
  · exact h.refuse _ _

/-- CHASE STOP. -/
theorem chaseStopOwner (h : Upkeep s0 s) (body : List Byte) : Upkeep s0 (chaseStopOwner body s) := by
  unfold Machine.chaseStopOwner
  split
  · rename_i p _
    exact ((h.chaseAct p .halt).setChase p none).answer _ _ _
  · exact h.refuse _ _

/-- The positions of the decks and the notices reduced to a new day. -/
theorem changeStandard (h : Upkeep s0 s) (std : FrameStd) : Upkeep s0 (changeStandard std s) := by
  have hclass : ∀ c, recordClass (reduceCmd std c) = recordClass c ∧ motionCmd (reduceCmd std c) = motionCmd c := by
    intro c
    cases c <;> exact ⟨rfl, rfl⟩
  have hback : ∀ c d, (d = .status ∨ d = .release) → reduceCmd std c = d → c = d := by
    intro c d hd he
    cases c with
    | seek x =>
      subst he
      exact hd.elim nofun nofun
    | _ => exact he
  refine h.trans ⟨fun hn => ?_, fun p ⟨h1, h2, h3, h4, h5⟩ => ?_⟩
  · have hmap : (Machine.changeStandard std s).notices.map noticeSlot = s.notices.map noticeSlot := by
      change (s.notices.map (reduceNotice std)).map noticeSlot = _
      rw [List.map_map]
      exact List.map_congr_left fun n _ => noticeSlot_reduceNotice std n
    unfold NoticesOrdered
    rwa [hmap]
  · have hport : (Machine.changeStandard std s).port p = reducePort std (s.port p) := PerPort.get_mapAll _ _ _
    have htransport : (Machine.changeStandard std s).transport p = reduceTransport std (s.transport p) :=
      PerPort.get_mapAll _ _ _
    have htracker : (Machine.changeStandard std s).tracker p =
        { s.tracker p with position := reducePos std (s.tracker p).position } := PerPort.get_mapAll _ _ _
    unfold RightAt
    rw [hport, htransport, htracker]
    obtain ⟨⟨hsame, hstatus⟩, hsilent⟩ := slotsRight_iff.1 h3
    refine ⟨?_, h2, slotsRight_iff.2 ⟨⟨List.pairwise_map.2 ?_, fun hm => ?_⟩, fun hl => ?_⟩, fun hf hm => ?_,
      fun hst => ⟨fun c hm => ?_, fun x hx hm => ?_⟩⟩
    · simpa [TransportAgrees, reducePort, reduceTransport] using h1
    · simpa only [(hclass _).1] using hsame
    · obtain ⟨c, hc, he⟩ := List.mem_map.1 hm
      exact hstatus (hback c _ (.inl rfl) he ▸ hc)
    · exact List.map_eq_nil_iff.2 (hsilent hl)
    · obtain ⟨c, hc, he⟩ := List.mem_map.1 hm
      exact h4 hf (hback c _ (.inr rfl) he ▸ hc)
    · obtain ⟨d, hd, rfl⟩ := List.mem_map.1 hm
      rw [(hclass d).2]
      exact (h5 hst).1 d hd
    · obtain ⟨y, hy, rfl⟩ := Option.map_eq_some_iff.1 hx
      obtain ⟨d, hd, hr⟩ := (h5 hst).2 y hy ((hclass y.cmd).2 ▸ hm)
      exact ⟨_, List.mem_map_of_mem hd, (hclass d).1.trans hr⟩

/-- SET SYSTEM. -/
theorem setSystemOwner (h : Upkeep s0 s) (body : List Byte) : Upkeep s0 (setSystemOwner body s) := by
  have block : ∀ b, Upkeep s0 (setSystemBlock b s) := by
    intro b
    have h1 : Upkeep s0 (if b.std = s.std then s else Machine.changeStandard b.std s) := .ite h (h.changeStandard _)
    exact h1.same rfl
  unfold Machine.setSystemOwner
  split
  · exact (block _).answer _ _ _
  · exact h.refuse _ _

/-- TAKE NOTICE. -/
theorem takeNoticeOwner (h : Upkeep s0 s) (body : List Byte) : Upkeep s0 (takeNoticeOwner body s) := by
  unfold Machine.takeNoticeOwner
  split
  · exact h.answer _ _ _
  · rename_i n rest hn
    have h1 : Upkeep s0 { s with notices := rest } :=
      h.trans ⟨fun ho => by
        unfold NoticesOrdered at ho
        rw [hn] at ho
        exact (List.pairwise_cons.1 ho).2, fun _ => id⟩
    exact h1.answer _ _ _

/-- ABORT. -/
theorem abortOwner (h : Upkeep s0 s) (body : List Byte) : Upkeep s0 (abortOwner body s) :=
  .ite (h.same rfl) (.ite (h.same rfl) ((h.faultOrCutShort .abort).answer _ _ _))

/-- RESET. -/
theorem resetOwner (h : Upkeep s0 s) (body : List Byte) : Upkeep s0 (resetOwner body s) :=
  .ite ((h.faultOrCutShort .abort).same rfl) h.resetRest

end
end Upkeep

/-! ## Every command -/

/-- `t` comes from `s` by a step that keeps what is right of the decks, the notices and the poll countdowns. -/
structure Kept (s t : State) : Prop where
  polls : PollsShort s → PollsShort t
  upkeep : Upkeep s t

section
variable {s t : State}

/-- A command's work. -/
theorem Kept.work {f : State → State} (hf : Upkeep s s → Upkeep s (f s)) (ht : work f s = .next t) : Kept s t := by
  obtain rfl : (if s.inReset then s else shortenPolls (f s)) = t := by simpa [Machine.work] using ht
  split
  · exact ⟨id, .start⟩
  · exact ⟨fun _ => pollsShort_shortenPolls _, (hf .start).shortenPolls⟩

/-- A request. -/
theorem Kept.request {code : Nat} {fits : List Byte → Bool} {waits : List Byte → State → Bool}
    {owner : List Byte → State → State} {body : List Byte} (ho : ∀ u, Upkeep u u → Upkeep u (owner body u))
    (ht : request code fits waits owner body s = .next t) : Kept s t := by
  have linked : ∀ l : Link, Kept s { s with link := l } := fun l => ⟨fun hp => hp, Upkeep.start.same rfl⟩
  rw [request_eq] at ht
  split at ht
  · obtain rfl := Host.Outcome.next.inj ht
    exact linked _
  · split at ht
    · obtain rfl := Host.Outcome.next.inj ht
      exact linked _
    · split at ht
      · obtain rfl := Host.Outcome.next.inj ht
        exact linked _
      · obtain rfl := Host.Outcome.next.inj ht
        have htaken : Upkeep s (taken body s) := Upkeep.start.same rfl
        exact ⟨fun _ => pollsShort_shortenPolls _, (htaken.trans (ho _ .start)).shortenPolls⟩

/-- A request that leaves the decks, the holders and the notices. -/
theorem Kept.quiet {code : Nat} {fits : List Byte → Bool} {waits : List Byte → State → Bool}
    {owner : List Byte → State → State} {body : List Byte} (ho : ∀ u, deckView (owner body u) = deckView u)
    (ht : Machine.request code fits waits owner body s = .next t) : Kept s t := .request (fun u h => h.same (ho u)) ht

/-- The reset state polls OFFLINE ports within their cadence. -/
theorem pollsShort_reset : PollsShort State.reset := by
  intro p _
  have hp : State.reset.port p = DeckPort.initial := reset_port [] p
  have hc : cadence State.reset p = 25 := if_pos (congrArg DeckPort.line hp)
  rw [hc, hp]
  decide

/-- The records of a port after reset are right. -/
theorem rightAt_reset (p : Port) : RightAt p State.reset := by
  have h : RightAt p { State.reset with pending := [] } := by
    unfold RightAt
    rw [reset_port, reset_transport, reset_tracker, reset_holder]
    exact .down rfl (.inl ⟨rfl, rfl, rfl⟩) rfl rfl
  exact h

/-- Every command keeps the notices in order, the decks' records right and the countdowns short. -/
theorem kept_exec {c : Instr} (ht : exec c s = .next t) : Kept s t := by
  cases c with
  | hardwareReset =>
    obtain rfl := Host.Outcome.next.inj ht
    exact ⟨fun _ => pollsShort_reset, fun _ => .nil, fun p _ => rightAt_reset p⟩
  | settingsLoadEnd read time =>
    obtain rfl := Host.Outcome.next.inj ht
    refine ⟨fun hp => ?_, Upkeep.start.loadEndWork read time⟩
    unfold loadEndWork
    split
    · exact hp
    · exact hp
  | fieldPulse time field1 stopFirst => exact Kept.work (fun h => h.fieldPulseWork time field1 stopFirst) ht
  | referenceRestored => exact Kept.work (fun h => h.referenceRestoredWork) ht
  | referenceLoss lossFirst stopFirst => exact Kept.work (fun h => h.referenceLossWork lossFirst stopFirst) ht
  | goodFieldTimeout => exact Kept.work (fun h => h.goodFieldTimeoutWork) ht
  | internalField stopFirst => exact Kept.work (fun h => h.internalFieldWork stopFirst) ht
  | sequencerRoll => exact Kept.work (fun h => h.sequencerRollWork) ht
  | engageTimeout => exact Kept.work (fun h => h.engageTimeout) ht
  | releaseTimeout => exact Kept.work (fun h => h.releaseTimeoutWork) ht
  | postrollEnd => exact Kept.work (fun h => h.postrollEndCommand) ht
  | statusWrite => exact Kept.work (fun h => h.statusWriteWork) ht
  | rippleChunkEnd sequencerFirst => exact Kept.work (fun h => h.rippleChunkEndWork sequencerFirst) ht
  | flipFlop => exact Kept.work (fun h => h.flipFlopWork) ht
  | gpiPulseEnd line => exact Kept.work (fun h => h.gpiPulseEndWork line) ht
  | pollMoment port => exact Kept.work (fun h => h.deck (p := port) fun k => k.pollWork) ht
  | deckReply port chars => exact Kept.work (fun h => h.deckReplyWork port chars) ht
  | replyTimeout port => exact Kept.work (fun h => h.endExchange port none) ht
  | portOffline port => exact Kept.work (fun h => .ite (Upkeep.goOffline (Upto.start port s)) h) ht
  | sampleJump port sample => exact Kept.work (fun h => h.sampleJumpWork port sample) ht
  | cueTimeout port => exact Kept.work (fun h => Upkeep.reportCues (h.deck (p := port) fun k => k.cueTimesOut)) ht
  | wakeEnd port => exact Kept.work (fun h => h.wakeEndWork port) ht
  | standbyTimeout port => exact Kept.work (fun h => h.standbyTimeoutWork port) ht
  | storeEnd stop => exact Kept.work (fun h => h.storeEndWork stop) ht
  | fetch clocked =>
    obtain rfl := Host.Outcome.next.inj ht
    unfold fetchWork
    split
    · exact ⟨fun hp => hp, Upkeep.start.same rfl⟩
    · exact ⟨fun hp => hp, Upkeep.start.same rfl⟩
  | selectAsserted =>
    obtain rfl := Host.Outcome.next.inj ht
    exact ⟨fun hp => hp, Upkeep.start.same rfl⟩
  | unknownRequest code body =>
    exact Kept.request (fits := fun _ => false) (owner := fun _ s => s) (body := body) (fun _ h => h) ht
  | insert body => exact Kept.quiet (fun u => let ⟨h, _, _, _, _, _⟩ := deckView_changes body u; h) ht
  | replace body => exact Kept.quiet (fun u => let ⟨_, h, _, _, _, _⟩ := deckView_changes body u; h) ht
  | trim body => exact Kept.quiet (fun u => let ⟨_, _, h, _, _, _⟩ := deckView_changes body u; h) ht
  | delete body => exact Kept.quiet (fun u => let ⟨_, _, _, h, _, _⟩ := deckView_changes body u; h) ht
  | clearList body => exact Kept.quiet (fun u => let ⟨_, _, _, _, h, _⟩ := deckView_changes body u; h) ht
  | ripple body => exact Kept.quiet (fun u => let ⟨_, _, _, _, _, h⟩ := deckView_changes body u; h) ht
  | readByPosition body => exact Kept.quiet (fun u => let ⟨h, _, _⟩ := deckView_lookups body u; h) ht
  | readByKey body => exact Kept.quiet (fun u => let ⟨_, h, _⟩ := deckView_lookups body u; h) ht
  | find body => exact Kept.quiet (fun u => let ⟨_, _, h⟩ := deckView_lookups body u; h) ht
  | readReel body => exact Kept.quiet (fun u => let ⟨h, _⟩ := deckView_reelLookups body u; h) ht
  | findReel body => exact Kept.quiet (fits := (nameFits · 0)) (fun u => let ⟨_, h⟩ := deckView_reelLookups body u; h) ht
  | defineReel body => exact Kept.quiet (fits := (nameFits · 0)) (fun u => let ⟨h, _, _, _, _⟩ := deckView_reels body u; h) ht
  | rename body => exact Kept.quiet (fits := (nameFits · 1)) (fun u => let ⟨_, h, _, _, _⟩ := deckView_reels body u; h) ht
  | retire body => exact Kept.quiet (fun u => let ⟨_, _, h, _, _⟩ := deckView_reels body u; h) ht
  | mount body => exact Kept.quiet (fun u => let ⟨_, _, _, h, _⟩ := deckView_reels body u; h) ht
  | unmount body => exact Kept.quiet (fun u => let ⟨_, _, _, _, h⟩ := deckView_reels body u; h) ht
  | portStatus body => exact Kept.quiet (fun u => let ⟨h, _, _, _, _⟩ := deckView_statuses body u; h) ht
  | transportStatus body => exact Kept.quiet (fun u => let ⟨_, h, _, _, _⟩ := deckView_statuses body u; h) ht
  | testSet body => exact Kept.quiet (fun u => let ⟨_, _, h, _, _⟩ := deckView_statuses body u; h) ht
  | trackStatus body => exact Kept.quiet (fun u => let ⟨_, _, _, h, _⟩ := deckView_statuses body u; h) ht
  | takeNotice body => exact Kept.request (fun _ h => h.takeNoticeOwner body) ht
  | transport body => exact Kept.request (fun _ h => h.transportOwner body) ht
  | cue body => exact Kept.request (fun _ h => h.cueOwner body) ht
  | chase body => exact Kept.quiet (fun u => let ⟨_, _, _, h⟩ := deckView_settings body u; h) ht
  | chaseStop body => exact Kept.request (fun _ h => h.chaseStopOwner body) ht
  | claimSet body => exact Kept.request (fun _ h => h.claimSetOwner body) ht
  | claimExclusive body => exact Kept.request (fun _ h => h.claimExclusiveOwner body) ht
  | releaseSet body => exact Kept.request (fun _ h => h.releaseSetOwner body) ht
  | abort body => exact Kept.request (fun _ h => h.abortOwner body) ht
  | reset body => exact Kept.request (fun _ h => h.resetOwner body) ht
  | run body => exact Kept.request (fun _ h => h.runOwner body) ht
  | setSystem body => exact Kept.request (fun _ h => h.setSystemOwner body) ht
  | setProfile body => exact Kept.quiet (fun u => let ⟨h, _, _, _⟩ := deckView_settings body u; h) ht
  | setGpi body => exact Kept.quiet (fun u => let ⟨_, h, _, _⟩ := deckView_settings body u; h) ht
  | readSettings body => exact Kept.quiet (fun u => let ⟨_, _, _, _, h⟩ := deckView_statuses body u; h) ht
  | storeSettings body => exact Kept.quiet (fun u => let ⟨_, _, h, _⟩ := deckView_settings body u; h) ht
  | perform body => exact Kept.request (fun _ h => h.editOwner .perform body) ht
  | preview body => exact Kept.request (fun _ h => h.editOwner .preview body) ht
  | review body => exact Kept.request (fun _ h => h.editOwner .review body) ht
  | listStatus body => exact Kept.request (owner := listStatusOwner) (body := body) (fun _ h => h.same rfl) ht
  | mountTable body => exact Kept.request (owner := mountTableOwner) (body := body) (fun _ h => h.same rfl) ht
  | sequencerStatus body => exact Kept.request (owner := sequencerStatusOwner) (body := body) (fun _ h => h.same rfl) ht
  | runStatus body => exact Kept.request (owner := runStatusOwner) (body := body) (fun _ h => h.same rfl) ht
  | outputStatus body => exact Kept.request (owner := outputStatusOwner) (body := body) (fun _ h => h.same rfl) ht

/-- A step is a command or none. -/
theorem kept_step (ht : step s = .next t) : Kept s t := by
  unfold step at ht
  split at ht
  · obtain rfl := Host.Outcome.next.inj ht
    exact ⟨id, .start⟩
  · rename_i rest _
    obtain ⟨hpolls, hnotices, hdecks⟩ := kept_exec (s := { s with pending := rest }) ht
    exact ⟨hpolls, hnotices, hdecks⟩

end
end Sys2Proof.Machine

open Sys2Proof Sys2Proof.Machine

/-- Settles O5: a step keeps the notices in order and the countdowns short (`Kept`), and the places of the taking order are
29. -/
theorem noticesStayOrderedAndPollsStayShort : Obligations.NoticesStayOrderedAndPollsStayShort :=
  ⟨fun _ _ hs ht => let hn := (kept_step ht).upkeep.notices hs; ⟨hn, hn.length_le⟩, fun _ _ hs ht => (kept_step ht).polls hs⟩

/-- Settles O8: a step keeps the records of each deck right (`Upkeep`), which is what the two invariants say of it. -/
theorem transportsStayInStepWithTheirLines : Obligations.TransportsStayInStepWithTheirLines := fun _ _ hagree hcommands ht =>
  rightAt_iff.1 fun p => (kept_step ht).upkeep.decks p (rightAt_iff.2 ⟨hagree, hcommands⟩ p)

end

-- ==== The reset state ====
section
/-! The state after hardware reset meets every invariant (R74, R99, R111, R134, R190, R193). -/

namespace Sys2Proof.Machine

/-- After reset every block stands as reset left it. -/
theorem resetStill_reset : ResetStill State.reset := fun _ => ⟨rfl, rfl, rfl, rfl⟩

/-- After reset the sequencer is IDLE and holds no port. -/
theorem sequencerWhole_reset : SequencerWhole State.reset := by
  have hfree : ∀ p, State.reset.holder p = .free := reset_holder []
  have hdecks : editDecks State.reset = [] := rfl
  refine ⟨fun _ => rfl, fun h => absurd rfl h, fun p _ => ?_, nofun, ?_⟩
  · rw [hfree, hdecks]
    simp
  · simp [State.reset, Sequencer.idle]

/-- After reset the list is empty. -/
theorem listRight_reset : ListRight State.reset.std State.reset.list := by
  have hview : viewEvents State.reset.list = [] := rfl
  refine ⟨by simp [State.reset], by simp [State.reset], by simp [State.reset], .nil, ?_, ?_, ?_, nofun⟩
  · rw [hview]
    exact .nil
  · rw [hview]
    exact .nil
  · rw [hview]
    simp

/-- After reset the outputs are black and no line is active. -/
theorem outputsRight_reset : OutputsRight State.reset := by
  refine ⟨by decide, nofun, nofun, nofun, fun l _ f hf => ?_⟩
  have hnone : State.reset.gpi.lines.get l = none := by cases l <;> rfl
  rw [hnone] at hf
  cases hf

end Sys2Proof.Machine

open Sys2Proof Sys2Proof.Machine

/-- Settles O4: the reset state, invariant by invariant. -/
theorem resetMeetsEveryInvariant : Obligations.ResetMeetsEveryInvariant := by
  obtain ⟨hagree, hcommands⟩ := rightAt_iff.1 rightAt_reset
  exact ⟨pollsShort_reset, .nil, resetStill_reset, sequencerWhole_reset, hagree, hcommands,
    positionsOnDay_iff.2 (onTheDay_reset .defaults), listRight_reset, nofun,
    reelsRight_iff.2 (tableRight_of_reset rfl rfl), settingsRight_defaults, outputsRight_reset⟩

end

-- ==== The status requests, SET PROFILE and SET GPI ====
section
/-! What the status requests answer (R71, R97, R109, R132, R157, R170, R186, R194), and the values that SET PROFILE and SET GPI
take (R72, R73, R179). -/

namespace Sys2Proof.Machine

/-! ## Fields of a body read back (R197) -/

/-- A port sent in one byte is read back. -/
@[simp] theorem portOf_bPort (p : Port) : portOf (byteAt (bPort p) 0) = some p := by cases p <;> rfl

/-- A byte read back. -/
theorem byteAt_b1 {n : Nat} (h : n < 256) : byteAt (b1 n) 0 = n := Nat.mod_eq_of_lt h

/-- The first byte of a name is its length. -/
theorem byteAt_bName {name : List Byte} (h : name.length < 256) : byteAt (bName name) 0 = name.length :=
  Nat.mod_eq_of_lt h

/-- A name read back. -/
theorem nameAt_bName {name : List Byte} (h : name.length < 256) : nameAt (bName name) 0 = name := by
  unfold nameAt
  rw [byteAt_bName h]
  exact List.take_length

/-- A name fills its body. -/
theorem nameFits_bName {name : List Byte} (h : name.length < 256) : nameFits (bName name) 0 = true := by
  unfold nameFits
  rw [byteAt_bName h]
  simp [bName, b1, Nat.add_comm]

/-- A valid name has at most 8 characters. -/
theorem nameValid_length {name : List Byte} (h : nameValid name = true) : name.length ≤ 8 := by
  simp only [nameValid, Bool.and_eq_true, decide_eq_true_eq] at h
  exact h.1.1.1.2

/-- The profile of a port is the settings part that READ SETTINGS names by 1 and the port (R194). -/
theorem settingsPart_profile (p : Port) (s : State) : settingsPart (1 :: bPort p) s = some (bProfile (s.profile p)) := by
  cases p <;> rfl

/-- The configuration of a line is the part that it names by 2 and the line. -/
theorem settingsPart_gpi (l : Line) (s : State) :
    settingsPart (2 :: b1 (lineNum l)) s = some (bGpi (s.live.gpi.get l)) := by
  cases l <;> rfl

/-- A list request does not wait when no ripple is in flight (R49). -/
theorem waitsForList_idle {s : State} (h : s.list.ripple = none) (body body' : List Byte) :
    waitsForList body (taken body' s) = false := congrArg Option.isSome h

/-! ## The reel table read -/

section
variable {s : State} {i : Nat}

/-- The entry of the table with an index. -/
theorem reelAt_succ (s : State) (i : Nat) : reelAt s (i + 1) = s.reels[i]? := if_neg i.succ_ne_zero

/-- The port of a defined reel. -/
theorem mountedPort_succ {r : Reel} (h : s.reels[i]? = some (some r)) : mountedPort s (i + 1) = r.mounted := by
  unfold mountedPort
  rw [Nat.add_sub_cancel, h]
  exact if_neg i.succ_ne_zero

/-- A reel is found by its name when no entry before it has that name (R109). -/
theorem reelNamed_of_first {r : Reel} (h : s.reels[i]? = some (some r))
    (hfirst : ∀ j ∈ List.range i, ((s.reels[j]?).join).map Reel.name ≠ some r.name) :
    reelNamed s r.name = some (i + 1) := by
  obtain ⟨hi, hr⟩ := Vector.getElem?_eq_some_iff.1 h
  unfold reelNamed
  rw [List.findIdx?_eq_some_iff_getElem.2 ⟨by simpa using hi, by simp [hr], fun j hj => ?_⟩]
  · rfl
  · have hj64 : j < 64 := hj.trans hi
    have hne := hfirst j (List.mem_range.2 hj)
    rw [Vector.getElem?_eq_getElem hj64, Option.join_some] at hne
    simp only [Vector.getElem_toList]
    cases hx : s.reels[j] with
    | none => simp
    | some x => simpa [hx] using hne

end

/-! ## Settings taken (R73, R179) -/

/-- Clamping leaves a number that lies in the range. -/
theorem clamp_of_mem {lo hi n : Nat} (h1 : lo ≤ n) (h2 : n ≤ hi) : clamp lo hi n = n := by
  unfold clamp
  omega

/-- Clamping leaves a profile in the ranges of R72. -/
theorem clampProfile_of_right {f : Profile} (h : ProfileRight f) : clampProfile f = f := by
  obtain ⟨h1, h2, h3, h4, h5, h6, ⟨h7, h7', hlock⟩, h8, h9, h10, h11, h12, h13, h14, h15, h16, h17, h18⟩ := h
  have hunlock : max (clamp 0 32 f.lockWindow) (clamp 16 255 f.unlockWindow) = f.unlockWindow := by
    rw [clamp_of_mem (Nat.zero_le _) h5, clamp_of_mem h7 h7']
    exact Nat.max_eq_right hlock
  unfold clampProfile
  dsimp only
  rw [hunlock, clamp_of_mem h1.1 h1.2, clamp_of_mem (Nat.zero_le _) h2, clamp_of_mem h3.1 h3.2,
    clamp_of_mem (Nat.zero_le _) h4, clamp_of_mem (Nat.zero_le _) h5, clamp_of_mem h6.1 h6.2, clamp_of_mem h8.1 h8.2,
    clamp_of_mem (Nat.zero_le _) h9, clamp_of_mem (Nat.zero_le _) h10, clamp_of_mem h11.1 h11.2, clamp_of_mem h12.1 h12.2,
    clamp_of_mem (Nat.zero_le _) h13, clamp_of_mem (Nat.zero_le _) h14, clamp_of_mem (Nat.zero_le _) h15,
    clamp_of_mem (Nat.zero_le _) h16, clamp_of_mem h17.1 h17.2, clamp_of_mem h18.1 h18.2]

/-- A configuration taken; an active line that it disables becomes inactive (R179). -/
theorem setGpiConfig_eq (l : Line) (c : GpiConfig) (s : State) : setGpiConfig l c s = { s with
    live := { s.live with gpi := s.live.gpi.set l c }
    gpi := if c.enable then s.gpi else { s.gpi with lines := s.gpi.lines.set l none } } := by
  unfold setGpiConfig
  cases hc : c.enable
  · simp only [Bool.false_eq_true, if_false]
    rfl
  · simp only [if_true]

/-- A request that changes nothing the cadences depend on. -/
theorem request_changes {code : Nat} {fits : List Byte → Bool} {owner : List Byte → State → State} {body : List Byte}
    {s t : State} (h : Ready s) (hf : fits body = true) (ho : owner body (taken body s) = t) (ht : PollsShort t) :
    request code fits neverWaits owner body s = .next t := by
  rw [request_worked h hf rfl, ho, shortenPolls_eq ht]

end Sys2Proof.Machine

open Sys2Proof Sys2Proof.Machine

/-- Settles O44: each request answers the fields its owner reads (`request_answers`). -/
theorem statusRequestsReportAndChangeNothing : Obligations.StatusRequestsReportAndChangeNothing := by
  refine ⟨fun s p h hp => ⟨?_, ?_, ?_⟩, fun s h hp => ⟨?_, ?_, ?_, ?_⟩, fun s i r h hp hl hi hr hfirst hname => ⟨?_, ?_⟩,
    fun s i h hp hi hr => ?_, fun s p l h hp => ⟨?_, ?_, ?_⟩⟩
  · refine request_answers h hp rfl rfl ?_
    unfold portStatusOwner
    simp only [portOf_bPort, bList, List.append_assoc]
    rfl
  · refine request_answers h hp rfl rfl ?_
    unfold transportStatusOwner
    rw [portOf_bPort]
    rfl
  · refine request_answers h hp rfl rfl ?_
    unfold trackStatusOwner
    rw [portOf_bPort]
    rfl
  · exact request_answers h hp rfl rfl rfl
  · exact request_answers h hp rfl rfl rfl
  · exact request_answers h hp rfl rfl rfl
  · exact request_answers h hp rfl rfl rfl
  · have hentry : reelAt (taken (b1 (i + 1)) s) (byteAt (b1 (i + 1)) 0) = some (some r) := by
      rw [byteAt_b1 (by omega), reelAt_succ]
      exact hr
    refine request_answers h hp rfl ?_ ?_
    · unfold readReelWaits
      rw [waitsForList_idle hl, Bool.false_and]
    · unfold readReelOwner
      simp only [hentry]
      rw [byteAt_b1 (by omega)]
      rfl
  · have hlen : r.name.length < 256 := (nameValid_length hname).trans_lt (by decide)
    refine request_answers (fits := (nameFits · 0)) h hp (nameFits_bName hlen) ?_ ?_
    · unfold findReelWaits
      rw [waitsForList_idle hl, Bool.false_and, Bool.false_and]
    · unfold findReelOwner
      have hnamed : reelNamed (taken (bName r.name) s) r.name = some (i + 1) := reelNamed_of_first hr hfirst
      have hmounted : mountedPort (taken (bName r.name) s) (i + 1) = r.mounted := mountedPort_succ hr
      simp only [nameAt_bName hlen, hname, hnamed, hmounted]
      rfl
  · have hentry : reelAt (taken (b1 (i + 1)) s) (byteAt (b1 (i + 1)) 0) = some none := by
      rw [byteAt_b1 (by omega), reelAt_succ]
      exact hr
    refine request_answers h hp rfl ?_ ?_
    · unfold readReelWaits
      rw [hentry, Bool.and_false]
    · unfold readReelOwner
      simp only [hentry]
      rfl
  · exact request_answers h hp rfl rfl rfl
  · refine request_answers h hp rfl rfl ?_
    unfold readSettingsOwner
    rw [settingsPart_profile]
    rfl
  · refine request_answers h hp rfl rfl ?_
    unfold readSettingsOwner
    rw [settingsPart_gpi]
    rfl

/-- Settles O26: a profile is clamped (`clampProfile_of_right`), a configuration taken as it is sent. -/
theorem setProfileAndSetGpiTakeTheirValues : Obligations.SetProfileAndSetGpiTakeTheirValues := by
  refine ⟨fun s body p f h hp hl hport hf => ?_, fun s body l h hp hl hline hbyte => ?_, fun s body h hp hl hbad => ?_,
    fun s body h hp hl hport => ?_⟩
  · have hclamp : f = clampProfile (profileAt body 1) := hf
    refine ⟨?_, hclamp ▸ profileRight_clampProfile _, fun hr => hclamp.trans (clampProfile_of_right hr)⟩
    refine request_changes h (by simp [lengthIs, hl]) ?_ hp
    unfold setProfileOwner
    simp only [hport, ← hclamp]
    unfold doneOr
    by_cases he : f = profileAt body 1
    · simp [he]
      rfl
    · simp [he]
      rfl
  · refine request_changes h (by simp [lengthIs, hl]) ?_ hp
    unfold setGpiOwner
    simp only [hline, if_neg (Nat.not_le.2 hbyte), setGpiConfig_eq]
    rfl
  · refine request_answers h hp (by simp [lengthIs, hl]) rfl ?_
    unfold setGpiOwner
    split
    · rfl
    · rename_i hline
      exact if_pos (hbad.resolve_left (by simp [hline]))
  · refine request_answers h hp (by simp [lengthIs, hl]) rfl ?_
    unfold setProfileOwner
    rw [hport]
    rfl

end

-- ==== One deck's records put ====
section
/-! Work on one deck as a whole: a state with the records of one port put (`withDeck`), what the operations of the deck port and
the transport controller make of such a state, and how a command's work on one deck ends (R62). -/

namespace Sys2Proof.Machine

/-- The state with the records of one port and the pending notices put. -/
def withDeck (p : Port) (d : DeckPort) (t : Transport) (k : Tracker) (ch : Option Chase) (ns : List Notice) (s : State) :
    State :=
  { s with
    ports := s.ports.set p d, transports := s.transports.set p t, trackers := s.trackers.set p k
    chases := s.chases.set p ch, notices := ns }

section
variable {p q : Port} {d d' : DeckPort} {t t' : Transport} {k k' : Tracker} {ch ch' : Option Chase} {ns : List Notice}
  {s : State}

/-! ## Its records -/

/-- Every state has the records of each of its ports put. -/
theorem withDeck_self (p : Port) (s : State) :
    withDeck p (s.port p) (s.transport p) (s.tracker p) (s.chase p) s.notices s = s := by
  unfold withDeck State.port State.transport State.tracker State.chase
  simp only [PerPort.set_get]

@[simp] theorem withDeck_port : (withDeck p d t k ch ns s).port p = d := PerPort.get_set_self _ _ _
@[simp] theorem withDeck_transport : (withDeck p d t k ch ns s).transport p = t := PerPort.get_set_self _ _ _
@[simp] theorem withDeck_tracker : (withDeck p d t k ch ns s).tracker p = k := PerPort.get_set_self _ _ _
@[simp] theorem withDeck_chase : (withDeck p d t k ch ns s).chase p = ch := PerPort.get_set_self _ _ _
@[simp] theorem withDeck_holder : (withDeck p d t k ch ns s).holder q = s.holder q := rfl
@[simp] theorem withDeck_profile : (withDeck p d t k ch ns s).profile q = s.profile q := rfl
@[simp] theorem withDeck_std : (withDeck p d t k ch ns s).std = s.std := rfl
@[simp] theorem withDeck_notices : (withDeck p d t k ch ns s).notices = ns := rfl

/-- The records of the other ports. -/
theorem withDeck_ne (h : q ≠ p) : (withDeck p d t k ch ns s).port q = s.port q ∧
    (withDeck p d t k ch ns s).transport q = s.transport q ∧ (withDeck p d t k ch ns s).tracker q = s.tracker q ∧
    (withDeck p d t k ch ns s).chase q = s.chase q :=
  ⟨PerPort.get_set_ne _ _ h, PerPort.get_set_ne _ _ h, PerPort.get_set_ne _ _ h, PerPort.get_set_ne _ _ h⟩

/-! ## The single updates -/

@[simp] theorem withDeck_setPort : (withDeck p d t k ch ns s).setPort p d' = withDeck p d' t k ch ns s := by
  simp only [withDeck, State.setPort, PerPort.set_set]

@[simp] theorem withDeck_setTransport : (withDeck p d t k ch ns s).setTransport p t' = withDeck p d t' k ch ns s := by
  simp only [withDeck, State.setTransport, PerPort.set_set]

@[simp] theorem withDeck_setTracker : (withDeck p d t k ch ns s).setTracker p k' = withDeck p d t k' ch ns s := by
  simp only [withDeck, State.setTracker, PerPort.set_set]

@[simp] theorem withDeck_setChase : (withDeck p d t k ch ns s).setChase p ch' = withDeck p d t k ch' ns s := by
  simp only [withDeck, State.setChase, PerPort.set_set]

@[simp] theorem withDeck_raise (n : Notice) :
    raise n (withDeck p d t k ch ns s) = withDeck p d t k ch (putNotice n ns) s := rfl

@[simp] theorem withDeck_withNotices (ns' : List Notice) :
    withNotices ns' (withDeck p d t k ch ns s) = withDeck p d t k ch ns' s := rfl

/-- The deck port record put. -/
theorem setPort_eq_withDeck (p : Port) (d : DeckPort) (s : State) :
    s.setPort p d = withDeck p d (s.transport p) (s.tracker p) (s.chase p) s.notices s := by
  conv_lhs => rw [← withDeck_self p s]
  exact withDeck_setPort

/-! ## The operations of the deck port and the transport controller -/

/-- The DECK notice of a line, a transport state and a condition. -/
def deckNotice (p : Port) (l : LineState) (st : TransportState) (c : Option Condition) : Notice :=
  .deck p { line := l, transport := st, mode := c.map Condition.mode, threaded := c.map Condition.threaded,
            inhibit := c.map Condition.inhibit }

@[simp] theorem withDeck_raiseDeck (c : Option Condition) : raiseDeck p c (withDeck p d t k ch ns s) =
    withDeck p d t k ch (putNotice (deckNotice p d.line t.state c) ns) s := by
  unfold raiseDeck
  simp only [withDeck_port, withDeck_transport, withDeck_raise, deckNotice]

/-- A deck port to which a command was handed (R63, R69). -/
def handedPort (c : DeckCmd) (d : DeckPort) : DeckPort :=
  { d with
    permission := permissionAfter c d.permission
    commands := if d.line = .online then enqueue c d.commands else d.commands }

@[simp] theorem withDeck_handCommand (c : DeckCmd) :
    handCommand p c (withDeck p d t k ch ns s) = withDeck p (handedPort c d) t k ch ns s := by
  unfold handCommand
  simp only [withDeck_port, withDeck_setPort, handedPort]

/-- A transport record after a command was handed (R82, R88). -/
def handedTransport (c : DeckCmd) (t : Transport) : Transport :=
  { t with speed := commandSpeed c, lastKind := some (cmdKind c), standbyTimer := 0 }

/-- A tracker record after a command was handed to a deck with a transport record (R82, R115). -/
def handedTracker (settle : Nat) (c : DeckCmd) (t : Transport) (k : Tracker) : Tracker :=
  { k with settle := if changeMark t c then settle else k.settle }

@[simp] theorem withDeck_handTransport (c : DeckCmd) : handTransport p c (withDeck p d t k ch ns s) =
    withDeck p (handedPort c d) (handedTransport c t) (handedTracker (s.profile p).settle c t k) ch ns s := by
  unfold handTransport handedTracker
  simp only [withDeck_handCommand, withDeck_transport, withDeck_tracker, withDeck_setTransport, withDeck_profile,
    withDeck_setTracker]
  split
  · rfl
  · rfl

/-- A transport record whose deck has entered a state (R88). -/
def enteredTransport (st : TransportState) (t : Transport) : Transport :=
  { t with state := st, standbyTimer := if t.state = st then t.standbyTimer else 0 }

@[simp] theorem withDeck_enterState (st : TransportState) :
    enterState p st (withDeck p d t k ch ns s) = withDeck p d (enteredTransport st t) k ch ns s := by
  unfold enterState
  simp only [withDeck_transport, withDeck_setTransport, enteredTransport]

/-- A deck that enters a state and stands. -/
theorem withDeck_still (st : TransportState) :
    stillDeck p (enterState p st (withDeck p d t k ch ns s)) = withDeck p d (t.still st) k ch ns s := by
  rw [stillDeck_enterState, withDeck_transport, withDeck_setTransport]

@[simp] theorem withDeck_forgetPosition :
    forgetPosition p (withDeck p d t k ch ns s) = withDeck p d t { k with known := false } ch ns s := by
  unfold forgetPosition
  simp only [withDeck_tracker, withDeck_setTracker]

@[simp] theorem withDeck_removeChase : removeChase p (withDeck p d t k ch ns s) = withDeck p d t k none ns s := withDeck_setChase

@[simp] theorem withDeck_setLine0 (l : LineState) : setLine0 p l (withDeck p d t k ch ns s) =
    withDeck p { d with line := l, commands := if l = .online then d.commands else [] } t k ch ns s := by
  unfold setLine0
  simp only [withDeck_port, withDeck_setPort]

/-- A deck that the sequencer does not hold is not reported to it. -/
theorem faultHeld_of_ne (h : s.holder p ≠ .sequencer) : faultHeld p s = s := if_neg h

/-- A transport record whose line has fallen (R76). -/
def Transport.fallen (st : TransportState) (t : Transport) : Transport :=
  { t.still st with cue := none, motion := none, wakeCount := 0, wakeTaken := false }

/-- The fall of a line. -/
theorem withDeck_lineDown (h : s.holder p ≠ .sequencer) (st : TransportState) :
    lineDown p st (withDeck p d t k ch ns s) = withDeck p d (t.fallen st) { k with known := k.known && decide (st ≠ .offline) }
      (if st = .offline then ch else none) (failureNotices p .line t ns) s := by
  rw [lineDown_eq, faultHeld_of_ne]
  · unfold lineFallen
    simp only [withDeck_transport, withDeck_setTransport, withDeck_notices, withDeck_withNotices]
    split
    · rename_i hst
      simp [hst, Transport.fallen]
    · rename_i hst
      simp [hst, Transport.fallen]
  · unfold lineFallen
    split
    · exact h
    · exact h

/-- Entry to OFFLINE (R65). -/
theorem withDeck_goOffline (h : s.holder p ≠ .sequencer) : goOffline p (withDeck p d t k ch ns s) =
    withDeck p { d with line := .offline, commands := [], countdown := 25 } (t.fallen .offline) { k with known := false } ch
      (putNotice (deckNotice p .offline .offline (d.lastReply.map StoredReply.condition)) (failureNotices p .line t ns)) s := by
  unfold goOffline
  simp only [withDeck_setLine0, withDeck_port, withDeck_setPort, withDeck_lineDown h, withDeck_raiseDeck, reduceCtorEq, if_false,
    if_true, ne_eq, not_true, decide_false, Bool.and_false, Transport.fallen, Transport.still]

/-- A RELEASE that waits for a held port is overridden (R89). -/
theorem withDeck_overrideRelease (hh : s.holder p ≠ .free) (hc : DeckCmd.release ∈ d.commands) :
    overrideRelease p (withDeck p d t k ch ns s) = withDeck p (handedPort .halt d)
      { enteredTransport .idle (handedTransport .halt t) with cue := none, motion := none }
      (handedTracker (s.profile p).settle .halt t k) ch ns s := by
  unfold overrideRelease
  rw [if_pos ⟨hh, by simpa using hc⟩]
  simp only [withDeck_handTransport, withDeck_enterState, withDeck_transport, withDeck_setTransport]

/-- No RELEASE waits, or the port is FREE. -/
theorem overrideRelease_of_not (h : s.holder p = .free ∨ DeckCmd.release ∉ (s.port p).commands) : overrideRelease p s = s :=
  if_neg fun ⟨h1, h2⟩ => h.elim h1 fun hc => hc (by simpa using h2)

/-! ## The end of a command's work on one deck (R62) -/

/-- Other ports' countdowns are short as they were. -/
theorem shortenPolls_withDeck (hs : PollsShort s) (hd : d.countdown ≤ cadence (withDeck p d t k ch ns s) p) :
    shortenPolls (withDeck p d t k ch ns s) = withDeck p d t k ch ns s := by
  refine shortenPolls_eq fun q _ => ?_
  by_cases hq : q = p
  · subst hq
    rwa [withDeck_port]
  · obtain ⟨h1, h2, -, h4⟩ := withDeck_ne (d := d) (t := t) (k := k) (ch := ch) (ns := ns) (s := s) hq
    rw [cadence_congr h1 h2 h4 rfl, h1]
    exact hs q (mem_allPorts q)

/-- The countdown does not matter to the cadence. -/
theorem cadence_countdown (n : Nat) :
    cadence (withDeck p { d with countdown := n } t k ch ns s) p = cadence (withDeck p d t k ch ns s) p := by
  unfold cadence
  simp only [withDeck_port, withDeck_transport, withDeck_chase, withDeck_holder]
  rfl

/-- The countdown of a port loaded. -/
theorem withDeck_reload : reload p (withDeck p d t k ch ns s) =
    withDeck p { d with countdown := cadence (withDeck p d t k ch ns s) p } t k ch ns s := by
  unfold reload
  rw [withDeck_port, withDeck_setPort]

/-- `u` is the state `s` with the records of a port and the notices put. -/
structure DeckPut (p : Port) (d : DeckPort) (t : Transport) (k : Tracker) (ch : Option Chase) (ns : List Notice) (s u : State) :
    Prop where
  ports : u.ports = s.ports.set p d
  transports : u.transports = s.transports.set p t
  trackers : u.trackers = s.trackers.set p k
  chases : u.chases = s.chases.set p ch
  notices : u.notices = ns
  rest : { u with ports := s.ports, transports := s.transports, trackers := s.trackers, chases := s.chases,
                  notices := s.notices } = s

/-- The records put are as they were put. -/
theorem deckPut_withDeck : DeckPut p d t k ch ns s (withDeck p d t k ch ns s) := ⟨rfl, rfl, rfl, rfl, rfl, rfl⟩

namespace DeckPut

variable {u : State}

/-- The port's record. -/
theorem port (h : DeckPut p d t k ch ns s u) : u.port p = d := by
  rw [State.port, h.ports, PerPort.get_set_self]

/-- The transport record. -/
theorem transport (h : DeckPut p d t k ch ns s u) : u.transport p = t := by
  rw [State.transport, h.transports, PerPort.get_set_self]

/-- The tracker record. -/
theorem tracker (h : DeckPut p d t k ch ns s u) : u.tracker p = k := by
  rw [State.tracker, h.trackers, PerPort.get_set_self]

/-- The chase record. -/
theorem chase (h : DeckPut p d t k ch ns s u) : u.chase p = ch := by
  rw [State.chase, h.chases, PerPort.get_set_self]

/-- The records of the other ports. -/
theorem other (h : DeckPut p d t k ch ns s u) :
    ∀ q ∈ allPorts, q ≠ p → u.port q = s.port q ∧ u.transport q = s.transport q ∧ u.tracker q = s.tracker q := by
  intro q _ hq
  simp only [State.port, State.transport, State.tracker, h.ports, h.transports, h.trackers, PerPort.get_set_ne _ _ hq, and_self]

/-- With the chase records as they were. -/
theorem unchased (h : DeckPut p d t k ch ns s u) (hc : ch = s.chase p) :
    { u with ports := s.ports, transports := s.transports, trackers := s.trackers, notices := s.notices } = s := by
  have hch : u.chases = s.chases := h.chases.trans (by rw [hc]; exact PerPort.set_get _ _)
  have := h.rest
  rwa [← hch] at this

/-- With the chase records and the notices as they were. -/
theorem unmarked (h : DeckPut p d t k ch ns s u) (hc : ch = s.chase p) (hn : ns = s.notices) :
    { u with ports := s.ports, transports := s.transports, trackers := s.trackers } = s := by
  have := h.unchased hc
  rwa [← hn, ← h.notices] at this

/-- With all but the port's record as it was. -/
theorem portAlone (h : DeckPut p d (s.transport p) (s.tracker p) (s.chase p) s.notices s u) : { u with ports := s.ports } = s := by
  have ht : u.transports = s.transports := h.transports.trans (PerPort.set_get _ _)
  have hk : u.trackers = s.trackers := h.trackers.trans (PerPort.set_get _ _)
  have := h.unmarked rfl rfl
  rwa [← ht, ← hk] at this

end DeckPut

/-- A command's work that puts the records of one deck and loads its countdown. -/
theorem work_withDeck_reload {f : State → State} {s0 : State} (hr : s0.inReset = false) (hs : PollsShort s)
    (hf : f s0 = reload p (withDeck p d t k ch ns s)) :
    ∃ u, work f s0 = .next u ∧ DeckPut p { d with countdown := cadence u p } t k ch ns s u := by
  have hc := cadence_countdown (p := p) (d := d) (t := t) (k := k) (ch := ch) (ns := ns) (s := s)
    (cadence (withDeck p d t k ch ns s) p)
  refine ⟨withDeck p { d with countdown := cadence (withDeck p d t k ch ns s) p } t k ch ns s, ?_, ?_⟩
  · rw [work_running hr, hf, withDeck_reload, shortenPolls_withDeck hs hc.ge]
  · rw [hc]
    exact deckPut_withDeck

end
end Sys2Proof.Machine
end

-- ==== Polls and misses ====
section
/-! The poll moment (R61), a miss and the end of the fourth one (R64, R65), and the obligations about them. -/

namespace Sys2Proof.Machine

section
variable {p : Port} {s : State} {x : Exchange}

/-- Works that do the same to a state. -/
theorem work_congr {f g : State → State} (h : f s = g s) : work f s = work g s := by rw [work_eq, work_eq, h]

/-- The cadences leave the transport records. -/
theorem transport_shortenPolls (u : State) : (shortenPolls u).transport = u.transport := rfl

/-! ## The poll moment (R61) -/

/-- The record of a port whose exchange was opened with a command. -/
def polledPort (c : DeckCmd) (s : State) (d : DeckPort) : DeckPort :=
  { d with exchange := some { cmd := c, frame := s.frame }, commands := d.commands.tail, sent := cmdFrame s.std c }

/-- The moment opens an exchange. -/
theorem pollWork_open (hc : (s.port p).countdown = 0) (hx : (s.port p).exchange = none) :
    pollWork p s = s.setPort p (polledPort ((s.port p).commands.head?.getD .status) s (s.port p)) :=
  if_pos ⟨hc, hx⟩

/-- The moment finds the countdown running or an exchange open. -/
theorem pollWork_idle (h : (s.port p).countdown ≠ 0 ∨ (s.port p).exchange ≠ none) : pollWork p s = s :=
  if_neg fun ⟨hc, hx⟩ => h.elim (· hc) (· hx)

/-! ## A miss (R64) -/

/-- Which commands return. -/
theorem returned_eq (c : DeckCmd) (ds : List DeckCmd) :
    returned c ds = if cmdKind c ≠ .status ∧ cmdKind c ≠ .engage ∧ (∀ d ∈ ds, recordClass d ≠ recordClass c) then c :: ds
      else ds := by
  have newer (c : DeckCmd) : (if ds.any (fun d => recordClass d = recordClass c) then ds else c :: ds)
      = if ∀ d ∈ ds, recordClass d ≠ recordClass c then c :: ds else ds := by
    by_cases h : ∀ d ∈ ds, recordClass d ≠ recordClass c
    · rw [if_pos h, if_neg (by simpa using h)]
    · rw [if_neg h, if_pos (by simpa using h)]
  cases c with
  | status => exact (if_neg fun h => h.1 rfl).symm
  | engage t => exact (if_neg fun h => h.2.1 rfl).symm
  | _ => exact (newer _).trans (by simp [cmdKind])

/-- A command other than a RELEASE returns as no RELEASE. -/
theorem release_not_mem_missedPort (hx : x.cmd ≠ .release) {d : DeckPort} (hd : DeckCmd.release ∉ d.commands) :
    DeckCmd.release ∉ (missedPort x d).commands := by
  have hr : DeckCmd.release ∉ returned x.cmd d.commands := by
    rcases returned_cases x.cmd d.commands with h | h
    · rwa [h]
    · rw [h.1]
      exact fun hmem => (List.mem_cons.mp hmem).elim (fun e => hx e.symm) hd
  unfold missedPort
  dsimp only
  split
  · exact hr
  · exact hd

/-- A RELEASE that returns, no line and state command waiting, gives way to a HALT. -/
theorem enqueue_halt_returned_release {ds : List DeckCmd} (h : ∀ d ∈ ds, recordClass d = true) :
    returned .release ds = .release :: ds ∧ enqueue .halt (.release :: ds) = .halt :: ds := by
  refine ⟨?_, rfl⟩
  rw [returned_eq, if_pos ⟨nofun, nofun, fun d hd => by rw [h d hd]; nofun⟩]

/-- What ends an exchange without a good reply. -/
theorem endExchange_none (hx : (s.port p).exchange = some x) :
    endExchange p none s = reload p (miss p x.cmd (closeExchange p s)) := by
  unfold endExchange
  rw [hx]

/-- A miss that leaves the port as it is otherwise. -/
theorem miss_quiet (hn : min 4 ((s.port p).misses + 1) < 4 ∨ (s.port p).line = .offline)
    (hr : s.holder p = .free ∨ (x.cmd ≠ .release ∧ DeckCmd.release ∉ (s.port p).commands)) :
    miss p x.cmd (closeExchange p s) = s.setPort p (missedPort x (s.port p)) := by
  have hnot : ¬ (min 4 ((s.port p).misses + 1) = 4 ∧ (s.port p).line ≠ .offline) :=
    fun ⟨h4, hl⟩ => hn.elim (fun h => absurd h4 h.ne) hl
  rw [miss_closeExchange, if_neg hnot, overrideRelease_of_not]
  rw [State.setPort_self]
  exact hr.imp id fun ⟨hx, hd⟩ => release_not_mem_missedPort hx hd

/-- The fourth miss in a row (R65). -/
theorem miss_fourth (hm : (s.port p).misses = 3) (hl : (s.port p).line ≠ .offline) :
    miss p x.cmd (closeExchange p s) = goOffline p (s.setPort p (missedPort x (s.port p))) := by
  rw [miss_closeExchange, if_pos ⟨by omega, hl⟩]

/-- A RELEASE returns to a held port: the deck gets a HALT and stands, its motions forgotten (R89). -/
theorem endExchange_released (hx : (s.port p).exchange = some x) (hl : (s.port p).line = .online)
    (hm : (s.port p).misses < 3) (hh : s.holder p ≠ .free) (hrel : x.cmd = .release)
    (hcls : ∀ d ∈ (s.port p).commands, recordClass d = true) :
    endExchange p none s = reload p (withDeck p
      { missedPort x (s.port p) with commands := .halt :: (s.port p).commands }
      { enteredTransport .idle (handedTransport .halt (s.transport p)) with cue := none, motion := none }
      (handedTracker (s.profile p).settle .halt (s.transport p) (s.tracker p)) (s.chase p) s.notices s) := by
  obtain ⟨hret, henq⟩ := enqueue_halt_returned_release hcls
  have hcmds : (missedPort x (s.port p)).commands = .release :: (s.port p).commands := by
    rw [missedPort, if_pos hl, hrel, hret]
  have hnot : ¬ (min 4 ((s.port p).misses + 1) = 4 ∧ (s.port p).line ≠ .offline) := fun h => absurd h.1 (by omega)
  have hport : handedPort .halt (missedPort x (s.port p)) =
      { missedPort x (s.port p) with commands := .halt :: (s.port p).commands } := by
    have hline : (missedPort x (s.port p)).line = .online := hl
    rw [handedPort, hcmds, henq, if_pos hline]
    rfl
  rw [endExchange_none hx, miss_closeExchange, if_neg hnot, setPort_eq_withDeck,
    withDeck_overrideRelease hh (hcmds ▸ List.mem_cons_self), hport]

/-! ## The port taken OFFLINE (R65) -/

/-- The notices of a port that goes OFFLINE. -/
def offlineNotices (p : Port) (s : State) : List Notice :=
  putNotice (deckNotice p .offline .offline ((s.port p).lastReply.map StoredReply.condition))
    (failureNotices p .line (s.transport p) s.notices)

/-- The record of a port that went OFFLINE. -/
def offlinePort (d : DeckPort) : DeckPort := { d with line := .offline, commands := [], countdown := 25 }

/-- The state after the port went OFFLINE. -/
def offlineDeck (p : Port) (d : DeckPort) (s : State) : State :=
  withDeck p (offlinePort d) ((s.transport p).fallen .offline) { s.tracker p with known := false } (s.chase p)
    (offlineNotices p s) s

/-- A port goes OFFLINE whose record was put before. -/
theorem goOffline_setPort (h : s.holder p ≠ .sequencer) {d : DeckPort} (hd : d.lastReply = (s.port p).lastReply) :
    goOffline p (s.setPort p d) = offlineDeck p d s := by
  unfold offlineDeck offlinePort offlineNotices
  rw [setPort_eq_withDeck, withDeck_goOffline h, ← hd]

/-- A port goes OFFLINE. -/
theorem goOffline_eq (h : s.holder p ≠ .sequencer) : goOffline p s = offlineDeck p (s.port p) s := by
  have hself : s.setPort p (s.port p) = s := by rw [setPort_eq_withDeck, withDeck_self]
  rw [← goOffline_setPort h rfl, hself]

/-- The countdown of a port that went OFFLINE is the cadence. -/
theorem cadence_offline {d : DeckPort} {t : Transport} {k : Tracker} {ch : Option Chase} {ns : List Notice}
    (h : d.line = .offline) : cadence (withDeck p d t k ch ns s) p = 25 := by
  unfold cadence
  simp only [withDeck_port, h, if_true]

/-- The work of PORT_OFFLINE after four misses. -/
theorem portOfflineWork_eq (hm : (s.port p).misses = 4) (hl : (s.port p).line ≠ .offline) (hh : s.holder p ≠ .sequencer) :
    portOfflineWork p s = offlineDeck p (s.port p) s := by
  unfold portOfflineWork
  rw [if_pos ⟨hm.ge, hl⟩, goOffline_eq hh]

/-- The countdowns after a port went OFFLINE. -/
theorem shortenPolls_offlineDeck (hs : PollsShort s) (d : DeckPort) :
    shortenPolls (offlineDeck p d s) = offlineDeck p d s := shortenPolls_withDeck hs (cadence_offline rfl).ge

/-- The work of the fourth miss in a row. -/
theorem endExchange_fourth (hx : (s.port p).exchange = some x) (hm : (s.port p).misses = 3) (hl : (s.port p).line ≠ .offline)
    (hh : s.holder p ≠ .sequencer) : endExchange p none s = reload p (offlineDeck p (missedPort x (s.port p)) s) := by
  rw [endExchange_none hx, miss_fourth hm hl, goOffline_setPort (d := missedPort x (s.port p)) hh rfl]

/-- The DECK notice of a port that goes OFFLINE. -/
theorem deck_mem_offlineNotices (p : Port) (s : State) : Notice.deck p {
    line := .offline, transport := .offline
    mode := (s.port p).lastReply.map (fun r => r.condition.mode)
    threaded := (s.port p).lastReply.map (fun r => r.condition.threaded)
    inhibit := (s.port p).lastReply.map (fun r => r.condition.inhibit) } ∈ offlineNotices p s := by
  have h := putNotice_mem (deckNotice p .offline .offline ((s.port p).lastReply.map StoredReply.condition))
    (failureNotices p .line (s.transport p) s.notices)
  unfold deckNotice at h
  rw [Option.map_map, Option.map_map, Option.map_map] at h
  unfold offlineNotices deckNotice
  rw [Option.map_map, Option.map_map, Option.map_map]
  exact h

end
end Sys2Proof.Machine

open Sys2Proof Sys2Proof.Machine

/-- Settles O37: a port whose countdown is 0 has it short after the poll, and the slots follow the order of the pending
commands. -/
theorem pollMomentSendsTheOldestCommand : Obligations.PollMomentSendsTheOldestCommand := by
  refine ⟨?_, ?_, ?_, ?_⟩
  · intro s p c hr hs hc hx rfl
    refine (work_running_eq hr (pollWork_open hc hx)).trans ?_
    rw [setPort_eq_withDeck, shortenPolls_withDeck hs (by rw [polledPort, hc]; exact Nat.zero_le _),
      ← setPort_eq_withDeck]
    rfl
  · intro s p hs h
    exact work_idle hs (pollWork_idle h)
  · intro s p c
    refine (handCommand_port p p c s).trans ((if_pos rfl).trans ?_)
    cases c <;> rfl
  · intro c d a b h
    refine ⟨by simpa [enqueue] using enqueue_append c h [], fun hd => ?_⟩
    rw [enqueue_append c h]
    simp [enqueue, hd]

/-- Settles O39: a miss puts the port's record alone, and the fourth one the records of the deck. -/
theorem missesReturnCommandsAndTheFourthTakesThePortOffline :
    Obligations.MissesReturnCommandsAndTheFourthTakesThePortOffline := by
  refine ⟨?_, ?_, ?_, ?_, ?_, ?_, ?_⟩
  · intro s p x n hr hs hx hn hquiet hrel
    subst hn
    have hf : endExchange p none s = reload p (withDeck p (missedPort x (s.port p)) (s.transport p)
        (s.tracker p) (s.chase p) s.notices s) := by
      rw [endExchange_none hx, miss_quiet hquiet hrel, setPort_eq_withDeck]
    obtain ⟨t, ht, put⟩ := work_withDeck_reload (s0 := s) hr hs hf
    refine ⟨t, ht, ?_, put.other, ?_⟩
    · rw [put.port]
      simp only [missedPort, returned_eq]
      split
      · simp_all
      · simp_all
    · exact put.portAlone
  · intro s p x hr hx hl hm hh hrel hcls
    have hf := endExchange_released hx hl hm hh hrel hcls
    refine ⟨_, work_running_eq hr hf, ?_⟩
    rw [withDeck_reload, shortenPolls_port, withDeck_port, transport_shortenPolls, withDeck_transport]
    exact ⟨rfl, rfl, rfl, rfl⟩
  · intro s p x hr hs hx hm hl hh
    obtain ⟨t, ht, put⟩ := work_withDeck_reload hr hs (endExchange_fourth hx hm hl hh)
    have hc : cadence t p = 25 := by
      unfold cadence
      rw [put.port]
      rfl
    refine ⟨t, ht, ?_, put.transport, put.tracker, ?_, put.other, put.unchased rfl⟩
    · rw [put.port, hc]
      simp [offlinePort, missedPort, hm]
    · rw [put.notices]
      exact deck_mem_offlineNotices p s
  · intro s p hr hs hm hl hh
    have put := deckPut_withDeck (p := p) (d := offlinePort (s.port p)) (t := (s.transport p).fallen .offline)
      (k := { s.tracker p with known := false }) (ch := s.chase p) (ns := offlineNotices p s) (s := s)
    refine ⟨offlineDeck p (s.port p) s, ?_, put.port, put.transport, put.tracker, deck_mem_offlineNotices p s, put.other,
      put.unchased rfl⟩
    exact (work_running_eq hr (portOfflineWork_eq hm hl hh)).trans (by rw [shortenPolls_offlineDeck hs])
  · intro s p hs hx
    refine work_idle hs ?_
    unfold endExchange
    rw [hx]
  · intro s p hs h
    exact work_idle hs (if_neg fun ⟨hm, hl⟩ => h.elim (fun h4 => by omega) hl)
  · intro s p x chars hx hnone
    refine work_congr ?_
    unfold deckReplyWork
    simp only [hx, hnone]
end

-- ==== A deck that comes back from LOCAL while it settles ====
section
/-! The counterexample to O57: the HALT handed to a deck that comes back from LOCAL and moves starts a settle count of 0 where
the profile says so, and the count that ran before no longer keeps the sample from its test. -/

namespace Sys2Proof.Machine

/-- A port in LOCAL with a STATUS in flight, its deck at a known position and inside its settle count; the port's profile has a
settle count of 0 (R72). -/
def settlingPanel : State :=
  { State.reset with
    inReset := false
    ports := .const { DeckPort.initial with line := .panel, misses := 0, exchange := some ⟨.status, 0⟩ }
    transports := .const { Transport.initial with state := .panel, lastKind := some .play }
    trackers := .const { Tracker.initial with known := true, settle := 2 }
    live := { State.reset.live with profiles := .const { Profile.defaults with settle := 0 } } }

/-- The condition of a deck that moves, its remote flag set. -/
def movingRemote : Condition := ⟨.moving, true, true, false, true, 0⟩

/-- The profile of the counterexample lies in the ranges of R72. -/
theorem profileRight_settlingPanel : ProfileRight (settlingPanel.profile .p2) := by
  unfold ProfileRight
  decide +kernel

/-- The positions known after a command. -/
def positionAfter (p : Port) : Result → Option Nat
  | .next t => some (t.tracker p).position
  | _ => none

/-- The model takes the sample of such a deck for implausible and keeps the old position. -/
theorem positionAfter_settlingPanel :
    positionAfter .p2 (exec (.deckReply .p2 (replyChars .f30D .status movingRemote 6400)) settlingPanel) = some 0 := by
  decide +kernel

end Sys2Proof.Machine

open Sys2Proof Sys2Proof.Machine

/-- Refutes O57: its second clause takes every sample of a deck that comes back from LOCAL inside its settle count, but the HALT
handed to a moving deck loads the count of the profile, and with a count of 0 the sample is tested and dropped as implausible. -/
theorem not_repliesThatChangeTheLineOrFindStandby : ¬ Obligations.RepliesThatChangeTheLineOrFindStandby := by
  rintro ⟨-, back, -⟩
  obtain ⟨t, ht, -, -, htracker, -⟩ := back settlingPanel .p2 ⟨.status, 0⟩ movingRemote 6400
    (replyChars .f30D .status movingRemote 6400) (by decide +kernel) (by unfold PollsShort; decide +kernel) (by decide +kernel)
    (by decide +kernel) (by decide +kernel) (by decide +kernel) (by decide +kernel) (by decide +kernel) (by decide +kernel)
    (by decide +kernel) (by decide +kernel) (by decide +kernel) (by decide +kernel) (by decide +kernel)
  have hkept := positionAfter_settlingPanel
  rw [ht] at hkept
  simp [positionAfter, htracker] at hkept
end

-- ==== Good replies, stage by stage ====
section
/-! What a good reply does on a deck the sequencer does not hold (R66 to R69, R77 to R80, R85, R107, R113), stage by stage on the
records of the deck, and the obligations about it. -/

namespace Sys2Proof.Machine

section
variable {p : Port} {d : DeckPort} {t : Transport} {k : Tracker} {ch : Option Chase} {ns : List Notice} {s : State}
  {x : Exchange} {c : Condition} {pos : Nat}

/-! ## The stages -/

/-- The record of a port after a good reply (R66). -/
def repliedPort (x : Exchange) (c : Condition) (pos : Nat) (d : DeckPort) : DeckPort :=
  { d with exchange := none, misses := 0, lastReply := some { condition := c, position := pos, frame := x.frame } }

/-- The transport record after the condition was kept (R80). -/
def Transport.reported (c : Condition) (t : Transport) : Transport := { t with condition := some c }

/-- The exchange ended by a good reply. -/
theorem deckReplyWork_good {chars : List LineChar} (hx : (s.port p).exchange = some x)
    (hread : readReply s.std (cmdKind x.cmd) chars = some (c, pos)) :
    deckReplyWork p chars s = reload p (goodReply p x c pos (closeExchange p s)) := by
  unfold deckReplyWork endExchange
  simp only [hx, hread]

/-- The first stage: misses 0, and what the remote flag does to the line. -/
theorem closeExchange_misses (p : Port) (s : State) :
    (closeExchange p s).setPort p { (closeExchange p s).port p with misses := 0 } =
      withDeck p { s.port p with exchange := none, misses := 0 } (s.transport p) (s.tracker p) (s.chase p) s.notices s := by
  unfold closeExchange
  rw [State.setPort_setPort, State.setPort_self, ← setPort_eq_withDeck]

/-- The reply of a deck with a tape, the line's work and the sample known. -/
theorem goodReply_stages {k' : Tracker} {ch' : Option Chase} (hmode : c.mode ≠ .noTape)
    (hline : lineReply p c (withDeck p { s.port p with exchange := none, misses := 0 } (s.transport p) (s.tracker p) (s.chase p)
      s.notices s) = withDeck p d t k ch ns s)
    (htake : takeSample p (sampleTested k t) pos (withDeck p { d with lastReply := some ⟨c, pos, x.frame⟩ } t k ch ns s) =
      withDeck p { d with lastReply := some ⟨c, pos, x.frame⟩ } t k' ch' ns s) :
    goodReply p x c pos (closeExchange p s) = recordGuard p x.cmd c (conditionChange p t.condition c
      (modeReply p (cmdKind x.cmd) c pos (withDeck p { d with lastReply := some ⟨c, pos, x.frame⟩ } (t.reported c) k' ch' ns s))) := by
  unfold goodReply takeCondition
  simp only [closeExchange_misses, hline, hmode, if_false, withDeck_port, withDeck_setPort, withDeck_tracker, withDeck_transport,
    htake, withDeck_setTransport, Transport.reported]

/-- The reply of an ONLINE deck whose remote flag stays leaves the line. -/
theorem lineReply_online {u : State} (hl : (u.port p).line = .online) (hrem : c.remote = true) : lineReply p c u = u := by
  unfold lineReply
  rw [hl, hrem]

/-- The reply of an ONLINE deck with a tape, the sample known. -/
theorem goodReply_online {k' : Tracker} {ch' : Option Chase} (hl : (s.port p).line = .online) (hrem : c.remote = true)
    (hmode : c.mode ≠ .noTape)
    (htake : takeSample p (sampleTested (s.tracker p) (s.transport p)) pos (withDeck p (repliedPort x c pos (s.port p))
      (s.transport p) (s.tracker p) (s.chase p) s.notices s) =
      withDeck p (repliedPort x c pos (s.port p)) (s.transport p) k' ch' s.notices s) :
    goodReply p x c pos (closeExchange p s) = recordGuard p x.cmd c (conditionChange p (s.transport p).condition c
      (modeReply p (cmdKind x.cmd) c pos (withDeck p (repliedPort x c pos (s.port p)) ((s.transport p).reported c) k' ch'
        s.notices s))) :=
  goodReply_stages hmode (lineReply_online (by rw [withDeck_port]; exact hl) hrem) htake

/-! ## The sample (R113, R114) -/

/-- A sample accepted. -/
theorem takeSample_accepted {tested : Bool}
    (h : tested = false ∨ (posDiff s.std pos k.position).natAbs ≤ (s.profile p).plausibility * 64) :
    takeSample p tested pos (withDeck p d t k ch ns s) = withDeck p d t (acceptSample pos k) ch ns s := by
  unfold takeSample
  simp only [withDeck_tracker, withDeck_std, withDeck_profile, withDeck_setTracker]
  refine if_pos ?_
  rcases h with rfl | h
  · rfl
  · rw [plausible, decide_eq_true h, Bool.or_true]

/-- A sample touches the tracker and chase records alone. -/
theorem takeSample_some (tested : Bool) (pos : Nat) : ∃ k' ch', takeSample p tested pos (withDeck p d t k ch ns s) =
    withDeck p d t k' ch' ns s := by
  unfold takeSample jump
  simp only [withDeck_tracker, withDeck_std, withDeck_profile, withDeck_setTracker, withDeck_chase, withDeck_setChase]
  split
  · exact ⟨_, _, rfl⟩
  · split
    · split
      · exact ⟨_, _, rfl⟩
      · exact ⟨_, _, rfl⟩
    · exact ⟨_, _, rfl⟩

/-- In the other states the sample is not tested. -/
theorem sampleTested_eq_false (h : t.state ∉ [.idle, .parked, .rolling, .winding]) (k : Tracker) : sampleTested k t = false := by
  unfold sampleTested
  cases ht : t.state <;> simp [ht] at h ⊢

/-! ## The flags and the guard (R69, R80) -/

/-- Flags as before. -/
theorem conditionChange_quiet {old : Option Condition} {u : State} (hh : u.holder p ≠ .sequencer)
    (h : ∀ o ∈ old, o.threaded = c.threaded ∧ o.inhibit = c.inhibit) : conditionChange p old c u = u := by
  unfold conditionChange
  cases old with
  | none => rfl
  | some o =>
    obtain ⟨h1, h2⟩ := h o rfl
    simp [h1, h2, hh]

/-- A change of the flags raises a DECK notice at most. -/
theorem conditionChange_cases {u : State} (hh : u.holder p ≠ .sequencer) (old : Option Condition) (c : Condition) :
    conditionChange p old c u = u ∨ conditionChange p old c u = raiseDeck p (some c) u := by
  have hh' : (raiseDeck p (some c) u).holder p ≠ .sequencer := hh
  unfold conditionChange
  cases old with
  | none => exact .inl rfl
  | some o =>
    dsimp only
    split
    · exact .inr rfl
    · exact .inl rfl

/-- No recording, or a permitted one. -/
theorem recordGuard_quiet {sent : DeckCmd} {u : State} (h : c.tracks = 0 ∨ (u.port p).permission = true) :
    recordGuard p sent c u = u := by
  rcases recordGuard_cases p sent c u with ⟨-, -, ht, hp, -⟩ | h'
  · rcases h with h | h
    · exact absurd h ht
    · exact absurd (hp.symm.trans h) nofun
  · exact h'

/-! ## The mode (R77 to R79, R85) -/

/-- A deck at rest or in motion with a tape. -/
theorem modeReply_kept {u : State} (kind : CmdKind) (h : (u.transport p).state ∈ [.idle, .parked, .rolling, .winding])
    (hmode : c.mode ≠ .noTape ∧ c.mode ≠ .standby) : modeReply p kind c pos u = u := by
  obtain ⟨h1, h2⟩ := hmode
  simp only [List.mem_cons, List.not_mem_nil, or_false] at h
  unfold modeReply
  rcases h with h | h | h | h <;> cases hm : c.mode <;> simp_all

/-- A CUEING deck with a tape. -/
theorem modeReply_cueing {u : State} (kind : CmdKind) (h : (u.transport p).state = .cueing)
    (hmode : c.mode ≠ .noTape ∧ c.mode ≠ .standby) : modeReply p kind c pos u = cueReply p kind c pos u := by
  obtain ⟨h1, h2⟩ := hmode
  unfold modeReply
  rw [h]
  cases hm : c.mode <;> simp_all

end
end Sys2Proof.Machine
end

-- ==== The replies of a CUEING deck ====
section
/-! How a cue is acknowledged, verified, tried again and given up on the records of its deck (R85, R86, R128, R131, R152), and the
obligation about it. -/

namespace Sys2Proof.Machine

section
variable {p : Port} {d : DeckPort} {t : Transport} {k : Tracker} {ch : Option Chase} {ns : List Notice} {s : State}
  {q : Cue} {kind : CmdKind} {c : Condition} {pos : Nat}

/-! ## What CHASE and SEQUENCER make of a cue's end -/

/-- The chase record of a chaser whose cue succeeded (R128). -/
def cuedChase (w : Requester) (ch : Option Chase) : Option Chase :=
  if w = .chase then ch.map (fun r => if r.kind = .manual ∧ r.state = .seeking then { r with state := .waiting } else r) else ch

/-- The chase record of a chaser whose cue failed (R131). -/
def uncuedChase (w : Requester) (ch : Option Chase) : Option Chase :=
  if w = .chase then ch.filter (fun r => !(r.kind = .manual && (r.state = .seeking || r.state = .parked))) else ch

/-- The sequencer record after a deck's cue succeeded (R144). -/
def cuedSeq (p : Port) (w : Requester) (s : State) : Sequencer :=
  if w = .sequencer then { s.seq with parked :=
      if (∃ x ∈ liveEdit s, p ∈ deckPorts x.decks) ∧ s.seq.phase = .cueing ∧ p ∉ s.seq.parked then s.seq.parked ++ [p]
      else s.seq.parked }
  else s.seq

/-- The report of a success to CHASE. -/
theorem withDeck_chaseCued : chaseCued p (withDeck p d t k ch ns s) = withDeck p d t k (cuedChase .chase ch) ns s := by
  unfold chaseCued cuedChase
  rw [withDeck_chase, if_pos rfl]
  cases ch with
  | none => rfl
  | some r =>
    dsimp only [Option.map_some]
    split
    · exact withDeck_setChase
    · rfl

/-- Whether a port is a deck of the edit. -/
theorem inEdit_iff : inEdit s p = true ↔ ∃ x ∈ liveEdit s, p ∈ deckPorts x.decks := by
  unfold inEdit
  cases liveEdit s <;> simp

/-- The report of a success to SEQUENCER. -/
theorem withDeck_seqCued : seqCued p (withDeck p d t k ch ns s) =
    withDeck p d t k ch ns { s with seq := cuedSeq p .sequencer s } := by
  have hin : inEdit (withDeck p d t k ch ns s) p = inEdit s p := rfl
  have hseq : (withDeck p d t k ch ns s).seq = s.seq := rfl
  have hparked : (!s.seq.parked.contains p) = true ↔ p ∉ s.seq.parked := by simp
  unfold seqCued cuedSeq
  rw [if_pos rfl]
  simp only [hin, hseq, inEdit_iff, hparked]
  split
  · rfl
  · rfl

/-- CHASE makes of a cue given up what it makes of a cue out of time. -/
theorem chaseCueFailed_attempts (p : Port) (s : State) : chaseCueFailed p .attempts s = chaseCueFailed p .time s := by
  unfold chaseCueFailed
  cases s.chase p with
  | none => rfl
  | some r => rfl

/-- The report of a cue given up. -/
theorem withDeck_reportCueFailed {w : Requester} (hw : w ≠ .sequencer) :
    reportCueFailed ⟨p, .attempts, w⟩ (withDeck p d t k ch ns s) = withDeck p d t k (uncuedChase w ch) ns s := by
  cases w with
  | console => rfl
  | sequencer => exact absurd rfl hw
  | chase =>
    refine (chaseCueFailed_attempts p _).trans ((chaseCueFailed_time p _).trans ?_)
    rw [withDeck_chase]
    exact withDeck_setChase

/-! ## Verification (R85) -/

/-- The CUE END notice of a cue with a last stopped frame. -/
def cueEndNotice (p : Port) (o : CueOutcome) (q : Cue) (pos : Nat) : Notice :=
  .cueEnd p { outcome := o, requester := q.requester, attempts := q.attempts, lastStop := some (pos / 64) }

/-- A cue verified. -/
theorem verifyCue_parked (h : (Int.tdiv (posDiff s.std pos q.target) 64).natAbs ≤ (s.profile p).cueTolerance) :
    verifyCue p pos q (withDeck p d t k ch ns s) =
      withDeck p d { enteredTransport .parked t with cue := none } k (cuedChase q.requester ch)
        (putNotice (cueEndNotice p .parked q pos) ns) { s with seq := cuedSeq p q.requester s } := by
  unfold verifyCue
  simp only [withDeck_std, withDeck_profile, h, if_true]
  unfold cueSucceeds raiseCueEnd
  simp only [withDeck_enterState, withDeck_transport, withDeck_setTransport, withDeck_raise]
  cases hq : q.requester with
  | console => simp only [cueEndNotice, hq]; rfl
  | sequencer => simp only [cueEndNotice, hq, withDeck_seqCued]; rfl
  | chase => simp only [cueEndNotice, hq, withDeck_chaseCued]; rfl

/-- A cue tried again. -/
theorem verifyCue_again (h : (s.profile p).cueTolerance < (Int.tdiv (posDiff s.std pos q.target) 64).natAbs) (ha : q.attempts < (s.profile p).cueAttempts) :
    verifyCue p pos q (withDeck p d t k ch ns s) =
      withDeck p (handedPort (.seek q.target) d)
        { handedTransport (.seek q.target) t with
          cue := some { q with attempts := q.attempts + 1, acked := false, lastStop := some (pos / 64) } }
        (handedTracker (s.profile p).settle (.seek q.target) t k) ch ns s := by
  unfold verifyCue
  simp only [withDeck_std, withDeck_profile, h.not_ge, ha, if_true, if_false, withDeck_handTransport, withDeck_transport,
    withDeck_setTransport]

/-- A cue given up. -/
theorem verifyCue_givenUp (h : (s.profile p).cueTolerance < (Int.tdiv (posDiff s.std pos q.target) 64).natAbs) (ha : (s.profile p).cueAttempts ≤ q.attempts)
    (hw : q.requester ≠ .sequencer) :
    verifyCue p pos q (withDeck p d t k ch ns s) =
      withDeck p (handedPort .halt d) { enteredTransport .idle (handedTransport .halt t) with cue := none }
        (handedTracker (s.profile p).settle .halt t k) (uncuedChase q.requester ch)
        (putNotice (cueEndNotice p (.failed .attempts) q pos) ns) s := by
  unfold verifyCue
  simp only [withDeck_std, withDeck_profile, h.not_ge, ha.not_gt, if_false]
  unfold cueGivenUp raiseCueEnd
  simp only [withDeck_handTransport, withDeck_enterState, withDeck_transport, withDeck_setTransport, withDeck_raise,
    withDeck_reportCueFailed hw, cueEndNotice]

/-! ## The reply -/

/-- A deck that has not acknowledged, or has not stopped: the acknowledgement alone is noted. -/
theorem cueReply_running (hq : t.cue = some q) (h : q.acked = false ∨ (c.mode ≠ .parked ∧ c.mode ≠ .halted)) :
    cueReply p kind c pos (withDeck p d t k ch ns s) =
      withDeck p d { t with cue := some { q with acked := q.acked || kind = .seek } } k ch ns s := by
  have hself : { t with cue := some q } = t := by rw [← hq]
  unfold cueReply
  simp only [withDeck_transport, hq, withDeck_setTransport]
  cases ha : q.acked with
  | false =>
    by_cases hk : kind = .seek
    · simp [hk]
    · have : { q with acked := false } = q := by rw [← ha]
      simp [hk, this, hself]
  | true =>
    have hmode : ¬ (c.mode = .parked ∨ c.mode = .halted) :=
      fun hm => h.elim (fun hf => absurd (ha.symm.trans hf) nofun) fun ⟨h1, h2⟩ => hm.elim h1 h2
    have : { q with acked := true } = q := by rw [← ha]
    simp [hmode, this, hself]

/-- A deck that has acknowledged and stopped. -/
theorem cueReply_stopped (hq : t.cue = some q) (ha : q.acked = true) (hmode : c.mode = .parked ∨ c.mode = .halted) :
    cueReply p kind c pos (withDeck p d t k ch ns s) = verifyCue p pos q (withDeck p d t k ch ns s) := by
  unfold cueReply
  simp only [withDeck_transport, hq, ha, Bool.not_true, Bool.false_eq_true, if_false, hmode, if_true]

end

/-! ## The command's work -/

/-- A command handed to an ONLINE port whose reply is taken. -/
theorem handedPort_online {x : Exchange} {c : Condition} {pos : Nat} {cmd : DeckCmd} {d : DeckPort} (hl : d.line = .online) :
    handedPort cmd (repliedPort x c pos d) = { repliedPort x c pos d with
      permission := permissionAfter cmd d.permission, commands := enqueue cmd d.commands } := by
  have hline : (repliedPort x c pos d).line = .online := hl
  unfold handedPort
  rw [if_pos hline]
  rfl

section
variable {p : Port} {d : DeckPort} {t : Transport} {k k' : Tracker} {ch ch' : Option Chase} {ns : List Notice} {s u : State}
  {x : Exchange} {c : Condition} {pos : Nat} {chars : List LineChar}

/-- A good reply of an ONLINE deck, its flags as before and nothing recording unasked: what its mode makes of the records. -/
theorem deckReply_quiet (hr : s.inReset = false) (hs : PollsShort u) (hx : (s.port p).exchange = some x)
    (hread : readReply s.std (cmdKind x.cmd) chars = some (c, pos)) (hh : u.holder p ≠ .sequencer)
    (hl : (s.port p).line = .online) (hrem : c.remote = true) (hmode : c.mode ≠ .noTape)
    (hflags : ∀ o ∈ (s.transport p).condition, o.threaded = c.threaded ∧ o.inhibit = c.inhibit)
    (hguard : c.tracks = 0 ∨ (s.port p).permission = true)
    (hsample : sampleTested (s.tracker p) (s.transport p) = false ∨
      (posDiff s.std pos (s.tracker p).position).natAbs ≤ (s.profile p).plausibility * 64)
    (hreply : modeReply p (cmdKind x.cmd) c pos (withDeck p (repliedPort x c pos (s.port p)) ((s.transport p).reported c)
      (acceptSample pos (s.tracker p)) (s.chase p) s.notices s) = withDeck p d t k ch ns u)
    (hperm : d.permission = (s.port p).permission) :
    ∃ v, exec (.deckReply p chars) s = .next v ∧ DeckPut p { d with countdown := cadence v p } t k ch ns u v := by
  refine work_withDeck_reload hr hs ?_
  rw [deckReplyWork_good hx hread, goodReply_online hl hrem hmode (takeSample_accepted hsample), hreply,
    conditionChange_quiet (by rw [withDeck_holder]; exact hh) hflags,
    recordGuard_quiet (by rw [withDeck_port, hperm]; exact hguard)]

/-- A good reply of a CUEING deck. -/
theorem deckReply_cueing (hr : s.inReset = false) (hs : PollsShort u) (hx : (s.port p).exchange = some x)
    (hread : readReply s.std (cmdKind x.cmd) chars = some (c, pos)) (hh : u.holder p ≠ .sequencer)
    (hl : (s.port p).line = .online) (hrem : c.remote = true) (hst : (s.transport p).state = .cueing)
    (hmode : c.mode ≠ .noTape ∧ c.mode ≠ .standby)
    (hflags : ∀ o ∈ (s.transport p).condition, o.threaded = c.threaded ∧ o.inhibit = c.inhibit)
    (hguard : c.tracks = 0 ∨ (s.port p).permission = true)
    (hreply : cueReply p (cmdKind x.cmd) c pos (withDeck p (repliedPort x c pos (s.port p)) ((s.transport p).reported c)
      (acceptSample pos (s.tracker p)) (s.chase p) s.notices s) = withDeck p d t k ch ns u)
    (hperm : d.permission = (s.port p).permission) :
    ∃ v, exec (.deckReply p chars) s = .next v ∧ DeckPut p { d with countdown := cadence v p } t k ch ns u v := by
  refine deckReply_quiet hr hs hx hread hh hl hrem hmode.1 hflags hguard
    (.inl (sampleTested_eq_false (by rw [hst]; decide) _)) ?_ hperm
  rw [← hreply]
  exact modeReply_cueing _ (by rw [withDeck_transport]; exact hst) hmode

end
end Sys2Proof.Machine

open Sys2Proof Sys2Proof.Machine

/-- Settles O56: the sample of a CUEING deck is not tested, and each way its cue can go puts the records of the deck. -/
theorem repliesOfACueingDeckAreVerified : Obligations.RepliesOfACueingDeckAreVerified := by
  refine ⟨?_, ?_, ?_, ?_⟩
  · intro s p x c pos chars q hr hs hx hread hh hl hrem hst hcue hmode hflags hguard hrun
    obtain ⟨v, hv, put⟩ := deckReply_cueing hr hs hx hread hh hl hrem hst hmode hflags hguard
      (cueReply_running (t := (s.transport p).reported c) hcue hrun) rfl
    refine ⟨v, hv, ?_, put.transport, put.tracker, put.other, put.unmarked rfl rfl⟩
    rw [put.port, ← hl]
    rfl
  · intro s p x c pos chars q off hr hs hx hread hh hl hrem hst hcue hmode hflags hguard hack hstop hoff htol
    subst hoff
    obtain ⟨v, hv, put⟩ := deckReply_cueing (u := { s with seq := cuedSeq p q.requester s }) hr hs hx hread hh hl hrem hst hmode
      hflags hguard ((cueReply_stopped (t := (s.transport p).reported c) hcue hack hstop).trans (verifyCue_parked htol)) rfl
    refine ⟨v, hv, ?_, ?_, put.tracker, put.other, put.notices, ?_, ?_, ?_, ?_⟩
    · rw [put.port, ← hl]
      rfl
    · rw [put.transport]
      simp [enteredTransport, Transport.reported, hst]
    · rw [put.chases, cuedChase]
      split
      · rfl
      · exact PerPort.set_get _ _
    · exact fun hw => (congrArg State.seq put.rest).trans (if_neg hw)
    · exact fun hw => (congrArg State.seq put.rest).trans (if_pos hw)
    · exact congrArg (fun w : State => { w with seq := s.seq }) put.rest
  · intro s p x c pos chars q off hr hs hx hread hh hl hrem hst hcue hmode hflags hguard hack hstop hoff htol hatt
    subst hoff
    obtain ⟨v, hv, put⟩ := deckReply_cueing hr hs hx hread hh hl hrem hst hmode hflags hguard
      ((cueReply_stopped (t := (s.transport p).reported c) hcue hack hstop).trans (verifyCue_again htol hatt)) rfl
    refine ⟨v, hv, ?_, put.transport, put.tracker, put.other, put.unmarked rfl rfl⟩
    rw [put.port, handedPort_online hl]
    rfl
  · intro s p x c pos chars q off hr hs hx hread hh hl hrem hst hcue hmode hflags hguard hack hstop hoff htol hatt hw
    subst hoff
    obtain ⟨v, hv, put⟩ := deckReply_cueing hr hs hx hread hh hl hrem hst hmode hflags hguard
      ((cueReply_stopped (t := (s.transport p).reported c) hcue hack hstop).trans (verifyCue_givenUp htol hatt hw)) rfl
    refine ⟨v, hv, ?_, ?_, put.tracker, put.other, put.notices, ?_, put.rest⟩
    · rw [put.port, handedPort_online hl]
      rfl
    · rw [put.transport]
      simp [enteredTransport, handedTransport, Transport.reported, commandSpeed, cmdKind, hst]
    · rw [put.chases, uncuedChase]
      split
      · rfl
      · exact PerPort.set_get _ _
end

-- ==== The replies every block takes ====
section
/-! The tape-out report (R107), the return of a deck (R66, R77), and the obligation about the replies that every block takes. -/

namespace Sys2Proof.Machine

/-- A notice raised twice is raised once. -/
theorem putNotice_putNotice_self (n : Notice) (ns : List Notice) : putNotice n (putNotice n ns) = putNotice n ns := by
  induction ns with
  | nil => simp [putNotice]
  | cons m rest ih =>
    by_cases h1 : noticeSlot n < noticeSlot m
    · simp [putNotice, h1]
    · by_cases h2 : noticeSlot n = noticeSlot m
      · simp [putNotice, h2]
      · simp [putNotice, h1, h2, ih]

/-! ## The tape-out report (R107) -/

section
variable {p : Port} {s : State}

/-- The reels with none mounted on a port. -/
def reelsWithout (p : Port) (rs : Vector (Option Reel) 64) : Vector (Option Reel) 64 :=
  rs.map (fun y => y.map (fun y => if y.mounted = some p then { y with mounted := none } else y))

/-- At most one reel is mounted on a port: two such entries are one. -/
theorem mounted_once (h : s.reels.toList.countP (fun x => x.any (fun y => y.mounted = some p)) ≤ 1) {i j : Nat} {r r' : Reel}
    (hi : s.reels[i]? = some (some r)) (hj : s.reels[j]? = some (some r')) (hr : r.mounted = some p)
    (hr' : r'.mounted = some p) : i = j := by
  by_contra hij
  have hpair := (pairwise_iff_places (fun _ _ hab hba => hab hba.symm)).1 (countP_le_one_iff.1 h) i j (some r) (some r') hij
    (by simpa using hi) (by simpa using hj)
  exact hpair (by simp [hr, hr'])

/-- No reel is mounted on the port. -/
theorem reelsWithout_self (h : ∀ (i : Nat) (r : Reel), s.reels[i]? = some (some r) → r.mounted ≠ some p) :
    reelsWithout p s.reels = s.reels := by
  refine Vector.ext fun i hi => ?_
  rw [reelsWithout, Vector.getElem_map]
  cases hx : s.reels[i] with
  | none => rfl
  | some r =>
    have hne := h i r (by rw [Vector.getElem?_eq_getElem hi, hx])
    simp [hne]

/-- The one reel mounted on the port is cleared. -/
theorem setReel_eq_reelsWithout (h : s.reels.toList.countP (fun x => x.any (fun y => y.mounted = some p)) ≤ 1) {i : Nat} {r : Reel}
    (hi : s.reels[i]? = some (some r)) (hr : r.mounted = some p) :
    s.reels.setIfInBounds i (some { r with mounted := none }) = reelsWithout p s.reels := by
  refine Vector.ext fun j hj => ?_
  rw [reelsWithout, Vector.getElem_map, Vector.getElem_setIfInBounds]
  by_cases hij : i = j
  · subst hij
    have hx : s.reels[i] = some r := by simpa [Vector.getElem?_eq_getElem hj] using hi
    simp [hx, hr]
  · rw [if_neg hij]
    cases hx : s.reels[j] with
    | none => rfl
    | some r' =>
      have hne : r'.mounted ≠ some p := fun hr' =>
        hij (mounted_once h hi (by rw [Vector.getElem?_eq_getElem hj, hx]) hr hr')
      simp [hne]

/-- What a tape-out report does: no reel stays mounted on the port, and the REEL notice of the one that was is pending. -/
theorem tapeOut_eq (h : s.reels.toList.countP (fun x => x.any (fun y => y.mounted = some p)) ≤ 1) :
    ∃ ns, tapeOut p s = { s with reels := reelsWithout p s.reels, notices := ns } ∧
      (∀ (i : Nat) (r : Reel), s.reels[i]? = some (some r) → r.mounted = some p → Notice.reel p (i + 1) r.name ∈ ns) ∧
      ∀ q n, Notice.deck q n ∈ s.notices → Notice.deck q n ∈ ns := by
  cases hon : reelOn s p with
  | none =>
    have hnone : ∀ (i : Nat) (r : Reel), s.reels[i]? = some (some r) → r.mounted ≠ some p := fun i r hi =>
      reelOn_eq_none hon (i := i + 1) hi
    refine ⟨s.notices, ?_, fun i r hi hr => absurd hr (hnone i r hi), fun _ _ hn => hn⟩
    rw [reelsWithout_self hnone, tapeOut, hon]
  | some j =>
    obtain ⟨r, hat, hr⟩ := reelOn_eq_some hon
    obtain ⟨i, rfl⟩ : ∃ i, j = i + 1 := Nat.exists_eq_succ_of_ne_zero fun h0 => by rw [h0] at hat; cases hat
    have hi : s.reels[i]? = some (some r) := hat
    refine ⟨putNotice (.reel p (i + 1) r.name) s.notices, ?_, ?_, fun q n hn => putNotice_keeps hn ?_⟩
    · rw [← setReel_eq_reelsWithout h hi hr]
      simp only [tapeOut, hon, hat, setMount]
      rfl
    · intro i' r' hi' hr'
      obtain rfl := mounted_once h hi hi' hr hr'
      obtain rfl : r = r' := by simpa using hi.symm.trans hi'
      exact putNotice_mem _ _
    · have h1 : portNum q ≤ 6 := by cases q <;> decide
      simp only [noticeSlot]
      omega
end

section
variable {p : Port} {d : DeckPort} {t : Transport} {k : Tracker} {ch : Option Chase} {ns : List Notice} {s : State}
  {x : Exchange} {c : Condition} {pos : Nat}

/-! ## A deck without a tape (R78) -/

/-- The transport record of a deck whose tape is gone. -/
def Transport.emptied (t : Transport) : Transport := { t.still .empty with cue := none, motion := none, wakeCount := 0 }

/-- The tracker record of a deck whose position is unknown. -/
def Tracker.forgotten (k : Tracker) : Tracker := { k with known := false }

/-- The deck after its tape was found gone. -/
theorem withDeck_tapeGone (hh : s.holder p ≠ .sequencer) : tapeGone p c (withDeck p d t k ch ns s) =
    withDeck p d t.emptied k.forgotten none
      (putNotice (deckNotice p d.line .empty (some c)) (failureNotices p .tape t ns)) s := by
  have hf : tapeFallen p c (withDeck p d t k ch ns s) =
      withDeck p d t.emptied k.forgotten none
        (putNotice (deckNotice p d.line .empty (some c)) (failureNotices p .tape t ns)) s := by
    unfold tapeFallen tapeLost
    simp only [withDeck_transport, withDeck_notices, withDeck_setTransport, withDeck_withNotices, withDeck_raiseDeck,
      withDeck_forgetPosition, withDeck_removeChase]
    rfl
  rw [tapeGone_eq, hf, faultHeld_of_ne]
  exact hh

/-- The tape-out report on the records of a deck. -/
theorem withDeck_tapeOut (h : s.reels.toList.countP (fun x => x.any (fun y => y.mounted = some p)) ≤ 1) :
    ∃ ns', tapeOut p (withDeck p d t k ch ns s) = withDeck p d t k ch ns' { s with reels := reelsWithout p s.reels } ∧
      (∀ (i : Nat) (r : Reel), s.reels[i]? = some (some r) → r.mounted = some p → Notice.reel p (i + 1) r.name ∈ ns') ∧
      ∀ n, Notice.deck p n ∈ ns → Notice.deck p n ∈ ns' := by
  obtain ⟨ns', hout, hreels, hdecks⟩ := tapeOut_eq (s := withDeck p d t k ch ns s) h
  exact ⟨ns', hout, hreels, hdecks p⟩

/-- A NO TAPE reply of a deck on the line. -/
theorem modeReply_noTape {u : State} (kind : CmdKind) (hst : (u.transport p).state ∉ [.offline, .panel, .empty])
    (hmode : c.mode = .noTape) : modeReply p kind c pos u = tapeGone p c u := by
  unfold modeReply
  rw [hmode]
  cases h : (u.transport p).state <;> simp [h] at hst ⊢

/-- The stages of a NO TAPE reply of an ONLINE deck. -/
theorem goodReply_noTape (hl : (s.port p).line = .online) (hrem : c.remote = true) (hmode : c.mode = .noTape) :
    goodReply p x c pos (closeExchange p s) = recordGuard p x.cmd c (tapeOut p (conditionChange p (s.transport p).condition c
      (modeReply p (cmdKind x.cmd) c pos (withDeck p (repliedPort x c pos (s.port p)) ((s.transport p).reported c) (s.tracker p)
        (s.chase p) s.notices s)))) := by
  have hline := lineReply_online (c := c) (u := withDeck p { s.port p with exchange := none, misses := 0 } (s.transport p)
    (s.tracker p) (s.chase p) s.notices s) (by rw [withDeck_port]; exact hl) hrem
  unfold goodReply takeCondition
  simp only [closeExchange_misses, hline, hmode, if_true, withDeck_port, withDeck_setPort, withDeck_transport,
    withDeck_setTransport]
  rfl

/-- What is noted of a DECK notice already pending. -/
theorem conditionChange_noted (hh : s.holder p ≠ .sequencer) (old : Option Condition)
    (hmem : deckNotice p d.line t.state (some c) ∈ ns) :
    ∃ ns', conditionChange p old c (withDeck p d t k ch ns s) = withDeck p d t k ch ns' s ∧
      deckNotice p d.line t.state (some c) ∈ ns' := by
  rcases conditionChange_cases (u := withDeck p d t k ch ns s) hh old c with h | h
  · exact ⟨ns, h, hmem⟩
  · exact ⟨_, h.trans (withDeck_raiseDeck _), putNotice_mem _ _⟩

/-- A change of the flags adds nothing to a DECK notice just raised. -/
theorem conditionChange_again (hh : s.holder p ≠ .sequencer) (old : Option Condition) :
    conditionChange p old c (withDeck p d t k ch (putNotice (deckNotice p d.line t.state (some c)) ns) s) =
      withDeck p d t k ch (putNotice (deckNotice p d.line t.state (some c)) ns) s := by
  rcases conditionChange_cases (u := withDeck p d t k ch (putNotice (deckNotice p d.line t.state (some c)) ns) s) hh old c
    with h | h
  · exact h
  · rw [h, withDeck_raiseDeck, putNotice_putNotice_self]

/-- A NO TAPE reply of an ONLINE deck that has a tape, nothing recording unasked. -/
theorem goodReply_tapeOut (hh : s.holder p ≠ .sequencer) (hl : (s.port p).line = .online) (hrem : c.remote = true)
    (hmode : c.mode = .noTape) (hst : (s.transport p).state ∉ [.offline, .panel, .empty])
    (honce : s.reels.toList.countP (fun x => x.any (fun y => y.mounted = some p)) ≤ 1)
    (hguard : c.tracks = 0 ∨ (s.port p).permission = true) :
    ∃ ns, goodReply p x c pos (closeExchange p s) = withDeck p (repliedPort x c pos (s.port p))
        ((s.transport p).reported c).emptied
        (s.tracker p).forgotten none ns { s with reels := reelsWithout p s.reels } ∧
      (∀ (i : Nat) (r : Reel), s.reels[i]? = some (some r) → r.mounted = some p → Notice.reel p (i + 1) r.name ∈ ns) ∧
      deckNotice p .online .empty (some c) ∈ ns := by
  have hgone : modeReply p (cmdKind x.cmd) c pos (withDeck p (repliedPort x c pos (s.port p)) ((s.transport p).reported c)
      (s.tracker p) (s.chase p) s.notices s) = _ :=
    (modeReply_noTape _ (by rw [withDeck_transport]; exact hst) hmode).trans (withDeck_tapeGone hh)
  obtain ⟨ns, hnoted, hmem⟩ := conditionChange_noted (d := repliedPort x c pos (s.port p))
    (t := ((s.transport p).reported c).emptied)
    (k := (s.tracker p).forgotten) (ch := none) hh (s.transport p).condition
    (putNotice_mem (deckNotice p (repliedPort x c pos (s.port p)).line .empty (some c))
      (failureNotices p .tape ((s.transport p).reported c) s.notices))
  obtain ⟨ns', hout, hreels, hdecks⟩ := withDeck_tapeOut (d := repliedPort x c pos (s.port p))
    (t := ((s.transport p).reported c).emptied) (k := (s.tracker p).forgotten) (ch := none) (ns := ns) honce
  refine ⟨ns', ?_, hreels, hdecks _ (hl ▸ hmem)⟩
  rw [goodReply_noTape hl hrem hmode, hgone, hnoted, hout, recordGuard_quiet]
  rw [withDeck_port]
  exact hguard

/-! ## A deck that returns (R66, R77) -/

/-- A deck in HALTED or PARKED stands in IDLE. -/
theorem stateFromMode_stopped {mode : DeckMode} (h : mode = .halted ∨ mode = .parked) :
    stateFromMode p mode (withDeck p d t k ch ns s) = withDeck p d (t.still .idle) k ch ns s := by
  rcases h with rfl | rfl
  · exact withDeck_still .idle
  · exact withDeck_still .idle

/-- The line's work for a deck that returns to an OFFLINE port, stopped. -/
theorem lineReply_return (hl : d.line = .offline) (hrem : c.remote = true) (hmode : c.mode = .halted ∨ c.mode = .parked) :
    lineReply p c (withDeck p d t k ch ns s) = withDeck p { d with line := .online } (t.still .idle) k ch
      (putNotice (deckNotice p .online .idle (some c)) ns) s := by
  unfold lineReply
  simp only [withDeck_port, hl, hrem, withDeck_setLine0, if_true, stateFromMode_stopped hmode, withDeck_raiseDeck]
  rfl

/-- A good reply that brings a stopped deck back from OFFLINE, nothing recording. -/
theorem goodReply_return (hh : s.holder p ≠ .sequencer) (hl : (s.port p).line = .offline) (hagree : TransportsAgree s)
    (hrem : c.remote = true) (hmode : c.mode = .halted ∨ c.mode = .parked) (htracks : c.tracks = 0) :
    goodReply p x c pos (closeExchange p s) = withDeck p { repliedPort x c pos (s.port p) with line := .online }
      (((s.transport p).still .idle).reported c) (acceptSample pos (s.tracker p)) (s.chase p)
      (putNotice (deckNotice p .online .idle (some c)) s.notices) s := by
  obtain ⟨⟨hoff, -⟩, hknown⟩ := hagree p (mem_allPorts p)
  have hk : (s.tracker p).known = false := hknown (.inl (hoff.1 hl))
  have hm : c.mode ≠ .noTape ∧ c.mode ≠ .standby := by rcases hmode with h | h <;> rw [h] <;> decide
  have htested : sampleTested (s.tracker p) ((s.transport p).still .idle) = false := by simp [sampleTested, hk]
  rw [goodReply_stages hm.1 (lineReply_return (d := { s.port p with exchange := none, misses := 0 }) hl hrem hmode)
    (takeSample_accepted (.inl htested)), modeReply_kept _ (by rw [withDeck_transport]; exact List.mem_cons_self) hm]
  refine (congrArg (recordGuard p x.cmd c) (conditionChange_again (t := ((s.transport p).still .idle).reported c) hh _)).trans ?_
  exact recordGuard_quiet (.inl htracks)

/-! ## Recording unasked (R69) -/

/-- The guard's DISENGAGE. -/
theorem withDeck_recordGuard {sent : DeckCmd} (hl : d.line = .online) (ht : c.tracks ≠ 0) (hp : d.permission = false)
    (hc : DeckCmd.disengage ∉ d.commands) (hs : sent ≠ .disengage) :
    recordGuard p sent c (withDeck p d t k ch ns s) = withDeck p (handedPort .disengage d) t k ch ns s := by
  unfold recordGuard
  simp only [withDeck_port, withDeck_handCommand]
  exact if_pos ⟨hl, ht, by simpa using hp, by simpa using hc, hs⟩

/-- A DISENGAGE already pending or in flight keeps the guard still. -/
theorem recordGuard_waits {sent : DeckCmd} {u : State} (h : DeckCmd.disengage ∈ (u.port p).commands ∨ sent = .disengage) :
    recordGuard p sent c u = u := by
  rcases recordGuard_cases p sent c u with ⟨-, -, -, -, hc, hs⟩ | h'
  · exact h.elim (absurd · hc) (absurd · hs)
  · exact h'

/-- A good reply of an ONLINE deck at rest or in motion, whatever its sample and flags: what is left for the guard. -/
theorem goodReply_kept (hh : s.holder p ≠ .sequencer) (hl : (s.port p).line = .online) (hrem : c.remote = true)
    (hmode : c.mode ≠ .noTape ∧ c.mode ≠ .standby) (hst : (s.transport p).state ∈ [.idle, .parked, .rolling, .winding]) :
    ∃ k ch ns, goodReply p x c pos (closeExchange p s) = recordGuard p x.cmd c
      (withDeck p (repliedPort x c pos (s.port p)) ((s.transport p).reported c) k ch ns s) := by
  obtain ⟨k, ch, htake⟩ := takeSample_some (p := p) (d := repliedPort x c pos (s.port p)) (t := s.transport p)
    (k := s.tracker p) (ch := s.chase p) (ns := s.notices) (s := s) (sampleTested (s.tracker p) (s.transport p)) pos
  have hkept := modeReply_kept (pos := pos) (c := c) (u := withDeck p (repliedPort x c pos (s.port p))
    ((s.transport p).reported c) k ch s.notices s) (cmdKind x.cmd) (by rw [withDeck_transport]; exact hst) hmode
  rw [goodReply_online hl hrem hmode.1 htake, hkept]
  rcases conditionChange_cases (u := withDeck p (repliedPort x c pos (s.port p)) ((s.transport p).reported c) k ch s.notices s)
    hh (s.transport p).condition c with h | h
  · exact ⟨k, ch, s.notices, by rw [h]⟩
  · exact ⟨k, ch, _, by rw [h, withDeck_raiseDeck]⟩

end
end Sys2Proof.Machine

open Sys2Proof Sys2Proof.Machine

/-- Settles O40: each block's part of the reply puts the records of the deck, and the guard and the reel table come last. -/
theorem goodRepliesAreTakenByEveryBlock : Obligations.GoodRepliesAreTakenByEveryBlock := by
  refine ⟨?_, ?_, ?_, ?_, ?_, ?_⟩
  · intro s p x c pos chars hr hs hx hread hh hl hrem hmode hst hflags hguard hsample
    obtain ⟨v, hv, put⟩ := deckReply_quiet hr hs hx hread hh hl hrem hmode.1 hflags hguard hsample
      (modeReply_kept _ (by rw [withDeck_transport]; exact hst) hmode) rfl
    refine ⟨v, hv, ?_, put.transport, put.tracker, put.other, put.unmarked rfl rfl⟩
    rw [put.port, ← hl]
    rfl
  · intro s p x c pos chars hr hs hx hread hh hl hrem htape htracks hperm hst hpend hmode hcmd
    obtain ⟨k, ch, ns, hgood⟩ := goodReply_kept (x := x) (pos := pos) hh hl hrem ⟨htape, hmode⟩ hst
    rw [withDeck_recordGuard (d := repliedPort x c pos (s.port p)) hl htracks hperm hpend hcmd, handedPort_online hl] at hgood
    obtain ⟨v, hv, put⟩ := work_withDeck_reload hr hs ((deckReplyWork_good hx hread).trans (congrArg (reload p) hgood))
    exact ⟨v, hv, congrArg DeckPort.commands put.port, congrArg DeckPort.permission put.port⟩
  · intro s p x c pos chars hr hs hx hread hh hl hrem htape htracks hperm hst hpend hmode
    obtain ⟨k, ch, ns, hgood⟩ := goodReply_kept (x := x) (pos := pos) hh hl hrem ⟨htape, hmode⟩ hst
    rw [recordGuard_waits (by rw [withDeck_port]; exact hpend)] at hgood
    obtain ⟨v, hv, put⟩ := work_withDeck_reload hr hs ((deckReplyWork_good hx hread).trans (congrArg (reload p) hgood))
    exact ⟨v, hv, (congrArg DeckPort.commands put.port :), (congrArg DeckPort.permission put.port).trans hperm⟩
  · intro s p x c pos chars hr hs hx hread hh hl hagree hcmds hrem hmode htracks
    obtain ⟨v, hv, put⟩ := work_withDeck_reload hr hs ((deckReplyWork_good hx hread).trans (congrArg (reload p)
      (goodReply_return (x := x) (pos := pos) hh hl hagree hrem hmode htracks)))
    exact ⟨v, hv, put.port, put.transport, put.tracker, put.notices, put.other, put.unchased rfl⟩
  · intro s p x c pos chars hr hs hx hread hh hl hrem hmode hst honce hguard
    have hst' : (s.transport p).state ∉ [.offline, .panel, .empty] := fun h => by
      cases hs : (s.transport p).state <;> simp [hs] at h hst
    obtain ⟨ns, hgood, hreels, hdeck⟩ := goodReply_tapeOut (x := x) (pos := pos) hh hl hrem hmode hst' honce hguard
    obtain ⟨v, hv, put⟩ := work_withDeck_reload (s := { s with reels := reelsWithout p s.reels }) hr hs
      ((deckReplyWork_good hx hread).trans (congrArg (reload p) hgood))
    refine ⟨v, hv, ?_, ?_, put.tracker, put.chase, (congrArg State.reels put.rest :), ?_, ?_, put.other, (congrArg State.list put.rest :),
      (congrArg State.seq put.rest :), (congrArg State.holders put.rest :), (congrArg State.mix put.rest :), (congrArg State.gpi put.rest :),
      (congrArg State.live put.rest :)⟩
    · rw [put.port, ← hl]
      rfl
    · rw [put.transport]
      exact ⟨rfl, rfl, rfl, rfl⟩
    · intro i _ r hi hr
      rw [put.notices]
      exact hreels i r (Option.join_eq_some_iff.1 hi) hr
    · rw [put.notices]
      exact List.any_eq_true.2 ⟨_, hdeck, by simp [deckNotice, hmode]⟩
  · intro s p chars hs hx
    refine work_idle hs ?_
    unfold deckReplyWork
    rw [hx]
end
